-- ==== Sys2Proof/Word.lean ====
section
/-! DEFINITION. The plain words of the model: bytes, ticks, the numbered things of the line (ports,
drop-off windows), the two tunnels and data kept once per tunnel. -/

namespace Sys2Proof

/-- One byte of a station frame or of a supervisor transaction. -/
abbrev Byte := BitVec 8

/-- A tick of 0.1 s as the 32-bit tick counter holds it (R185). -/
abbrev Tick := BitVec 32

/-- A station port, S0 to S7 (Chapter 10). -/
abbrev Port := Fin 8

/-- A drop-off window, W0 to W5 (R147). -/
abbrev Window := Fin 6

/-- The two wash tunnels (Chapter 4). -/
inductive Tunnel where
  | a
  | b
  deriving DecidableEq, Repr

/-- Something the part holds once per tunnel. -/
structure PerTunnel (α : Type) where
  /-- what tunnel A has -/
  a : α
  /-- what tunnel B has -/
  b : α
  deriving DecidableEq, Repr

/-- What tunnel `t` has. -/
def PerTunnel.get {α : Type} (x : PerTunnel α) : Tunnel → α
  | .a => x.a
  | .b => x.b

/-- `x` with tunnel `t`'s part replaced. -/
def PerTunnel.set {α : Type} (x : PerTunnel α) (t : Tunnel) (v : α) : PerTunnel α :=
  match t with
  | .a => { x with a := v }
  | .b => { x with b := v }

/-- The other tunnel. -/
def Tunnel.other : Tunnel → Tunnel
  | .a => .b
  | .b => .a

end Sys2Proof
end

