-- ==== Sys2Proof/Syntax.lean ====
section
/-! DEFINITION. The commands of the part: one constructor per row of spec/opcode_table.json, with the row's
operands at the width they have on the wires. -/

namespace Sys2Proof

/-- The levels of the eight straps when they are sampled (R185, R186). -/
structure Straps where
  /-- ID4 to ID0, as a number -/
  id : BitVec 5
  /-- the parity strap IDP, high or low -/
  parity : Bool
  /-- CKS1 -/
  cks1 : Bool
  /-- CKS0 -/
  cks0 : Bool
  deriving DecidableEq, Repr

/-- What a supervisor command transaction says of its own length (R179): the length field in its bytes 1
and 2, and the bytes clocked before CS went high, the command code and the length field counted. -/
structure Transfer where
  /-- the payload length field n -/
  length : BitVec 16
  /-- bytes clocked in the whole transaction -/
  clocked : Nat
  deriving DecidableEq, Repr

/-- The READ_RECORD payload: its selector byte and what follows it (R180). -/
inductive RecordKey where
  /-- selector 0, then a tag -/
  | byTag (tag : BitVec 24)
  /-- selector 1, then a slot -/
  | bySlot (slot : Byte)
  /-- a selector above 1 -/
  | badSelector (selector : Byte)
  deriving DecidableEq, Repr

/-- The commands. A station request (`sight` to `relocate`) is a request frame that arrived whole on port `p`
and passed the frame check of R166; a supervisor command carries its `Transfer`; an expiry names the tunnel
or the rack it is about. -/
inductive Instr where
  /-- POWER_ON, with the strap levels it samples -/
  | powerOn (straps : Straps)
  /-- RST_ASSERT -/
  | rstAssert
  /-- RST_RELEASE, with the strap levels it samples -/
  | rstRelease (straps : Straps)
  /-- TICK -/
  | tick
  /-- FRAME_ARRIVAL: a complete frame, byte by byte but for its lead and length bytes -/
  | frameArrival (p : Port) (identity kind : Byte) (payload : List Byte) (check : Byte)
  /-- PARTIAL_FRAME_TIMEOUT -/
  | partialFrameTimeout (p : Port)
  /-- BREAK -/
  | lineBreak (p : Port)
  /-- FRAME_SENT -/
  | frameSent (p : Port)
  /-- SIGHT -/
  | sight (p : Port) (w : Byte) (tag : BitVec 24)
  /-- DISPATCH, load code 0xFF for none -/
  | dispatch (p : Port) (w load : Byte)
  /-- MODE -/
  | mode (p : Port) (w m : Byte)
  /-- WITHDRAW -/
  | withdraw (p : Port) (tag : BitVec 24)
  /-- QUERY -/
  | query (p : Port) (tag : BitVec 24)
  /-- ADMIT -/
  | admitRequest (p : Port) (tag : BitVec 24)
  /-- SECTION -/
  | sectionReport (p : Port) (stage seq : Byte) (measurement : BitVec 16) (fault : Byte)
  /-- SAMPLE -/
  | sample (p : Port) (temperature : BitVec 16)
  /-- EXIT -/
  | exit (p : Port) (tag : BitVec 24)
  /-- TANK READY -/
  | tankReady (p : Port)
  /-- TANK COLD -/
  | tankCold (p : Port)
  /-- TANK FLUSH_DONE -/
  | tankFlushDone (p : Port)
  /-- TANK FAULT -/
  | tankFault (p : Port)
  /-- EMPTIED -/
  | emptied (p : Port) (tag : BitVec 24)
  /-- RELOCATE on a station port -/
  | relocate (p : Port) (tag : BitVec 24) (target : Byte)
  /-- NOP -/
  | nop (x : Transfer)
  /-- READ_RECORD -/
  | readRecord (x : Transfer) (key : RecordKey)
  /-- READ_PLACE -/
  | readPlace (x : Transfer) (place index : Byte)
  /-- READ_TUNNEL -/
  | readTunnel (x : Transfer) (t : Byte)
  /-- READ_WINDOWS -/
  | readWindows (x : Transfer)
  /-- READ_CONFIG -/
  | readConfig (x : Transfer) (items : List (BitVec 16))
  /-- WRITE_CONFIG -/
  | writeConfig (x : Transfer) (pairs : List (BitVec 16 × BitVec 32))
  /-- RETIRE -/
  | retire (x : Transfer) (tag : BitVec 24)
  /-- the supervisor command RELOCATE -/
  | supervisorRelocate (x : Transfer) (tag : BitVec 24) (target : Byte)
  /-- TUNNEL with action START -/
  | tunnelStart (x : Transfer) (t : Byte)
  /-- TUNNEL with action STOP -/
  | tunnelStop (x : Transfer) (t : Byte)
  /-- TUNNEL with action FLUSH -/
  | tunnelFlush (x : Transfer) (t : Byte)
  /-- TUNNEL with action CLEAR_FAULT -/
  | tunnelClearFault (x : Transfer) (t : Byte)
  /-- WINDOW_MODE -/
  | windowMode (x : Transfer) (w m : Byte)
  /-- WINDOW_CLASS -/
  | windowClass (x : Transfer) (w c : Byte)
  /-- READ_NOTICES -/
  | readNotices (x : Transfer)
  /-- CLEAR_NOTICES -/
  | clearNotices (x : Transfer) (named : BitVec 16)
  /-- LINE_RESTART -/
  | lineRestart (x : Transfer)
  /-- READ_TICK -/
  | readTick (x : Transfer)
  /-- FETCH, with the number of bytes clocked -/
  | fetch (clocked : Nat)
  /-- LOST_RECORD_EXPIRY of the record with this tag -/
  | lostRecordExpiry (tag : BitVec 24)
  /-- IDLE_TIMER_EXPIRY -/
  | idleTimerExpiry (t : Tunnel)
  /-- RESTART_TIMER_EXPIRY -/
  | restartTimerExpiry (t : Tunnel)
  /-- FLUSH_TIMER_EXPIRY -/
  | flushTimerExpiry (t : Tunnel)
  /-- SPACING_EXPIRY -/
  | spacingExpiry (t : Tunnel)
  /-- LAST_ADMISSION_AGE_OUT -/
  | lastAdmissionAgeOut (t : Tunnel)
  /-- BOOSTER_AGEING -/
  | boosterAgeing
  /-- BOOSTER_ENTRY_REMOVAL -/
  | boosterEntryRemoval
  /-- MINIMUM_DWELL_EXPIRY -/
  | minimumDwellExpiry (t : Tunnel)
  /-- MAXIMUM_DWELL_EXPIRY -/
  | maximumDwellExpiry (t : Tunnel)
  /-- CHARACTER_RECEIVED -/
  | characterReceived (p : Port) (c : Byte)
  /-- UNKNOWN_COMMAND_CODE: a transaction that names no command row -/
  | unknownCommandCode (x : Transfer) (code : Byte)
  deriving DecidableEq, Repr

end Sys2Proof
end

