-- ==== Sys2Proof/Config.lean ====
section
/-! DEFINITION. What one part fixes for good (capacities of the spec) and the one value the spec leaves
open, which is an opaque constant: nothing can be proved of it. -/

namespace Sys2Proof.Config

/-- Records the Rack Table can hold (R1). -/
def tableSlots : Nat := 160
/-- The greatest tag, 1,048,575 (1.2). -/
def maxTag : Nat := 1048575
/-- Capacity of COLLECT, the recirculation reserve included (R42). -/
def collectCapacity : Nat := 24
/-- Capacity of each unload table (R45). -/
def unloadCapacity : Nat := 3
/-- Capacity of RETURN (R46). -/
def returnCapacity : Nat := 32
/-- Capacity of HOLD (R47). -/
def holdCapacity : Nat := 8
/-- Capacity of a tunnel lane (R59). -/
def laneCapacity : Nat := 6
/-- Entries the booster history keeps (R88). -/
def boosterEntries : Nat := 8
/-- Frames a transmit list may hold before an unsolicited frame is discarded (R170). -/
def transmitLimit : Nat := 32
/-- Requests a port's request queue holds (R167). -/
def queueLimit : Nat := 2
/-- The longest interval one sample stands for, and the longest untouched reference tick at readiness,
in ticks (R120, R136). -/
def gapLimit : Nat := 20
/-- Bound of heat credit (R123). -/
def maxCredit : Nat := 16777215
/-- Bound of a rack's cycles (R21). -/
def maxCycles : Nat := 65535

/-- FREE VALUE (log entry 8). Whether the frame at the head of port `p`'s transmit list has had its first
character sent when the `draw`-th LINE_RESTART is taken (R178). The spec gives no event at which that
happens, so nothing is known of it. -/
opaque frameStarted : (draw : Nat) → (p : Nat) → Bool

end Sys2Proof.Config
end

