-- ==== Sys2Proof/Machine/State.lean ====
section
/-! DEFINITION. The whole state of the part as plain data: the value sets of the spec, the rack record and its
pass sheet, the tunnel contexts, the windows and the demand queue, the admission state, the ports with their
queues and frames, the notices, the supervisor buffers, the configuration; and the state after power-on. -/

namespace Sys2Proof.Machine

/-! ### Value sets -/

/-- The kind of ware a rack carries (1.2). -/
inductive RackClass where
  | plate | cup | cutlery | tray
  deriving DecidableEq, Repr

/-- The states of a rack (1.2.1). -/
inductive RackState where
  | empty | filling | soiled | washing | clean | held
  deriving DecidableEq, Repr

/-- The places a rack can be in (3.1). `returnLoop` is the spec's RETURN. -/
inductive Place where
  | windowFill (w : Window)
  | windowSpare (w : Window)
  | collect
  | tunnel (t : Tunnel)
  | unload (t : Tunnel)
  | returnLoop
  | hold
  | store
  | unknown
  deriving DecidableEq, Repr

/-- The sections of a tunnel, in the order a rack passes them (4.2). -/
inductive Stage where
  | pre | wash | rinse | final
  deriving DecidableEq, Repr

/-- The outcome of a pass (R137). -/
inductive Verdict where
  | pass | orderFault | seqSlip | sectionFault | missingSection | preHot | washCold | rinseCold
  | interrupted | creditShort
  deriving DecidableEq, Repr

/-- Why a rack is HELD (1.2). -/
inductive HoldCause where
  | repeatFail | recircBlocked | serviceDue | manual | tunnelFault | lostTrack
  deriving DecidableEq, Repr

/-- A record's last outcome (R10). -/
inductive LastOutcome where
  | verdict (v : Verdict)
  | hold (c : HoldCause)
  deriving DecidableEq, Repr

/-- Where a rack goes from an exit gate or an unload table (R139, R161). -/
inductive Destination where
  | unload (t : Tunnel)
  | collect
  | hold
  | returnLoop
  deriving DecidableEq, Repr

/-- The mode of a drop-off window (R147). -/
inductive WindowMode where
  | accept | pause | stop
  deriving DecidableEq, Repr

/-- The state of a tunnel (4.3). -/
inductive TunnelState where
  | off | warming | ready | running | economy | restarting | flushing | closing | fault
  deriving DecidableEq, Repr

/-- The role of a station port (R171). `tunnel a` is TUNNEL_A, `unload b` is UNLOAD_B, and so on. -/
inductive Role where
  | windows
  | infeed
  | tunnel (t : Tunnel)
  | unload (t : Tunnel)
  | handheld
  | unused
  deriving DecidableEq, Repr

/-- The targets of RELOCATE (3.8). -/
inductive Target where
  | hold | collect | store | returnLoop
  deriving DecidableEq, Repr

/-- The conditions of a TANK report (R66). -/
inductive TankCondition where
  | ready | cold | flushDone | fault
  deriving DecidableEq, Repr

/-- When a returned notice leaves the set (R184). -/
inductive ClearMode where
  | writeBack | clearOnRead
  deriving DecidableEq, Repr

/-- The members of the notice set (11.4). -/
inductive Notice where
  | tableFull | foreignTag | unproven | lostRetired
  | trackFault (t : Tunnel)
  | exitBlocked (t : Tunnel)
  | tunnelFault (t : Tunnel)
  | holdFull | repeatFail | serviceDue | starved | wrongLine | identityFallback
  deriving DecidableEq, Repr

/-! ### The rack record -/

/-- A yes or no for each section but FINAL: a tunnel's section enables (R63), or the required sections of a
pass, to which FINAL always belongs (R98). -/
structure Stages where
  /-- PRE -/
  pre : Bool
  /-- WASH -/
  wash : Bool
  /-- RINSE -/
  rinse : Bool
  deriving DecidableEq, Repr

/-- A stored section report (6.5). -/
structure Fragment where
  /-- the seq as reported -/
  seq : Byte
  /-- the measurement in 0.1 °C, absent for NONE -/
  measurement : Option Nat
  /-- the fault code, 0 for none -/
  faultCode : Nat
  /-- the reported seq differed from the rack's admission seq -/
  slip : Bool
  deriving DecidableEq, Repr

/-- The pass sheet (R96 and Chapters 6 to 8). -/
structure PassSheet where
  /-- the tunnel of the pass -/
  tunnel : Tunnel
  /-- the tunnel's admission seq when the rack was admitted -/
  admissionSeq : Byte
  /-- the required level (R97) -/
  requiredLevel : Nat
  /-- the required sections but FINAL, which always is (R98) -/
  required : Stages
  /-- the section the rack stands in -/
  stage : Stage
  /-- PRE's fragment -/
  preFragment : Option Fragment
  /-- WASH's fragment -/
  washFragment : Option Fragment
  /-- RINSE's fragment -/
  rinseFragment : Option Fragment
  /-- the tick of the rack's entry into FINAL -/
  finalEntry : Option Tick
  /-- the tick up to which credit has been accrued -/
  reference : Option Tick
  /-- heat credit (R123) -/
  credit : Nat
  /-- accrual was interrupted (R124) -/
  gap : Bool
  /-- the rack reached the gate out of lane order (R133) -/
  orderFault : Bool
  /-- the verdict, absent before readiness (R136) -/
  verdict : Option Verdict
  /-- the rack has been read at the gate and its EXIT is outstanding (8.1) -/
  exitRequested : Bool
  deriving DecidableEq, Repr

/-- The rack record (1.2). -/
structure Rack where
  /-- the tag, 1 to 1,048,575 -/
  tag : Nat
  /-- the slot, 0 to 159 (R2) -/
  slot : Nat
  /-- the class -/
  cls : RackClass
  /-- the base level, 0 to 3 -/
  baseLevel : Nat
  /-- the spec's protected field -/
  isProtected : Bool
  /-- the state -/
  state : RackState
  /-- the place -/
  place : Place
  /-- the window the rack is routed to (R7) -/
  destination : Option Window
  /-- the load code (R8) -/
  loadCode : Option (Fin 8)
  /-- passes begun in this soil cycle (R9) -/
  passes : Nat
  /-- the pass sheet, present while WASHING (R11) -/
  sheet : Option PassSheet
  /-- the last outcome (R10) -/
  lastOutcome : Option LastOutcome
  /-- uses counted (R21) -/
  cycles : Nat
  /-- due for service (R22, R23) -/
  serviceDue : Bool
  /-- the tick of the last change of state or place (R6) -/
  since : Tick
  deriving DecidableEq, Repr

/-! ### Tunnels, admission, windows -/

/-- What a Tunnel Controller, with the exit gate and the Credit Integrator, holds beside the lane (4.1, 8.1,
Chapter 7). The lane is the racks whose place is the tunnel, in the order of the Rack Table's list. -/
structure TunnelContext where
  /-- the tunnel state -/
  state : TunnelState
  /-- the seq the next admitted rack gets, modulo 256 -/
  admissionSeq : Byte
  /-- start of the idle period (R69) -/
  idleStart : Option Tick
  /-- tick of entry into ECONOMY (R70) -/
  economyStart : Option Tick
  /-- expiry tick of the restart timer (R70) -/
  restartTimer : Option Tick
  /-- expiry tick of the flush timer (R73) -/
  flushTimer : Option Tick
  /-- port of the outstanding EXIT (8.1) -/
  deferredExit : Option Port
  /-- the gate is shut for want of room (R140) -/
  gateShut : Bool
  /-- tick of the last SAMPLE (R118) -/
  lastSample : Option Tick
  deriving DecidableEq, Repr

/-- The attributes an enrolment copies from its tag window (R29). -/
structure EnrolAttributes where
  /-- the class -/
  cls : RackClass
  /-- the base level -/
  baseLevel : Nat
  /-- the protected field -/
  isProtected : Bool
  deriving DecidableEq, Repr

/-- The pending admission (5.1). -/
structure PendingAdmission where
  /-- the rack's tag -/
  tag : Nat
  /-- the port the ADMIT came from -/
  port : Port
  /-- the deferred enrolment, present when the tag was unknown; it holds the slot reservation (R34) -/
  enrol : Option EnrolAttributes
  deriving DecidableEq, Repr

/-- A drop-off window's class and mode (R147). -/
structure WindowContext where
  /-- the class of ware the window takes -/
  cls : RackClass
  /-- its mode -/
  mode : WindowMode
  deriving DecidableEq, Repr

/-- An entry of the demand queue (R148). -/
structure DemandEntry where
  /-- the window that needs a rack -/
  window : Window
  /-- the tick at which the entry was posted -/
  posted : Tick
  deriving DecidableEq, Repr

/-! ### Frames of the station ports -/

/-- A request as the SPU queues it: kind code and payload, not yet judged (R166). -/
structure RawRequest where
  /-- the kind code -/
  kind : Byte
  /-- the payload -/
  payload : List Byte
  deriving DecidableEq, Repr

/-- Status codes of answers (R173). -/
inductive Status where
  | done | wait | foreignTag | notEnrollable | tableFull | unknownTag | badState | badPlace | placeFull
  | collectFull | returnFull | notYours | classMismatch | noDemand | isProtected | inTunnel
  | emptySection | sectionFull | wrongLane | role | malformed | busy
  deriving DecidableEq, Repr

/-- The fields of a QUERY answer (R13). -/
structure QueryFields where
  /-- the state -/
  state : RackState
  /-- the place -/
  place : Place
  /-- the class -/
  cls : RackClass
  /-- the passes -/
  passes : Nat
  /-- the destination -/
  destination : Option Window
  /-- the last outcome -/
  lastOutcome : Option LastOutcome
  /-- the credit while WASHING -/
  credit : Option Nat
  /-- the cycles -/
  cycles : Nat
  deriving DecidableEq, Repr

/-- What a SAMPLE answer says of the rack in FINAL (R117). -/
structure SampleFields where
  /-- its tag -/
  tag : Nat
  /-- the interval applied -/
  interval : Nat
  /-- the increment -/
  increment : Nat
  /-- the credit after it -/
  credit : Nat
  /-- the gap flag after it -/
  gap : Bool
  deriving DecidableEq, Repr

/-- The fields after an answer's status (R175). -/
inductive Fields where
  /-- the status alone -/
  | alone
  /-- SIGHT, DONE: the position the rack went to -/
  | position (spare : Bool)
  /-- SIGHT, NOT_YOURS: the window the rack is routed to -/
  | window (w : Window)
  /-- DISPATCH, DONE: the tag dispatched and the tag now at FILL -/
  | dispatched (tag : Nat) (fill : Option Nat)
  /-- MODE, DONE -/
  | mode (m : WindowMode)
  /-- QUERY, DONE -/
  | query (q : QueryFields)
  /-- ADMIT, DONE -/
  | admitted (t : Tunnel)
  /-- SECTION, DONE: tag, section now, slip, stored measurement and fault code -/
  | advanced (tag : Nat) (stage : Stage) (slip : Bool) (measurement : Option Nat) (fault : Nat)
  /-- SECTION, SECTION_FULL: tag and section without room -/
  | noRoom (tag : Nat) (stage : Stage)
  /-- SAMPLE, DONE: since previous, and the rack in FINAL -/
  | sampled (sincePrevious : Option Nat) (rack : Option SampleFields)
  /-- EXIT, DONE -/
  | released (v : Verdict) (d : Destination)
  /-- EXIT, WAIT: tag of the rack in FINAL and whether its verdict is formed -/
  | atGate (tag : Nat) (formed : Bool)
  /-- TANK, DONE -/
  | tank (st : TunnelState)
  /-- EMPTIED, DONE -/
  | emptied (d : Destination) (cycles : Nat) (serviceDue : Bool)
  deriving DecidableEq, Repr

/-- An answer frame: its kind code, status and fields (R173). -/
structure Answer where
  /-- the request's code plus 0x80, or 0xFF -/
  kind : Byte
  /-- the status -/
  status : Status
  /-- the fields -/
  fields : Fields
  deriving DecidableEq, Repr

/-- The unsolicited messages (R176). -/
inductive Message where
  /-- GRANT(ADMIT, A or B) -/
  | grantAdmit (tag : Nat) (t : Tunnel)
  /-- GRANT(ADMIT, CANCELLED) -/
  | admitCancelled (tag : Nat)
  /-- GRANT(EXIT, verdict, destination) -/
  | grantExit (tag : Nat) (v : Verdict) (d : Destination)
  /-- GRANT(EXIT, ABANDONED) -/
  | exitAbandoned (tag : Nat)
  /-- ROUTE(tag, window or none) -/
  | route (tag : Nat) (w : Option Window)
  /-- TUNNEL_STATE(state, fresh) of a tunnel -/
  | tunnelState (t : Tunnel) (st : TunnelState) (fresh : Bool)
  deriving DecidableEq, Repr

/-- A frame made for a port. -/
inductive Frame where
  | answer (a : Answer)
  | message (m : Message)
  deriving DecidableEq, Repr

/-- What the sending of a frame brings about (R167): the answer of the head request frees the head, the BUSY
answer ends busy answer pending, any other frame only leaves the list. A frame that a LINE_RESTART kept is `begun`:
its first character has been sent, and it is sent to its last character (R178). -/
inductive FrameUse where
  | head | busy | loose | begun
  deriving DecidableEq, Repr

/-- A frame in a transmit list. -/
structure QueuedFrame where
  /-- what its sending brings about -/
  use : FrameUse
  /-- the frame -/
  frame : Frame
  deriving DecidableEq, Repr

/-- The state of a station port but its role, which is a configuration item (Chapter 10). -/
structure PortState where
  /-- the receive assembly: the bytes of the partial frame, empty while hunting -/
  assembly : List Byte
  /-- the request queue, oldest first -/
  queue : List RawRequest
  /-- busy answer pending -/
  busyPending : Bool
  /-- the transmit list, oldest first -/
  transmit : List QueuedFrame
  /-- MODEL'S OWN (log entry 9): the bytes of the last frame sent to its end on the transmit wire -/
  lastSent : List Byte
  deriving DecidableEq, Repr

/-! ### The supervisor port -/

/-- Response status codes (11.1). -/
inductive RespStatus where
  | done | badValue | unknownTag | badState | busy | inTunnel | placeFull | badPlace | sharedBusy
  deriving DecidableEq, Repr

/-- What READ_PLACE adds to a member's tag (R57). -/
inductive MemberExtra where
  /-- nothing -/
  | plain
  /-- RETURN: the destination -/
  | routed (w : Option Window)
  /-- HOLD and UNKNOWN: last outcome and since -/
  | held (o : Option LastOutcome) (since : Tick)
  deriving DecidableEq, Repr

/-- A READ_PLACE response (R57). -/
structure PlaceReport where
  /-- the place as named -/
  place : Place
  /-- its capacity -/
  capacity : Nat
  /-- COLLECT's recirculation reserve -/
  reserve : Option Nat
  /-- its members -/
  members : List (Nat × MemberExtra)
  deriving DecidableEq, Repr

/-- A lane member in a READ_TUNNEL response (R81). -/
structure LaneEntry where
  /-- the tag -/
  tag : Nat
  /-- the section it stands in -/
  stage : Stage
  /-- its admission seq -/
  admissionSeq : Byte
  /-- its exit requested -/
  exitRequested : Bool
  deriving DecidableEq, Repr

/-- A READ_TUNNEL response (R81). -/
structure TunnelReport where
  /-- the tunnel state -/
  state : TunnelState
  /-- the admission seq -/
  admissionSeq : Byte
  /-- the section enables -/
  enables : Stages
  /-- idle start -/
  idleStart : Option Tick
  /-- economy start -/
  economyStart : Option Tick
  /-- expiry tick of the restart timer -/
  restartTimer : Option Tick
  /-- expiry tick of the flush timer -/
  flushTimer : Option Tick
  /-- the lane, oldest first -/
  lane : List LaneEntry
  /-- gate shut -/
  gateShut : Bool
  deriving DecidableEq, Repr

/-- A window in a READ_WINDOWS response (R163). -/
structure WindowReport where
  /-- the class -/
  cls : RackClass
  /-- the mode -/
  mode : WindowMode
  /-- the tag at FILL -/
  fill : Option Nat
  /-- the tag at SPARE -/
  spare : Option Nat
  /-- the tags on RETURN routed to the window -/
  routed : List Nat
  /-- the number of its demand entries -/
  entries : Nat
  /-- whether it is starved -/
  starved : Bool
  deriving DecidableEq, Repr

/-- What a response carries after its status (11.2). -/
inductive Body where
  /-- nothing -/
  | alone
  /-- READ_RECORD -/
  | record (r : Rack)
  /-- READ_PLACE -/
  | place (r : PlaceReport)
  /-- READ_TUNNEL -/
  | tunnel (r : TunnelReport)
  /-- READ_WINDOWS -/
  | windows (ws : List WindowReport) (demand : List DemandEntry)
  /-- READ_CONFIG and WRITE_CONFIG: item number and stored value of each -/
  | config (values : List (Nat × Nat))
  /-- TUNNEL -/
  | tunnelState (st : TunnelState)
  /-- WINDOW_MODE -/
  | windowMode (m : WindowMode)
  /-- WINDOW_CLASS -/
  | windowClass (c : RackClass)
  /-- READ_NOTICES -/
  | notices (set mask : BitVec 16) (mode : ClearMode)
  /-- CLEAR_NOTICES -/
  | noticeSet (set : BitVec 16)
  /-- READ_TICK -/
  | tick (now : Tick) (lastA lastB : Option Tick)
  deriving DecidableEq, Repr

/-- A response (11.1). -/
structure Response where
  /-- its status -/
  status : RespStatus
  /-- its payload -/
  body : Body
  deriving DecidableEq, Repr

/-! ### Configuration -/

/-- A tag window (2.1). -/
structure TagWindow where
  /-- whether it matches at all -/
  enabled : Bool
  /-- the lowest tag -/
  startTag : Nat
  /-- the highest tag -/
  endTag : Nat
  /-- the class it gives -/
  cls : RackClass
  /-- the base level it gives -/
  baseLevel : Nat
  /-- whether a matched tag may be enrolled -/
  enrol : Bool
  /-- the protected field it gives -/
  protect : Bool
  deriving DecidableEq, Repr

/-- The configuration items (11.3). -/
structure Configuration where
  /-- lost timeout (R19) -/
  lostTimeout : Nat
  /-- service limits of PLATE, CUP, CUTLERY, TRAY (R24) -/
  serviceLimit : Vector Nat 4
  /-- recirculation reserve (R43) -/
  recircReserve : Nat
  /-- idle time (R80) -/
  idleTime : Nat
  /-- cool time (R80) -/
  coolTime : Nat
  /-- restart delay (R80) -/
  restartDelay : Nat
  /-- flush time (R80) -/
  flushTime : Nat
  /-- spacing (R100) -/
  spacing : Nat
  /-- booster count N (R100) -/
  boosterCount : Nat
  /-- booster window W (R100) -/
  boosterWindow : Nat
  /-- load table (R97) -/
  loadTable : Vector Nat 8
  /-- thresholds (R128) -/
  threshold : Vector Nat 4
  /-- PRE limit (R138) -/
  preLimit : Nat
  /-- WASH limit (R138) -/
  washLimit : Nat
  /-- RINSE limit (R138) -/
  rinseLimit : Nat
  /-- minimum dwell (R144) -/
  minDwell : Nat
  /-- maximum dwell (R144) -/
  maxDwell : Nat
  /-- section enables (R63) -/
  enables : PerTunnel Stages
  /-- port roles (R171) -/
  roles : Vector Role 8
  /-- notice mask (R183) -/
  mask : BitVec 16
  /-- clear mode (R184) -/
  clearMode : ClearMode
  /-- tag windows (R26) -/
  tagWindows : Vector TagWindow 8
  deriving DecidableEq, Repr

/-- The power-on values of the configuration items (11.3). -/
def Configuration.powerOn : Configuration where
  lostTimeout := 36000
  serviceLimit := #v[4000, 4000, 4000, 8000]
  recircReserve := 2
  idleTime := 1200
  coolTime := 6000
  restartDelay := 50
  flushTime := 3000
  spacing := 40
  boosterCount := 4
  boosterWindow := 240
  loadTable := #v[0, 0, 0, 0, 0, 0, 0, 0]
  threshold := #v[15000, 30000, 45000, 60000]
  preLimit := 450
  washLimit := 600
  rinseLimit := 650
  minDwell := 60
  maxDwell := 300
  enables := ⟨⟨true, true, true⟩, ⟨true, true, true⟩⟩
  roles := #v[.windows, .infeed, .tunnel .a, .tunnel .b, .unload .a, .unload .b, .handheld, .unused]
  mask := 0
  clearMode := .writeBack
  tagWindows := #v[⟨true, 1, 262143, .plate, 1, true, false⟩, ⟨true, 262144, 524287, .cup, 1, true, false⟩,
    ⟨true, 524288, 786431, .cutlery, 2, true, false⟩, ⟨true, 786432, 1048575, .tray, 0, true, false⟩,
    ⟨false, 1048575, 1, .plate, 0, false, false⟩, ⟨false, 1048575, 1, .plate, 0, false, false⟩,
    ⟨false, 1048575, 1, .plate, 0, false, false⟩, ⟨false, 1048575, 1, .plate, 0, false, false⟩]

/-! ### The state -/

/-- The whole state. The Rack Table is ONE list: a move puts the moved record at its end, so the members of a
place, in the order of joining, are the records that name the place, in list order (R4, R40, R59). -/
structure State where
  /-- MODEL'S OWN: the commands that wait, first in, first out -/
  pending : List Instr
  /-- the RST pin is low (R187) -/
  rstLow : Bool
  /-- the strap pins, as they stood when last sampled (R185, R186) -/
  straps : Straps
  /-- the line identity (R186) -/
  identity : BitVec 5
  /-- the identity in use was taken by fallback (R186, R188) -/
  fallback : Bool
  /-- the Timebase's divisor: clock periods per tick (R185) -/
  divisor : Nat
  /-- the tick counter (R185) -/
  now : Tick
  /-- the configuration items (11.3) -/
  config : Configuration
  /-- the Rack Table (R1) -/
  racks : List Rack
  /-- class and mode of each window (R147) -/
  windows : Vector WindowContext 6
  /-- the demand queue, oldest first (R148) -/
  demand : List DemandEntry
  /-- the tunnel contexts (4.1) -/
  tunnels : PerTunnel TunnelContext
  /-- the booster history, oldest first (R88) -/
  boosterHistory : List Tick
  /-- last admission A and B (R87) -/
  lastAdmission : PerTunnel (Option Tick)
  /-- last chosen (R89) -/
  lastChosen : Option Tunnel
  /-- the pending admission (R91) -/
  pendingAdmission : Option PendingAdmission
  /-- the station ports (Chapter 10) -/
  ports : Vector PortState 8
  /-- the notice set, bit n for member n (R183) -/
  notices : BitVec 16
  /-- the command buffer: bytes of a command transaction still in progress (R179, R187) -/
  commandBuffer : List Byte
  /-- the response buffer (R179) -/
  response : Option Response
  /-- MODEL'S OWN (log entry 9): the bytes the last transaction clocked out on MISO -/
  miso : List Byte
  /-- MODEL'S OWN (log entry 8): how many LINE_RESTARTs have drawn from `Config.frameStarted` -/
  draws : Nat
  deriving DecidableEq, Repr

/-- A tunnel after a reset (R82, R118, R145). -/
def TunnelContext.afterReset : TunnelContext where
  state := .off
  admissionSeq := 0
  idleStart := none
  economyStart := none
  restartTimer := none
  flushTimer := none
  deferredExit := none
  gateShut := false
  lastSample := none

/-- A port after power-on (R178). -/
def PortState.afterReset : PortState where
  assembly := []
  queue := []
  busyPending := false
  transmit := []
  lastSent := []

/-- Classes and modes of the windows at power-on (R147). -/
def windowsAtPowerOn : Vector WindowContext 6 :=
  #v[⟨.plate, .accept⟩, ⟨.plate, .accept⟩, ⟨.cup, .accept⟩, ⟨.cup, .accept⟩, ⟨.cutlery, .accept⟩, ⟨.tray, .accept⟩]

/-- The six windows in order. -/
def allWindows : List Window := [0, 1, 2, 3, 4, 5]

/-- The eight ports in order. -/
def allPorts : List Port := [0, 1, 2, 3, 4, 5, 6, 7]

/-- The entries posted at a reset: two for each window not in STOP, in window order (R164). -/
def initialDemand (windows : Vector WindowContext 6) (now : Tick) : List DemandEntry :=
  allWindows.flatMap fun w => if windows[w].mode = .stop then [] else [⟨w, now⟩, ⟨w, now⟩]

/-- The straps of the machine that `State.reset` describes: identity 0 with IDP high, so that the parity is odd,
and a 4 MHz clock. DESIGN CHOICE (log entry 5): the straps are the board's. -/
def Straps.atReset : Straps := ⟨0, true, false, false⟩

/-- The part right after power-on (R187), with the straps of `Straps.atReset`. -/
def State.reset : State where
  pending := []
  rstLow := false
  straps := Straps.atReset
  identity := 0
  fallback := false
  divisor := 400000
  now := 0
  config := Configuration.powerOn
  racks := []
  windows := windowsAtPowerOn
  demand := initialDemand windowsAtPowerOn 0
  tunnels := ⟨TunnelContext.afterReset, TunnelContext.afterReset⟩
  boosterHistory := []
  lastAdmission := ⟨none, none⟩
  lastChosen := none
  pendingAdmission := none
  ports := Vector.replicate 8 PortState.afterReset
  notices := 0
  commandBuffer := []
  response := none
  miso := []
  draws := 0

/-! ### Why a step can stop -/

/-- The reasons a step could fault. None: the spec gives every command its effect in every state. -/
inductive Fault where
  deriving DecidableEq, Repr

/-- The reasons a command could be refused. -/
inductive Refusal where
  /-- Raised by an arm of `exec` whose command has no meaning yet. Safe: the run stops. No arm raises it. -/
  | notModelled (mnemonic : String)
  deriving DecidableEq, Repr

end Sys2Proof.Machine
end

