-- ==== Sys2Proof/Machine/Codes.lean ====
section
/-! DEFINITION. Numbers on the wires: big-endian fields, differences of ticks, and the value codes of R172 in
both directions. -/

namespace Sys2Proof.Machine

/-! ### Ticks -/

/-- Ticks from `t` to `now`, modulo 2^32 (R185). -/
def elapsed (now t : Tick) : Nat := (now - t).toNat

/-- Whether an expiry tick has been reached: `now` is at it or less than half the counter's range after it. -/
def reached (now expiry : Tick) : Bool := decide (elapsed now expiry < 2147483648)

/-! ### Fields of several bytes, most significant byte first (R172, 11.1) -/

/-- The `n` low bytes of `v`, most significant first. -/
def bytesOf : Nat → Nat → List Byte
  | 0, _ => []
  | n + 1, v => BitVec.ofNat 8 (v / 256 ^ n) :: bytesOf n v

/-- The number that a list of bytes spells, most significant first. -/
def natOf (bs : List Byte) : Nat := bs.foldl (fun acc b => acc * 256 + b.toNat) 0

/-- A tag as three bytes. -/
def tagBytes (tag : Nat) : List Byte := bytesOf 3 tag

/-! ### Value codes (R172) -/

def RackClass.code : RackClass → Nat
  | .plate => 0 | .cup => 1 | .cutlery => 2 | .tray => 3

def classOf : Nat → Option RackClass
  | 0 => some .plate | 1 => some .cup | 2 => some .cutlery | 3 => some .tray | _ => none

def RackState.code : RackState → Nat
  | .empty => 0 | .filling => 1 | .soiled => 2 | .washing => 3 | .clean => 4 | .held => 5

def Tunnel.code : Tunnel → Nat
  | .a => 0 | .b => 1

def tunnelOf : Nat → Option Tunnel
  | 0 => some .a | 1 => some .b | _ => none

def windowOf (n : Nat) : Option Window := if h : n < 6 then some ⟨n, h⟩ else none

def Place.code : Place → Nat
  | .windowFill _ => 0 | .windowSpare _ => 1 | .collect => 2 | .tunnel _ => 3 | .unload _ => 4
  | .returnLoop => 5 | .hold => 6 | .store => 7 | .unknown => 8

/-- The place index: window or tunnel, otherwise 0 (R175, R180). -/
def Place.index : Place → Nat
  | .windowFill w => w.val | .windowSpare w => w.val | .tunnel t => Tunnel.code t | .unload t => Tunnel.code t
  | _ => 0

/-- The place that READ_PLACE names by place code and index; none for a lane, an unrecognised place, and an
index outside the values R180 gives for the place (R57, R180). -/
def readablePlace (code index : Nat) : Option Place :=
  match code with
  | 0 => (windowOf index).map .windowFill
  | 1 => (windowOf index).map .windowSpare
  | 2 => if index = 0 then some .collect else none
  | 4 => (tunnelOf index).map .unload
  | 5 => if index = 0 then some .returnLoop else none
  | 6 => if index = 0 then some .hold else none
  | 7 => if index = 0 then some .store else none
  | 8 => if index = 0 then some .unknown else none
  | _ => none

def WindowMode.code : WindowMode → Nat
  | .accept => 0 | .pause => 1 | .stop => 2

def windowModeOf : Nat → Option WindowMode
  | 0 => some .accept | 1 => some .pause | 2 => some .stop | _ => none

def Stage.code : Stage → Nat
  | .pre => 0 | .wash => 1 | .rinse => 2 | .final => 3

/-- A section a SECTION request may name; FINAL is malformed (R174). -/
def reportedStageOf : Nat → Option Stage
  | 0 => some .pre | 1 => some .wash | 2 => some .rinse | _ => none

def TankCondition.code : TankCondition → Nat
  | .ready => 0 | .cold => 1 | .flushDone => 2 | .fault => 3

def tankConditionOf : Nat → Option TankCondition
  | 0 => some .ready | 1 => some .cold | 2 => some .flushDone | 3 => some .fault | _ => none

def targetOf : Nat → Option Target
  | 0 => some .hold | 1 => some .collect | 2 => some .store | 3 => some .returnLoop | _ => none

/-- The place a target stands for. -/
def Target.place : Target → Place
  | .hold => .hold | .collect => .collect | .store => .store | .returnLoop => .returnLoop

def TunnelState.code : TunnelState → Nat
  | .off => 0 | .warming => 1 | .ready => 2 | .running => 3 | .economy => 4 | .restarting => 5
  | .flushing => 6 | .closing => 7 | .fault => 8

def Destination.code : Destination → Nat
  | .unload .a => 0 | .unload .b => 1 | .collect => 2 | .hold => 3 | .returnLoop => 4

def Verdict.code : Verdict → Nat
  | .pass => 0 | .orderFault => 1 | .seqSlip => 2 | .sectionFault => 3 | .missingSection => 4 | .preHot => 5
  | .washCold => 6 | .rinseCold => 7 | .interrupted => 8 | .creditShort => 9

def HoldCause.code : HoldCause → Nat
  | .repeatFail => 16 | .recircBlocked => 17 | .serviceDue => 18 | .manual => 19 | .tunnelFault => 20
  | .lostTrack => 21

def LastOutcome.code : LastOutcome → Nat
  | .verdict v => v.code
  | .hold c => c.code

def Role.code : Role → Nat
  | .windows => 0 | .infeed => 1 | .tunnel .a => 2 | .tunnel .b => 3 | .unload .a => 4 | .unload .b => 5
  | .handheld => 6 | .unused => 7

def roleOf : Nat → Option Role
  | 0 => some .windows | 1 => some .infeed | 2 => some (.tunnel .a) | 3 => some (.tunnel .b)
  | 4 => some (.unload .a) | 5 => some (.unload .b) | 6 => some .handheld | 7 => some .unused | _ => none

def ClearMode.code : ClearMode → Nat
  | .writeBack => 0 | .clearOnRead => 1

def clearModeOf : Nat → Option ClearMode
  | 0 => some .writeBack | 1 => some .clearOnRead | _ => none

/-- no is 0, yes is 1 (R172). -/
def yesNoCode (b : Bool) : Nat := if b then 1 else 0

def yesNoOf : Nat → Option Bool
  | 0 => some false | 1 => some true | _ => none

def Status.code : Status → Nat
  | .done => 0x00 | .wait => 0x01 | .foreignTag => 0x10 | .notEnrollable => 0x11 | .tableFull => 0x12
  | .unknownTag => 0x13 | .badState => 0x20 | .badPlace => 0x21 | .placeFull => 0x22 | .collectFull => 0x23
  | .returnFull => 0x24 | .notYours => 0x30 | .classMismatch => 0x31 | .noDemand => 0x32
  | .isProtected => 0x33 | .inTunnel => 0x34 | .emptySection => 0x40 | .sectionFull => 0x41
  | .wrongLane => 0x42 | .role => 0x50 | .malformed => 0x51 | .busy => 0x52

def RespStatus.code : RespStatus → Nat
  | .done => 0x00 | .badValue => 0x01 | .unknownTag => 0x02 | .badState => 0x03 | .busy => 0x04
  | .inTunnel => 0x05 | .placeFull => 0x06 | .badPlace => 0x07 | .sharedBusy => 0x08

/-- The status a FETCH of an empty buffer clocks out (11.1). -/
def noResponseCode : Nat := 0x0F

end Sys2Proof.Machine
end

