-- ==== Sys2Proof/Machine/Operands.lean ====
section
/-! DEFINITION. The operands of a station request: request kinds, the request kinds a role permits, and the
reading of a payload with the well-formedness test of R174. -/

namespace Sys2Proof.Machine

/-- The request kinds (R172). -/
inductive ReqKind where
  | sight | dispatch | mode | withdraw | query | admitRequest | sectionReport | sample | exit | tank | emptied | relocate
  deriving DecidableEq, Repr

/-- Kind codes (R172). -/
def ReqKind.code : ReqKind → Byte
  | .sight => 0x10 | .dispatch => 0x11 | .mode => 0x12 | .withdraw => 0x13 | .query => 0x14 | .admitRequest => 0x20
  | .sectionReport => 0x30 | .sample => 0x31 | .exit => 0x32 | .tank => 0x33 | .emptied => 0x40 | .relocate => 0x50

/-- The request kind of a code; none for a code that names no request (R168). -/
def requestKindOf (c : Byte) : Option ReqKind :=
  match c.toNat with
  | 0x10 => some .sight | 0x11 => some .dispatch | 0x12 => some .mode | 0x13 => some .withdraw
  | 0x14 => some .query | 0x20 => some .admitRequest | 0x30 => some .sectionReport | 0x31 => some .sample
  | 0x32 => some .exit | 0x33 => some .tank | 0x40 => some .emptied | 0x50 => some .relocate
  | _ => none

/-- The kind code of the answer to a request of code `c`: `c` plus 0x80, or 0xFF (R173). -/
def answerCode (c : Byte) : Byte :=
  match requestKindOf c with
  | some _ => c + 0x80
  | none => 0xFF

/-- The request kinds each role permits (R171). -/
def Role.permits : Role → ReqKind → Bool
  | .windows, k => k = .sight ∨ k = .dispatch ∨ k = .mode ∨ k = .query ∨ k = .withdraw
  | .infeed, k => k = .admitRequest ∨ k = .query
  | .tunnel _, k => k = .sectionReport ∨ k = .sample ∨ k = .exit ∨ k = .tank ∨ k = .query
  | .unload _, k => k = .emptied ∨ k = .query
  | .handheld, k => k = .relocate ∨ k = .withdraw ∨ k = .query
  | .unused, _ => false

/-- A request whose payload is well formed. -/
inductive Request where
  | sight (w : Window) (tag : Nat)
  | dispatch (w : Window) (load : Option (Fin 8))
  | mode (w : Window) (m : WindowMode)
  | withdraw (tag : Nat)
  | query (tag : Nat)
  | admitRequest (tag : Nat)
  | sectionReport (stage : Stage) (seq : Byte) (measurement : Nat) (fault : Nat)
  | sample (temperature : Nat)
  | exit (tag : Nat)
  | tank (c : TankCondition)
  | emptied (tag : Nat)
  | relocate (tag : Nat) (target : Target)
  deriving DecidableEq, Repr

/-- Whether a number is a tag, 1 to 1,048,575 (1.2). -/
def isTag (n : Nat) : Bool := decide (1 ≤ n) && decide (n ≤ Config.maxTag)

/-- A tag field of three bytes, when it lies in range (R174). -/
def tagField (x y z : Byte) : Option Nat :=
  if isTag (natOf [x, y, z]) then some (natOf [x, y, z]) else none

/-- A load code field: 0 to 7, or 0xFF for none (R172, R174). -/
def loadField (b : Byte) : Option (Option (Fin 8)) :=
  if b = 0xFF then some none else if h : b.toNat < 8 then some (some ⟨b.toNat, h⟩) else none

/-- The request that a payload of kind `k` spells, when its length and every field are as R172 and R174 give. -/
def parseRequest (k : ReqKind) (payload : List Byte) : Option Request :=
  match k, payload with
  | .sight, [w, x, y, z] => (windowOf w.toNat).bind fun w => (tagField x y z).map (.sight w)
  | .dispatch, [w, l] => (windowOf w.toNat).bind fun w => (loadField l).map (.dispatch w)
  | .mode, [w, m] => (windowOf w.toNat).bind fun w => (windowModeOf m.toNat).map (.mode w)
  | .withdraw, [x, y, z] => (tagField x y z).map .withdraw
  | .query, [x, y, z] => (tagField x y z).map .query
  | .admitRequest, [x, y, z] => (tagField x y z).map .admitRequest
  | .sectionReport, [s, q, m₁, m₀, f] =>
    (reportedStageOf s.toNat).bind fun s =>
      if f.toNat ≤ 15 then some (.sectionReport s q (natOf [m₁, m₀]) f.toNat) else none
  | .sample, [t₁, t₀] => some (.sample (natOf [t₁, t₀]))
  | .exit, [x, y, z] => (tagField x y z).map .exit
  | .tank, [c] => (tankConditionOf c.toNat).map .tank
  | .emptied, [x, y, z] => (tagField x y z).map .emptied
  | .relocate, [x, y, z, g] => (tagField x y z).bind fun t => (targetOf g.toNat).map (.relocate t)
  | _, _ => none

end Sys2Proof.Machine
end

