-- ==== Sys2Proof/Machine/Frames.lean ====
section
/-! DEFINITION. Bytes on the wires: the check byte, the frames the part sends and the responses it clocks out
(R166, R172, R175, R176, R180). -/

namespace Sys2Proof.Machine

/-! ### The check byte (R166) -/

/-- One shift of the check register: polynomial x^8 + x^5 + x^3 + x^2 + x + 1. -/
def crcShift (c : Byte) : Byte := if c.msb then (c <<< 1) ^^^ 0x2F#8 else c <<< 1

/-- The check register after one more byte, most significant bit first. -/
def crcByte (c b : Byte) : Byte :=
  crcShift (crcShift (crcShift (crcShift (crcShift (crcShift (crcShift (crcShift (c ^^^ b))))))))

/-- The check byte of the bytes 1 to 3+n of a frame. -/
def checkByte (bs : List Byte) : Byte := bs.foldl crcByte 0

/-- A whole frame from its identity byte, kind code and payload (R172). -/
def frameBytes (identity kind : Byte) (payload : List Byte) : List Byte :=
  let body := identity :: kind :: BitVec.ofNat 8 payload.length :: payload
  0xC5#8 :: body ++ [checkByte body]

/-! ### Payload fields -/

/-- A one-byte field. -/
def byteField (n : Nat) : List Byte := bytesOf 1 n

/-- A one-byte field that may be absent, 0xFF for absent (R172). -/
def optByte : Option Nat → List Byte
  | some n => byteField n
  | none => [0xFF]

/-- A yes/no field. -/
def yesNo (b : Bool) : List Byte := byteField (yesNoCode b)

/-- A tag field that may be absent, 0 for absent (R175). -/
def optTag : Option Nat → List Byte
  | some t => tagBytes t
  | none => tagBytes 0

/-- A measurement field, 0xFFFF for NONE (R172). -/
def measurementField : Option Nat → List Byte
  | some m => bytesOf 2 m
  | none => [0xFF, 0xFF]

/-- A window field that may be absent. -/
def optWindow (w : Option Window) : List Byte := optByte (w.map (·.val))

/-- A last outcome field. -/
def outcomeField (o : Option LastOutcome) : List Byte := optByte (o.map LastOutcome.code)

/-- A tick field of four bytes, 0xFFFFFFFF when absent (R180). -/
def tickField : Option Tick → List Byte
  | some t => bytesOf 4 t.toNat
  | none => [0xFF, 0xFF, 0xFF, 0xFF]

/-- Place code and place index (R175). -/
def placeField (p : Place) : List Byte := byteField p.code ++ byteField p.index

/-- The fields of an answer after its status (R175). -/
def Fields.bytes : Fields → List Byte
  | .alone => []
  | .position spare => yesNo spare
  | .window w => byteField w.val
  | .dispatched tag fill => tagBytes tag ++ optTag fill
  | .mode m => byteField m.code
  | .query q =>
    byteField q.state.code ++ placeField q.place ++ byteField q.cls.code ++ byteField q.passes ++
      optWindow q.destination ++ outcomeField q.lastOutcome ++
      (match q.credit with
        | some c => bytesOf 4 c
        | none => [0xFF, 0xFF, 0xFF, 0xFF]) ++ bytesOf 2 q.cycles
  | .admitted t => byteField (Tunnel.code t)
  | .advanced tag stage slip m f =>
    tagBytes tag ++ byteField stage.code ++ yesNo slip ++ measurementField m ++ byteField f
  | .noRoom tag stage => tagBytes tag ++ byteField stage.code
  | .sampled since rack =>
    (match since with
      | some n => bytesOf 3 n
      | none => [0xFF, 0xFF, 0xFF]) ++
    (match rack with
      | some r =>
        tagBytes r.tag ++ byteField r.interval ++ bytesOf 3 r.increment ++ bytesOf 3 r.credit ++ yesNo r.gap
      | none => [])
  | .released v d => byteField v.code ++ byteField d.code
  | .atGate tag formed => tagBytes tag ++ yesNo formed
  | .tank st => byteField st.code
  | .emptied d cycles due => byteField d.code ++ bytesOf 2 cycles ++ yesNo due

/-- The payload of an answer (R172, R173). -/
def Answer.payload (a : Answer) : List Byte := byteField a.status.code ++ a.fields.bytes

/-- The kind code of an unsolicited message (R172). -/
def Message.kind : Message → Byte
  | .grantAdmit _ _ | .admitCancelled _ | .grantExit _ _ _ | .exitAbandoned _ => 0xE0
  | .route _ _ => 0xE1
  | .tunnelState _ _ _ => 0xE2

/-- The payload of an unsolicited message (R172, R176). -/
def Message.payload : Message → List Byte
  | .grantAdmit tag t => byteField 0 ++ tagBytes tag ++ byteField (Tunnel.code t) ++ [0xFF]
  | .admitCancelled tag => byteField 0 ++ tagBytes tag ++ byteField 2 ++ [0xFF]
  | .grantExit tag v d => byteField 1 ++ tagBytes tag ++ byteField v.code ++ byteField d.code
  | .exitAbandoned tag => byteField 1 ++ tagBytes tag ++ byteField 32 ++ [0xFF]
  | .route tag w => tagBytes tag ++ optWindow w
  | .tunnelState t st fresh => byteField (Tunnel.code t) ++ byteField st.code ++ yesNo fresh

/-- The bytes of a frame the part sends, its own line identity in byte 1 (R172). -/
def Frame.bytes (identity : BitVec 5) : Frame → List Byte
  | .answer a => frameBytes (identity.setWidth 8) a.kind a.payload
  | .message m => frameBytes (identity.setWidth 8) m.kind m.payload

/-! ### Responses (R180) -/

/-- A list: its count, then its entries. -/
def listField {α : Type} (f : α → List Byte) (l : List α) : List Byte := byteField l.length ++ l.flatMap f

/-- A set of sections: bit n for the section of code n; FINAL is always in it (R98). -/
def requiredField (s : Stages) : List Byte :=
  byteField (yesNoCode s.pre + 2 * yesNoCode s.wash + 4 * yesNoCode s.rinse + 8)

/-- A fragment position. -/
def fragmentField : Option Fragment → List Byte
  | none => [0]
  | some f => [1, f.seq] ++ measurementField f.measurement ++ byteField f.faultCode ++ yesNo f.slip

/-- A pass sheet, in the order of R14. Fragment positions stand for the required sections alone. -/
def PassSheet.bytes (p : PassSheet) : List Byte :=
  byteField (Tunnel.code p.tunnel) ++ [p.admissionSeq] ++ byteField p.requiredLevel ++ requiredField p.required ++
    byteField p.stage.code ++
    (if p.required.pre then fragmentField p.preFragment else []) ++
    (if p.required.wash then fragmentField p.washFragment else []) ++
    (if p.required.rinse then fragmentField p.rinseFragment else []) ++
    tickField p.finalEntry ++ tickField p.reference ++ bytesOf 4 p.credit ++ yesNo p.gap ++ yesNo p.orderFault ++
    optByte (p.verdict.map Verdict.code) ++ yesNo p.exitRequested

/-- A record in the order of table 1.2, and its pass sheet after it while there is one (log entry 11). -/
def Rack.bytes (r : Rack) : List Byte :=
  tagBytes r.tag ++ byteField r.slot ++ byteField r.cls.code ++ byteField r.baseLevel ++ yesNo r.isProtected ++
    byteField r.state.code ++ placeField r.place ++ optWindow r.destination ++
    optByte (r.loadCode.map (·.val)) ++ byteField r.passes ++ outcomeField r.lastOutcome ++ bytesOf 2 r.cycles ++
    yesNo r.serviceDue ++ bytesOf 4 r.since.toNat ++ (match r.sheet with
      | some p => p.bytes
      | none => [])

/-- A member of READ_PLACE (R57). -/
def memberBytes (m : Nat × MemberExtra) : List Byte :=
  tagBytes m.1 ++ match m.2 with
    | .plain => []
    | .routed w => optWindow w
    | .held o since => outcomeField o ++ bytesOf 4 since.toNat

/-- A READ_PLACE response (R57): place, count, capacity, reserve, and the list of members. -/
def PlaceReport.bytes (r : PlaceReport) : List Byte :=
  placeField r.place ++ byteField r.members.length ++ byteField r.capacity ++ optByte r.reserve ++
    listField memberBytes r.members

/-- A lane member (R81). -/
def LaneEntry.bytes (e : LaneEntry) : List Byte :=
  tagBytes e.tag ++ byteField e.stage.code ++ [e.admissionSeq] ++ yesNo e.exitRequested

/-- A READ_TUNNEL response (R81). -/
def TunnelReport.bytes (r : TunnelReport) : List Byte :=
  byteField r.state.code ++ [r.admissionSeq] ++ yesNo r.enables.pre ++ yesNo r.enables.wash ++
    yesNo r.enables.rinse ++ tickField r.idleStart ++ tickField r.economyStart ++ tickField r.restartTimer ++
    tickField r.flushTimer ++ listField LaneEntry.bytes r.lane ++ yesNo r.gateShut

/-- A window of a READ_WINDOWS response (R163). -/
def WindowReport.bytes (r : WindowReport) : List Byte :=
  byteField r.cls.code ++ byteField r.mode.code ++ optTag r.fill ++ optTag r.spare ++ listField tagBytes r.routed ++
    byteField r.entries ++ yesNo r.starved

/-- A demand entry of a READ_WINDOWS response (R163). -/
def DemandEntry.bytes (e : DemandEntry) : List Byte := byteField e.window.val ++ bytesOf 4 e.posted.toNat

/-- What a response carries after its status and length. DESIGN CHOICE (log entry 11): the pairs of a READ_CONFIG or
WRITE_CONFIG response are a list and have its count before them (R180); the six windows of READ_WINDOWS are not, and
have none. -/
def Body.bytes : Body → List Byte
  | .alone => []
  | .record r => r.bytes
  | .place r => r.bytes
  | .tunnel r => r.bytes
  | .windows ws demand => ws.flatMap WindowReport.bytes ++ listField DemandEntry.bytes demand
  | .config values => listField (fun v => bytesOf 2 v.1 ++ bytesOf 4 v.2) values
  | .tunnelState st => byteField st.code
  | .windowMode m => byteField m.code
  | .windowClass c => byteField c.code
  | .notices set mask mode => bytesOf 2 set.toNat ++ bytesOf 2 mask.toNat ++ byteField mode.code
  | .noticeSet set => bytesOf 2 set.toNat
  | .tick now lastA lastB => bytesOf 4 now.toNat ++ tickField lastA ++ tickField lastB

/-- What a FETCH clocks out from its byte 1 on, before the 0x00 fill: status, response length, response payload;
NO_RESPONSE with length 0 from an empty buffer (11.1, R179). -/
def responseBytes : Option Response → List Byte
  | some r => byteField r.status.code ++ bytesOf 2 r.body.bytes.length ++ r.body.bytes
  | none => byteField noResponseCode ++ bytesOf 2 0

/-- The MISO bytes of a FETCH of `clocked` bytes: byte 0 is 0x00, and 0x00 follows the response (11.1). -/
def fetchBytes (r : Option Response) (clocked : Nat) : List Byte :=
  let all := 0x00#8 :: responseBytes r
  all.take clocked ++ List.replicate (clocked - all.length) 0x00#8

end Sys2Proof.Machine
end

