-- ==== Sys2Proof/Machine/Flags.lean ====
section
/-! DEFINITION. The Notice Unit: notice numbers, raising and clearing, and the two lines that follow the state,
ATTN and RDY. -/

namespace Sys2Proof.Machine

/-- Member numbers (11.4). -/
def Notice.number : Notice → Nat
  | .tableFull => 0 | .foreignTag => 1 | .unproven => 2 | .lostRetired => 3
  | .trackFault .a => 4 | .trackFault .b => 5 | .exitBlocked .a => 6 | .exitBlocked .b => 7
  | .tunnelFault .a => 8 | .tunnelFault .b => 9 | .holdFull => 10 | .repeatFail => 11 | .serviceDue => 12
  | .starved => 13 | .wrongLine => 14 | .identityFallback => 15

/-- The set that holds one notice alone. -/
def Notice.bit (n : Notice) : BitVec 16 := 1#16 <<< n.number

/-- The state with notice `n` a member of the set (R183). -/
def State.raise (s : State) (n : Notice) : State := { s with notices := s.notices ||| n.bit }

/-- The state with every notice of `named` out of the set (R184). -/
def State.clearNotices (s : State) (named : BitVec 16) : State := { s with notices := s.notices &&& ~~~named }

/-- ATTN is asserted: the set holds a notice that the mask does not name (R183); released while RST is low
(R187). -/
def State.attn (s : State) : Bool := !s.rstLow && decide (s.notices &&& ~~~s.config.mask ≠ 0)

/-- RDY is high: a response waits (R179); low while RST is low (R187). -/
def State.rdy (s : State) : Bool := !s.rstLow && s.response.isSome

end Sys2Proof.Machine
end

