-- ==== Sys2Proof/Machine/Ops.lean ====
section
/-! DEFINITION. The shared operations: looking up racks and places, an event in progress, messages, the move of
R5 with what a departure sets off, demand posting, enrolment and the pending admission's cancellation. -/

namespace Sys2Proof.Machine

/-! ### Reading the state -/

/-- The record with this tag (R1). -/
def State.rack? (s : State) (tag : Nat) : Option Rack := s.racks.find? (·.tag = tag)

/-- The record in this slot (R14). -/
def State.rackInSlot? (s : State) (slot : Nat) : Option Rack := s.racks.find? (·.slot = slot)

/-- The members of a place, oldest first (R40). -/
def State.members (s : State) (p : Place) : List Rack := s.racks.filter (·.place = p)

/-- How many racks a place holds. -/
def State.count (s : State) (p : Place) : Nat := (s.members p).length

/-- The lane of a tunnel, oldest admitted first (R59). -/
def State.lane (s : State) (t : Tunnel) : List Rack := s.members (.tunnel t)

/-- The section a rack stands in, while it has a pass sheet. -/
def Rack.stage? (r : Rack) : Option Stage := r.sheet.map (·.stage)

/-- The rack is in FINAL. -/
def Rack.inFinal (r : Rack) : Bool := decide (r.stage? = some .final)

/-- The rack in FINAL of a tunnel (R119). -/
def State.finalRack (s : State) (t : Tunnel) : Option Rack := (s.lane t).find? (·.inFinal)

/-- The rack at a window's FILL position. -/
def State.fillRack (s : State) (w : Window) : Option Rack := (s.members (.windowFill w)).head?

/-- The rack at a window's SPARE position. -/
def State.spareRack (s : State) (w : Window) : Option Rack := (s.members (.windowSpare w)).head?

/-- Occupied positions of a window. -/
def State.occupied (s : State) (w : Window) : Nat := s.count (.windowFill w) + s.count (.windowSpare w)

/-- The racks on RETURN routed to a window, in order of joining (R46). -/
def State.routedTo (s : State) (w : Window) : List Rack :=
  (s.members .returnLoop).filter (·.destination = some w)

/-- The demand entries of a window. -/
def State.entriesOf (s : State) (w : Window) : List DemandEntry := s.demand.filter (·.window = w)

/-- A window's sum: occupied positions, racks routed to it, demand entries (R148). -/
def State.windowSum (s : State) (w : Window) : Nat :=
  s.occupied w + (s.routedTo w).length + (s.entriesOf w).length

/-- A window is starved (R150). -/
def State.starved (s : State) (w : Window) : Bool :=
  decide (s.windows[w].mode = .accept) && decide (s.occupied w = 0)

/-- Room in a place for a rack that may take its last place (R39, R42). -/
def State.hasRoom (s : State) : Place → Bool
  | .windowFill w => decide (s.count (.windowFill w) < 1)
  | .windowSpare w => decide (s.count (.windowSpare w) < 1)
  | .collect => decide (s.count .collect < Config.collectCapacity)
  | .tunnel t => decide (s.count (.tunnel t) < Config.laneCapacity)
  | .unload t => decide (s.count (.unload t) < Config.unloadCapacity)
  | .returnLoop => decide (s.count .returnLoop < Config.returnCapacity)
  | .hold => decide (s.count .hold < Config.holdCapacity)
  | .store => true
  | .unknown => true

/-- The lowest-numbered free slot (R2); 160 when none is free. -/
def State.freeSlot (s : State) : Nat :=
  ((List.range Config.tableSlots).find? fun n => s.racks.all (·.slot ≠ n)).getD Config.tableSlots

/-- Records the table counts as held at an enrolment test: its records, and the reservation of a deferred
enrolment (R34). -/
def State.tableLoad (s : State) : Nat :=
  s.racks.length + match s.pendingAdmission with
    | some ⟨_, _, some _⟩ => 1
    | _ => 0

/-! ### An event in progress -/

/-- An event in progress: the state so far, the messages it has made, and what it still owes before it ends. -/
structure Event extends State where
  /-- messages made, in order, each with its port -/
  out : List (Port × Message) := []
  /-- pairing is to run once (R154) -/
  wantPairing : Bool := false
  /-- a pending admission is to be re-evaluated once (R92) -/
  wantReeval : Bool := false
  /-- room was reported to the exit gates (R51) -/
  room : PerTunnel Bool := ⟨false, false⟩
  /-- an idle time already reached expires in this event (R69) -/
  wantIdle : Bool := false

/-- The event that has changed nothing yet. -/
def State.event (s : State) : Event := { s with }

/-- Raise a notice. -/
def Event.raise (e : Event) (n : Notice) : Event := { e with notices := e.notices ||| n.bit }

/-- Make a message for one port. -/
def Event.send (e : Event) (p : Port) (m : Message) : Event := { e with out := e.out ++ [(p, m)] }

/-- Make a message for every port that has a role at this moment (R170). -/
def Event.sendRole (e : Event) (r : Role) (m : Message) : Event :=
  { e with out := e.out ++ (allPorts.filter fun p => e.config.roles[p] = r).map fun p => (p, m) }

/-- Change a tunnel's context. -/
def Event.setTunnel (e : Event) (t : Tunnel) (c : TunnelContext) : Event :=
  { e with tunnels := e.tunnels.set t c }

/-- Change a tunnel's state: TUNNEL_STATE is sent (R78), and the change is reported to the Admission Controller
(R79). -/
def Event.enter (e : Event) (t : Tunnel) (st : TunnelState) (fresh : Bool := false) : Event :=
  { (e.setTunnel t { e.tunnels.get t with state := st }).sendRole (.tunnel t) (.tunnelState t st fresh) with
    wantReeval := true }

/-- Discard the idle, restart and flush timers and the economy start (R71, R75). -/
def TunnelContext.withoutTimers (c : TunnelContext) : TunnelContext :=
  { c with idleStart := none, economyStart := none, restartTimer := none, flushTimer := none }

/-- Change a record in place, its position in the list kept: for changes that are no move (R6, R40). -/
def Event.modifyRack (e : Event) (tag : Nat) (f : Rack → Rack) : Event :=
  { e with racks := e.racks.map fun r => if r.tag = tag then f r else r }

/-- Change a rack's pass sheet, if it has one. -/
def Event.modifySheet (e : Event) (tag : Nat) (f : PassSheet → PassSheet) : Event :=
  e.modifyRack tag fun r => { r with sheet := r.sheet.map f }

/-- Post one demand entry for a window in ACCEPT or PAUSE (R149); pairing then runs. -/
def Event.post (e : Event) (w : Window) : Event :=
  if e.windows[w].mode = .stop then e
  else { e with demand := e.demand ++ [⟨w, e.now⟩], wantPairing := true }

/-- Post a number of entries for a window. -/
def Event.postMany (e : Event) (w : Window) : Nat → Event
  | 0 => e
  | n + 1 => (e.post w).postMany w n

/-! ### The move of R5 -/

/-- What a move makes of a record: new state and place, since now; the destination cleared on leaving RETURN
(R7); the pass sheet discarded on leaving a lane (R11); the hold cause on entering HELD (R10). -/
def Rack.moved (r : Rack) (st : RackState) (p : Place) (cause : Option HoldCause) (now : Tick) : Rack :=
  { r with
    state := st
    place := p
    since := now
    destination := if r.place = .returnLoop then none else r.destination
    sheet := match r.place with
      | .tunnel _ => none
      | _ => r.sheet
    lastOutcome := match cause with
      | some c => some (.hold c)
      | none => r.lastOutcome }

/-- Write a record at the tail of its new place, out of its old one: HOLD_FULL is raised by a join that makes
HOLD's count 8 (R48), and a join of RETURN makes pairing run (R46). -/
def Event.join (e : Event) (r : Rack) : Event :=
  let e := { e with racks := e.racks.filter (·.tag ≠ r.tag) ++ [r] }
  match r.place with
  | .hold => if e.toState.count .hold = Config.holdCapacity then e.raise .holdFull else e
  | .returnLoop => { e with wantPairing := true }
  | _ => e

/-- The swap of R41: a rack at SPARE moves to FILL as FILLING, when FILL is empty. -/
def Event.swap (e : Event) (w : Window) : Event :=
  match e.toState.fillRack w, e.toState.spareRack w with
  | none, some r => e.join (r.moved .filling (.windowFill w) none e.now)
  | _, _ => e

/-- STARVED is raised when a departure leaves a window in ACCEPT with both positions empty (R150). -/
def Event.noteStarved (e : Event) (w : Window) : Event :=
  if e.toState.starved w then e.raise .starved else e

/-- A departure from a tunnel's lane (R62): reported to the Admission Controller; an empty lane ends CLOSING
(R72), and starts the idle period of READY and RUNNING (R69). -/
def Event.laneDeparted (e : Event) (t : Tunnel) : Event :=
  let e := { e with wantReeval := true }
  if (e.toState.lane t).isEmpty then
    match (e.tunnels.get t).state with
    | .closing => e.enter t .off
    | .ready | .running => e.setTunnel t { e.tunnels.get t with idleStart := some e.now }
    | _ => e
  else e

/-- What the departure of record `r`, as it stood before, sets off: the swap, demand posting and STARVED at a
window (R41, R149, R150), the demand entry of a routed rack (R46), the room reports of R51, the report of a
lane departure (R62). -/
def Event.departed (e : Event) (r : Rack) : Event :=
  match r.place with
  | .windowFill w => ((e.swap w).post w).noteStarved w
  | .windowSpare w => (e.post w).noteStarved w
  | .collect | .hold => { e with room := ⟨true, true⟩ }
  | .unload t => { e with room := e.room.set t true }
  | .returnLoop => match r.destination with
    | some w => e.post w
    | none => e
  | .tunnel t => e.laneDeparted t
  | .store | .unknown => e

/-- The move of record `r` to `st`, `p` as one operation, with every follow-on effect (R5). -/
def Event.move (e : Event) (r : Rack) (st : RackState) (p : Place) (cause : Option HoldCause := none) : Event :=
  (e.join (r.moved st p cause e.now)).departed r

/-- Remove a record from the table, with the follow-on effects of R17 but for the pending admission's. -/
def Event.remove (e : Event) (r : Rack) : Event :=
  ({ e with racks := e.racks.filter (·.tag ≠ r.tag) } : Event).departed r

/-! ### The pending admission -/

/-- The pending admission ends without a grant and without a message (R94). Its end lets an idle time already
reached expire in the same event (R69). -/
def Event.dropPending (e : Event) : Event := { e with pendingAdmission := none, wantIdle := true }

/-- Cancel the pending admission if it is of this tag, with GRANT(ADMIT, CANCELLED) on its port (R94). -/
def Event.cancelPending (e : Event) (tag : Nat) : Event :=
  match e.pendingAdmission with
  | some p => if p.tag = tag then (e.send p.port (.admitCancelled tag)).dropPending else e
  | none => e

/-! ### Enrolment -/

/-- A tag window contains a tag: a window whose start is above its end contains none (R27). -/
def TagWindow.contains (w : TagWindow) (tag : Nat) : Bool :=
  w.enabled && decide (w.startTag ≤ tag) && decide (tag ≤ w.endTag)

/-- The matching window: the first enabled one that contains the tag; none for a foreign tag (R27). -/
def Configuration.classify (c : Configuration) (tag : Nat) : Option TagWindow :=
  c.tagWindows.toList.find? (·.contains tag)

/-- The attributes a window gives a record (R29). -/
def TagWindow.attributes (w : TagWindow) : EnrolAttributes := ⟨w.cls, w.baseLevel, w.protect⟩

/-- The record of an enrolment, with the values of R12. -/
def newRack (tag slot : Nat) (a : EnrolAttributes) (st : RackState) (p : Place) (now : Tick) : Rack where
  tag := tag
  slot := slot
  cls := a.cls
  baseLevel := a.baseLevel
  isProtected := a.isProtected
  state := st
  place := p
  destination := none
  loadCode := none
  passes := 0
  sheet := none
  lastOutcome := none
  cycles := 0
  serviceDue := false
  since := now

/-- Tests 1 and 2 of an enrolment attempt, then the request's own test 3, then test 4 (R30): the matching
window's attributes, or the refusal with the event that carries its notice. -/
def Event.enrolTests (e : Event) (tag : Nat) (own : TagWindow → Option Status) :
    Except (Event × Status) EnrolAttributes :=
  match e.config.classify tag with
  | none => .error (e.raise .foreignTag, .foreignTag)
  | some w =>
    if w.enrol then
      match own w with
      | some st => .error (e, st)
      | none =>
        if e.toState.tableLoad < Config.tableSlots then .ok w.attributes
        else .error (e.raise .tableFull, .tableFull)
    else .error (e, .notEnrollable)

/-- Create a record (R12). A pending admission with a deferred enrolment of this tag is cancelled (R35). -/
def Event.enrol (e : Event) (tag : Nat) (a : EnrolAttributes) (st : RackState) (p : Place) : Event :=
  (e.join (newRack tag e.toState.freeSlot a st p e.now)).cancelPending tag

end Sys2Proof.Machine
end

