-- ==== Sys2Proof/Machine/Lanes.lean ====
section
/-! DEFINITION. The tunnels' operations: room in a lane (R60, R61), restart from ECONOMY (R70), idle expiry
(R69), entry into FAULT with the teardown of the lane (R75, R76). -/

namespace Sys2Proof.Machine

/-- Capacity of a section (4.2). -/
def Stage.capacity : Stage → Nat
  | .pre => 2 | .wash => 2 | .rinse => 1 | .final => 1

/-- A section is earlier than another in the order PRE, WASH, RINSE, FINAL. -/
def Stage.before (a b : Stage) : Bool := decide (a.code < b.code)

/-- Whether a section is in a set of required sections; FINAL always is (R98). -/
def Stages.has (s : Stages) : Stage → Bool
  | .pre => s.pre | .wash => s.wash | .rinse => s.rinse | .final => true

/-- The first required section (R60). -/
def Stages.first (s : Stages) : Stage :=
  if s.pre then .pre else if s.wash then .wash else if s.rinse then .rinse else .final

/-- The next required section after one (R105). -/
def Stages.next (s : Stages) : Stage → Stage
  | .pre => if s.wash then .wash else if s.rinse then .rinse else .final
  | .wash => if s.rinse then .rinse else .final
  | .rinse => .final
  | .final => .final

/-- How many members of a lane stand in a section. -/
def stageCount (lane : List Rack) (st : Stage) : Nat := (lane.filter (·.stage? = some st)).length

/-- Whether some rack of a list stands in a section earlier than `st`. -/
def anyBefore (lane : List Rack) (st : Stage) : Bool :=
  lane.any fun r => match r.stage? with
    | some x => x.before st
    | none => false

/-- The lane of `t` takes a new rack at section `st` (R60). -/
def State.laneTakes (s : State) (t : Tunnel) (st : Stage) : Bool :=
  decide ((s.lane t).length < Config.laneCapacity) && decide (stageCount (s.lane t) st < st.capacity) &&
    !anyBefore (s.lane t) st

/-- The members of a lane admitted before the rack with this tag. -/
def olderThan (lane : List Rack) (tag : Nat) : List Rack := lane.takeWhile (·.tag ≠ tag)

/-- The room test of an advance of the rack with this tag to section `st` (R61, R106). -/
def State.advanceRoom (s : State) (t : Tunnel) (tag : Nat) (st : Stage) : Bool :=
  decide (stageCount (s.lane t) st < st.capacity) && !anyBefore (olderThan (s.lane t) tag) st

/-- A restart request of the Admission Controller (R70): it has an effect in ECONOMY alone. -/
def Event.restart (e : Event) (t : Tunnel) : Event :=
  let c := e.tunnels.get t
  match c.state with
  | .economy =>
    let short := match c.economyStart with
      | some x => decide (elapsed e.now x < e.config.coolTime)
      | none => false
    if short then
      (e.setTunnel t { c with economyStart := none
                              restartTimer := some (e.now + BitVec.ofNat 32 e.config.restartDelay) }).enter t .restarting
    else (e.setTunnel t { c with economyStart := none }).enter t .warming
  | _ => e

/-- The four conditions of idle expiry, in a READY or RUNNING tunnel (R69). -/
def State.idleDue (s : State) (t : Tunnel) : Bool :=
  let c := s.tunnels.get t
  (decide (c.state = .ready) || decide (c.state = .running)) && decide (s.config.idleTime ≠ 0) &&
    (match c.idleStart with
      | some x => decide (s.config.idleTime ≤ elapsed s.now x)
      | none => false) &&
    (s.lane t).isEmpty && s.pendingAdmission.isNone

/-- Idle expiry: an idle tunnel enters ECONOMY (R69). -/
def Event.idleExpire (e : Event) (t : Tunnel) : Event :=
  if e.toState.idleDue t then
    (e.setTunnel t { e.tunnels.get t with economyStart := some e.now, idleStart := none }).enter t .economy
  else e

/-- Move these racks of a lane to UNKNOWN as HELD with a cause (R76, R132). -/
def Event.loseRacks (e : Event) (cause : HoldCause) : List Rack → Event
  | [] => e
  | r :: rs => (e.join (r.moved .held .unknown (some cause) e.now)).loseRacks cause rs

/-- A deferred EXIT ends because its rack leaves the lane unreleased: GRANT(EXIT, ABANDONED) on its port with the
tag of the rack in FINAL, and the gate is not shut (R76, R132, R176). -/
def Event.abandonExit (e : Event) (t : Tunnel) : Event :=
  let c := e.tunnels.get t
  let e' := e.setTunnel t { c with deferredExit := none, gateShut := false }
  match c.deferredExit, e.toState.finalRack t with
  | some p, some r => e'.send p (.exitAbandoned r.tag)
  | _, _ => e'

/-- A tunnel enters FAULT: timers discarded, the deferred EXIT abandoned, every rack of the lane to UNKNOWN with
TUNNEL_FAULT, the notice raised, TUNNEL_STATE(FAULT) sent (R75, R76). -/
def Event.enterFault (e : Event) (t : Tunnel) : Event :=
  let e := e.abandonExit t
  let e := e.setTunnel t (e.tunnels.get t).withoutTimers
  let e := e.loseRacks .tunnelFault (e.toState.lane t)
  (e.raise (.tunnelFault t)).enter t .fault

end Sys2Proof.Machine
end

