-- ==== Sys2Proof/Machine/Gate.lean ====
section
/-! DEFINITION. The exit gate: destination and release (R139 to R141), verdict (R137), readiness (R134 to R136),
and the Credit Integrator's arithmetic (R120 to R123). -/

namespace Sys2Proof.Machine

/-! ### Release -/

/-- The destination of a rack with this verdict and these passes, with the hold cause of a release to HOLD; none
when no choice of its row has room (R139). -/
def State.gateDestination (s : State) (t : Tunnel) (v : Verdict) (passes : Nat) :
    Option (Destination × Option HoldCause) :=
  if v = .pass then
    if s.hasRoom (.unload t) then some (.unload t, none) else none
  else if passes < 3 then
    if s.hasRoom .collect then some (.collect, none)
    else if s.hasRoom .hold then some (.hold, some .recircBlocked)
    else none
  else if s.hasRoom .hold then some (.hold, some .repeatFail)
  else none

/-- State and place of a rack released to a destination (R141). -/
def Destination.rackState : Destination → RackState
  | .unload _ => .clean | .collect => .soiled | .hold => .held | .returnLoop => .empty

/-- The place a destination stands for. -/
def Destination.place : Destination → Place
  | .unload t => .unload t | .collect => .collect | .hold => .hold | .returnLoop => .returnLoop

/-- Release of a rack from gate `t` (R141). -/
def Event.release (e : Event) (t : Tunnel) (r : Rack) (v : Verdict) (d : Destination) (cause : Option HoldCause) :
    Event :=
  let e := e.setTunnel t { e.tunnels.get t with deferredExit := none, gateShut := false }
  let e := if cause = some .repeatFail then e.raise .repeatFail else e
  e.move { r with lastOutcome := some (.verdict v) } d.rackState d.place cause

/-- The release test (R140), for the rack in FINAL when it is read and has its verdict: the outcome of the
release, or none with the gate shut and EXIT_BLOCKED raised. The port of the outstanding EXIT gets
GRANT(EXIT, verdict, destination) when `grant`. -/
def Event.releaseTest (e : Event) (t : Tunnel) (grant : Bool) : Event × Option (Verdict × Destination) :=
  match e.toState.finalRack t with
  | none => (e, none)
  | some r =>
    match r.sheet.bind (·.verdict), (r.sheet.map (·.exitRequested)).getD false with
    | some v, true =>
      match e.toState.gateDestination t v r.passes with
      | none => ((e.setTunnel t { e.tunnels.get t with gateShut := true }).raise (.exitBlocked t), none)
      | some (d, cause) =>
        let e' := match grant, (e.tunnels.get t).deferredExit with
          | true, some p => e.send p (.grantExit r.tag v d)
          | _, _ => e
        (e'.release t r v d cause, some (v, d))
    | _, _ => (e, none)

/-! ### Verdict -/

/-- The fragments a pass sheet holds, absent or present, with the sections they are of. -/
def PassSheet.fragments (p : PassSheet) : List (Option Fragment) := [p.preFragment, p.washFragment, p.rinseFragment]

/-- A measurement below a limit, or NONE. -/
def cold (f : Option Fragment) (limit : Nat) : Bool :=
  match f.bind (·.measurement) with
  | some m => decide (m < limit)
  | none => true

/-- A measurement above a limit; NONE is not. -/
def hot (f : Option Fragment) (limit : Nat) : Bool :=
  match f.bind (·.measurement) with
  | some m => decide (limit < m)
  | none => false

/-- The threshold of a required level (R128). -/
def Configuration.thresholdOf (c : Configuration) (level : Nat) : Nat := c.threshold.toList.getD level 0

/-- The verdict: the first check that fails, PASS when none does (R137). -/
def formVerdict (c : Configuration) (p : PassSheet) : Verdict :=
  if p.orderFault then .orderFault
  else if p.fragments.any fun f => f.any (·.slip) then .seqSlip
  else if p.fragments.any fun f => f.any fun x => decide (x.faultCode ≠ 0) then .sectionFault
  else if (p.required.pre && p.preFragment.isNone) || (p.required.wash && p.washFragment.isNone) ||
      (p.required.rinse && p.rinseFragment.isNone) then .missingSection
  else if p.required.pre && hot p.preFragment c.preLimit then .preHot
  else if p.required.wash && cold p.washFragment c.washLimit then .washCold
  else if p.required.rinse && cold p.rinseFragment c.rinseLimit then .rinseCold
  else if p.gap then .interrupted
  else if p.credit < c.thresholdOf p.requiredLevel then .creditShort
  else .pass

/-! ### Readiness -/

/-- The maximum dwell in force (R134). -/
def Configuration.maxDwellInForce (c : Configuration) : Nat := max c.maxDwell c.minDwell

/-- Ticks since the rack entered FINAL; 0 before. -/
def PassSheet.dwell (p : PassSheet) (now : Tick) : Nat :=
  match p.finalEntry with
  | some x => elapsed now x
  | none => 0

/-- Ticks since the reference tick; 0 while it is absent. -/
def PassSheet.sinceReference (p : PassSheet) (now : Tick) : Nat :=
  match p.reference with
  | some x => elapsed now x
  | none => 0

/-- The rack in FINAL is ready (R134). -/
def PassSheet.ready (p : PassSheet) (c : Configuration) (now : Tick) : Bool :=
  decide (c.minDwell ≤ p.dwell now) &&
    (decide (c.thresholdOf p.requiredLevel ≤ p.credit) || decide (c.maxDwellInForce ≤ p.dwell now))

/-- The pass sheet once its verdict is formed: the gap test first, then the verdict (R136). -/
def PassSheet.judged (p : PassSheet) (c : Configuration) (now : Tick) : PassSheet :=
  let p := if Config.gapLimit < p.sinceReference now then { p with gap := true } else p
  { p with verdict := some (formVerdict c p) }

/-- The readiness test of the rack in FINAL, while its verdict is absent; a verdict formed is followed by the
release test when the rack has been read (R135, R136). -/
def Event.readinessTest (e : Event) (t : Tunnel) : Event :=
  match e.toState.finalRack t with
  | none => e
  | some r =>
    match r.sheet with
    | none => e
    | some p =>
      if p.verdict.isNone && p.ready e.config e.now then
        let e := e.modifySheet r.tag fun p => p.judged e.config e.now
        if p.exitRequested then (e.releaseTest t true).1 else e
      else e

/-- A room report reaches a gate: a shut gate tests release again (R51, R140). -/
def Event.roomReport (e : Event) (t : Tunnel) : Event :=
  if e.room.get t then
    let e := { e with room := e.room.set t false }
    if (e.tunnels.get t).gateShut then (e.releaseTest t true).1 else e
  else e

/-! ### Heat credit -/

/-- The fixed table W (R122). -/
def weightTable : List Nat :=
  [16, 16, 17, 17, 18, 18, 19, 19, 20, 21, 21, 22, 22, 23, 24, 24, 25, 26, 26, 27, 28, 29, 29, 30, 31]

/-- The weight of a temperature in 0.1 °C (R122). -/
def weight (temperature : Nat) : Nat :=
  if temperature < 710 then 0
  else
    let d := min temperature 960 - 710
    weightTable.getD (d % 25) 0 * 2 ^ (d / 25)

/-- A sensor-fault sample: no reading, or above 120.0 °C (R121). -/
def sensorFault (temperature : Nat) : Bool := decide (1200 < temperature)

/-- The interval of a sample after the clamp (R120). -/
def PassSheet.interval (p : PassSheet) (now : Tick) : Nat := min (p.sinceReference now) Config.gapLimit

/-- The increment of a sample (R121, R123). -/
def PassSheet.increment (p : PassSheet) (temperature : Nat) (now : Tick) : Nat :=
  if sensorFault temperature then 0 else weight temperature * p.interval now

/-- The pass sheet after a sample: credit with saturation, gap flag, reference tick (R120 to R124). -/
def PassSheet.sampled (p : PassSheet) (temperature : Nat) (now : Tick) : PassSheet :=
  { p with
    credit := min (p.credit + p.increment temperature now) Config.maxCredit
    gap := p.gap || decide (Config.gapLimit < p.sinceReference now) || sensorFault temperature
    reference := some now }

end Sys2Proof.Machine
end

