-- ==== Sys2Proof/Machine/Returns.lean ====
section
/-! DEFINITION. The Return Dispatcher's operations: pairing and routes (9.5), modes and classes of windows (9.6),
placing a rack at a window (R41, R152). -/

namespace Sys2Proof.Machine

/-! ### Pairing -/

/-- The entry pairing takes for a rack: the oldest eligible one of a starved window, else the oldest eligible
one; eligible are the entries of windows in ACCEPT with the rack's class (R154). -/
def State.pairingEntry (s : State) (r : Rack) : Option DemandEntry :=
  let eligible := s.demand.filter fun d => s.windows[d.window].mode = .accept ∧ s.windows[d.window].cls = r.cls
  match eligible.find? fun d => s.starved d.window with
  | some d => some d
  | none => eligible.head?

/-- Pair one rack: its destination becomes the entry's window, the entry leaves the queue, ROUTE is sent. -/
def Event.pairOne (e : Event) (r : Rack) : Event :=
  match e.toState.pairingEntry r with
  | none => e
  | some d =>
    (({ e with demand := e.demand.erase d } : Event).modifyRack r.tag
      fun x => { x with destination := some d.window }).sendRole .windows (.route r.tag (some d.window))

/-- Pair racks one after another. -/
def Event.pairAll (e : Event) : List Rack → Event
  | [] => e
  | r :: rs => (e.pairOne r).pairAll rs

/-- The unassigned racks on RETURN, in order of joining. -/
def State.unassigned (s : State) : List Rack := (s.members .returnLoop).filter (·.destination = none)

/-- A run of pairing (R154). -/
def Event.pair (e : Event) : Event :=
  { (e.pairAll e.toState.unassigned) with wantPairing := false }

/-! ### Routes -/

/-- Clear the destinations of these racks, with ROUTE(tag, none) for each, in their order (R155). -/
def Event.clearRoutes (e : Event) : List Rack → Event
  | [] => e
  | r :: rs =>
    ((e.modifyRack r.tag fun x => { x with destination := none }).sendRole .windows (.route r.tag none)).clearRoutes rs

/-! ### Mode and class -/

/-- Write a window's mode. -/
def Event.writeMode (e : Event) (w : Window) (m : WindowMode) : Event :=
  { e with windows := e.windows.set w { e.windows[w] with mode := m } }

/-- A window enters STOP: its entries leave the queue, its routes are cleared, pairing runs (R157). -/
def Event.enterStop (e : Event) (w : Window) : Event :=
  let e := e.writeMode w .stop
  let e := { e with demand := e.demand.filter (·.window ≠ w), wantPairing := true }
  e.clearRoutes (e.toState.routedTo w)

/-- A window leaves STOP: entries are posted until its sum is 2, and pairing runs (R158). -/
def Event.leaveStop (e : Event) (w : Window) (m : WindowMode) : Event :=
  let e := e.writeMode w m
  { (e.postMany w (2 - e.toState.windowSum w)) with wantPairing := true }

/-- Set the mode of a window, with the effects of the transition (R156). Pairing runs when the mode was PAUSE or
STOP (R154). -/
def Event.setMode (e : Event) (w : Window) (m : WindowMode) : Event :=
  if e.windows[w].mode = m then e
  else match e.windows[w].mode, m with
    | _, .stop => e.enterStop w
    | .stop, _ => e.leaveStop w m
    | .pause, _ => { (e.writeMode w m) with wantPairing := true }
    | .accept, _ => e.writeMode w m

/-- Set the class of a window: routes of racks of another class are cleared, an entry is posted for each, and
pairing runs (R159). -/
def Event.setClass (e : Event) (w : Window) (c : RackClass) : Event :=
  if e.windows[w].cls = c then e
  else
    let e := { e with windows := e.windows.set w { e.windows[w] with cls := c }, wantPairing := true }
    let cleared := (e.toState.routedTo w).filter (·.cls ≠ c)
    (e.clearRoutes cleared).postMany w cleared.length

/-! ### Taking a rack at a window -/

/-- The position a rack taken at a window goes to, with its state there: FILL as FILLING when empty, else SPARE
as EMPTY; none when both are occupied (R41). -/
def State.freePosition (s : State) (w : Window) : Option (RackState × Place) :=
  if s.hasRoom (.windowFill w) then some (.filling, .windowFill w)
  else if s.hasRoom (.windowSpare w) then some (.empty, .windowSpare w)
  else none

/-- Consume a window's oldest demand entry (R148, R152). -/
def Event.consumeEntry (e : Event) (w : Window) : Event :=
  { e with demand := e.demand.eraseP (·.window = w) }

end Sys2Proof.Machine
end

