-- ==== Sys2Proof/Machine/Admission.lean ====
section
/-! DEFINITION. The Admission Controller: eligibility and choice (R86 to R89), the admission (R95 to R98), waking
(R90), the evaluation of the pending admission (R85, R92, R93); and the end of an event, where everything it
still owes is done. -/

namespace Sys2Proof.Machine

/-! ### Eligibility and choice -/

/-- The spacing of `t` has passed (R87). DESIGN CHOICE (log entry 29): it is read from the tick counter, so from the
tick that reaches the spacing on it has passed for every event, whether SPACING_EXPIRY is taken yet or not; rows 1 and 6
of R99 can be read so that it has not before the expiry is taken. -/
def State.spacingPassed (s : State) (t : Tunnel) : Bool :=
  match s.lastAdmission.get t with
  | none => true
  | some x => decide (s.config.spacing ≤ elapsed s.now x)

/-- Entries of the booster history that count (R88). DESIGN CHOICE (log entry 29): read from the tick counter, so an
entry has stopped counting at the tick that reaches W, whether BOOSTER_AGEING is taken yet or not. -/
def State.boosterCounted (s : State) : Nat :=
  (s.boosterHistory.filter fun x => elapsed s.now x < s.config.boosterWindow).length

/-- The booster allows an admission (R88). -/
def State.boosterAllows (s : State) : Bool :=
  decide (s.config.boosterWindow = 0) || decide (s.boosterCounted < s.config.boosterCount)

/-- The first required section of a rack admitted into `t` now (R60). -/
def State.entryStage (s : State) (t : Tunnel) : Stage := (s.config.enables.get t).first

/-- Tunnel `t` is in READY or RUNNING. -/
def State.admits (s : State) (t : Tunnel) : Bool :=
  decide ((s.tunnels.get t).state = .ready) || decide ((s.tunnels.get t).state = .running)

/-- Tunnel `t` is eligible (R86). -/
def State.eligible (s : State) (t : Tunnel) : Bool :=
  s.admits t && s.laneTakes t (s.entryStage t) && s.spacingPassed t && s.boosterAllows

/-- The tunnel an evaluation chooses (R89). -/
def State.chosenTunnel (s : State) : Option Tunnel :=
  match s.eligible .a, s.eligible .b with
  | false, false => none
  | true, false => some .a
  | false, true => some .b
  | true, true =>
    if (s.lane .a).length < (s.lane .b).length then some .a
    else if (s.lane .b).length < (s.lane .a).length then some .b
    else match s.lastChosen with
      | some t => some t.other
      | none => some .a

/-! ### The admission -/

/-- The level the load table gives for a load code (R97). -/
def Configuration.loadLevel (c : Configuration) (l : Fin 8) : Nat := c.loadTable[l]

/-- The required level of a pass (R97). -/
def Configuration.requiredLevel (c : Configuration) (r : Rack) : Nat :=
  match r.loadCode with
  | none => r.baseLevel
  | some l => max r.baseLevel (c.loadLevel l)

/-- The pass sheet of an admission of `r` into `t` (R96 to R98). -/
def State.newSheet (s : State) (t : Tunnel) (r : Rack) : PassSheet :=
  let entry := if s.entryStage t = .final then some s.now else none
  { tunnel := t
    admissionSeq := (s.tunnels.get t).admissionSeq
    requiredLevel := s.config.requiredLevel r
    required := s.config.enables.get t
    stage := s.entryStage t
    preFragment := none
    washFragment := none
    rinseFragment := none
    finalEntry := entry
    reference := entry
    credit := 0
    gap := false
    orderFault := false
    verdict := none
    exitRequested := false }

/-- The record an admission of `r` into `t` makes: moved into the lane, one pass more but at most 3, with a new
pass sheet (R9, R95). -/
def State.admittedRack (s : State) (t : Tunnel) (r : Rack) : Rack :=
  { r.moved .washing (.tunnel t) none s.now with passes := min 3 (r.passes + 1), sheet := some (s.newSheet t r) }

/-- The booster history with one more admission; a ninth entry first removes the oldest (R88). -/
def boosterWith (h : List Tick) (now : Tick) : List Tick :=
  (if Config.boosterEntries ≤ h.length then h.drop 1 else h) ++ [now]

/-- What an admission into `t` does beside the rack: the idle period ends, the seq counts on, a READY tunnel
becomes RUNNING (R68), and the admission is remembered (R87 to R89). -/
def Event.countAdmission (e : Event) (t : Tunnel) : Event :=
  let c := e.tunnels.get t
  let e := e.setTunnel t { c with idleStart := none, admissionSeq := c.admissionSeq + 1 }
  let e := if c.state = .ready then e.enter t .running else e
  { e with
    boosterHistory := boosterWith e.boosterHistory e.now
    lastAdmission := e.lastAdmission.set t (some e.now)
    lastChosen := some t }

/-- Admission of a rack that has its record, from COLLECT or UNKNOWN (R95). -/
def Event.admitRack (e : Event) (t : Tunnel) (r : Rack) : Event :=
  ((e.join (e.toState.admittedRack t r)).countAdmission t).departed r

/-- Admission of a rack that the admission itself enrols: its record is created in the lane (R33, R34). -/
def Event.admitNew (e : Event) (t : Tunnel) (tag : Nat) (a : EnrolAttributes) : Event :=
  let fresh := newRack tag e.toState.freeSlot a .washing (.tunnel t) e.now
  (e.join (e.toState.admittedRack t fresh)).countAdmission t

/-! ### Waking a tunnel and the pending admission -/

/-- Ask a tunnel in ECONOMY to restart when no tunnel is READY, RUNNING or RESTARTING, tunnel A first (R90). -/
def Event.wake (e : Event) : Event :=
  let st := fun t => (e.tunnels.get t).state
  let awake := fun t => decide (st t = .ready) || decide (st t = .running) || decide (st t = .restarting)
  if awake .a || awake .b then e
  else if st .a = .economy then e.restart .a
  else if st .b = .economy then e.restart .b
  else e

/-- The grant of the pending admission `p` into `t` (R93, R34). -/
def Event.grant (e : Event) (p : PendingAdmission) (t : Tunnel) : Event :=
  let e := e.dropPending.send p.port (.grantAdmit p.tag t)
  match p.enrol with
  | some a => e.admitNew t p.tag a
  | none => match e.toState.rack? p.tag with
    | some r => e.admitRack t r
    | none => e

/-- One re-evaluation, if the event owes one (R85, R92). -/
def Event.reevaluate (e : Event) : Event :=
  if e.wantReeval then
    let e := { e with wantReeval := false }
    match e.pendingAdmission with
    | none => e
    | some p => match e.toState.chosenTunnel with
      | some t => e.grant p t
      | none => e.wake
  else e

/-! ### The end of an event -/

/-- Room reports to the gates, A before B (R51). -/
def Event.roomReports (e : Event) : Event := (e.roomReport .a).roomReport .b

/-- Room reports, then one re-evaluation. -/
def Event.pass (e : Event) : Event := e.roomReports.reevaluate

/-- Pairing, if the event owes a run (R154). -/
def Event.pairIfWanted (e : Event) : Event := if e.wantPairing then e.pair else e

/-- Idle times already reached expire, if the event lets them (R69). -/
def Event.idleIfWanted (e : Event) : Event :=
  if e.wantIdle then (({ e with wantIdle := false } : Event).idleExpire .a).idleExpire .b else e

/-- Everything an event still owes: pairing; room reports and re-evaluation, again for each change that a
re-evaluation makes (two tunnels can be woken, and a grant can make room, so four passes are enough); then idle
expiry (log entry 4). -/
def Event.settle (e : Event) : Event := e.pairIfWanted.pass.pass.pass.pass.idleIfWanted

end Sys2Proof.Machine
end

