-- ==== Sys2Proof/Machine/Requests.lean ====
section
/-! DEFINITION. What the owning blocks do with a station request that the port has passed to them, one definition
per request kind: the event it makes, and the status and fields of its answer. -/

namespace Sys2Proof.Machine

/-- What an owning block makes of a request: the event, and the answer's status and fields. -/
structure Served where
  /-- the event -/
  event : Event
  /-- the status of the answer -/
  status : Status
  /-- its fields -/
  fields : Fields := .alone

/-! ### SIGHT (R32, R151, R152) -/

/-- The answer to a rack placed at a window: the position it went to. -/
def positionOf (p : Place) : Fields :=
  match p with
  | .windowSpare _ => .position true
  | _ => .position false

/-- Place a known rack at a window, against an entry or on its route (R152). With both positions occupied, which
the law of R148 rules out, the rack is not placed (R41; log entry 12). -/
def Event.takeAtWindow (e : Event) (w : Window) (r : Rack) (againstEntry : Bool) : Served :=
  match e.toState.freePosition w with
  | none => ⟨e, .noDemand, .alone⟩
  | some (st, p) =>
    let e := if againstEntry then e.consumeEntry w else e
    ⟨e.join (r.moved st p none e.now), .done, positionOf p⟩

/-- SIGHT of a known rack, by the table of R151. -/
def Event.sightKnown (e : Event) (w : Window) (r : Rack) : Served :=
  if r.state ≠ .empty then ⟨e, .badState, .alone⟩
  else match r.place, r.destination with
    | .returnLoop, some w' =>
      if w' = w then e.takeAtWindow w r false else ⟨e, .notYours, .window w'⟩
    | .returnLoop, none | .store, _ =>
      if r.cls ≠ e.windows[w].cls then ⟨e, .classMismatch, .alone⟩
      else if e.windows[w].mode = .stop ∨ e.toState.entriesOf w = [] then ⟨e, .noDemand, .alone⟩
      else e.takeAtWindow w r true
    | _, _ => ⟨e, .badPlace, .alone⟩

/-- SIGHT's own tests at an enrolment: class, then demand (R32). -/
def Event.sightTests (e : Event) (w : Window) (tw : TagWindow) : Option Status :=
  if tw.cls ≠ e.windows[w].cls then some .classMismatch
  else if e.windows[w].mode = .stop ∨ e.toState.entriesOf w = [] then some .noDemand
  else none

/-- SIGHT of an unknown tag: an enrolment attempt (R32). -/
def Event.sightUnknown (e : Event) (w : Window) (tag : Nat) : Served :=
  match e.enrolTests tag (e.sightTests w) with
  | .error (e', st) => ⟨e', st, .alone⟩
  | .ok a =>
    match e.toState.freePosition w with
    | none => ⟨e, .noDemand, .alone⟩
    | some (st, p) => ⟨(e.consumeEntry w).enrol tag a st p, .done, positionOf p⟩

/-- SIGHT(w, tag). -/
def Event.serveSight (e : Event) (w : Window) (tag : Nat) : Served :=
  match e.toState.rack? tag with
  | some r => e.sightKnown w r
  | none => e.sightUnknown w tag

/-! ### DISPATCH (R153) -/

/-- DISPATCH(w, load code). -/
def Event.serveDispatch (e : Event) (w : Window) (load : Option (Fin 8)) : Served :=
  match e.toState.fillRack w with
  | none => ⟨e, .badState, .alone⟩
  | some r =>
    if Config.collectCapacity - e.config.recircReserve ≤ e.toState.count .collect then ⟨e, .collectFull, .alone⟩
    else
      let e := e.move { r with passes := 0, loadCode := load } .soiled .collect
      ⟨e, .done, .dispatched r.tag ((e.toState.fillRack w).map (·.tag))⟩

/-! ### MODE (R156) -/

/-- MODE(w, mode). -/
def Event.serveMode (e : Event) (w : Window) (m : WindowMode) : Served :=
  let e := e.setMode w m
  ⟨e, .done, .mode e.windows[w].mode⟩

/-! ### WITHDRAW, and the retirement it shares with RETIRE and lost-record expiry (R15 to R19) -/

/-- A record leaves the table, with every follow-on effect of R17. -/
def Event.retireRack (e : Event) (r : Rack) : Event := (e.remove r).cancelPending r.tag

/-- WITHDRAW(tag). -/
def Event.serveWithdraw (e : Event) (tag : Nat) : Served :=
  match e.toState.rack? tag with
  | none => ⟨e, .unknownTag, .alone⟩
  | some r =>
    if r.isProtected then ⟨e, .isProtected, .alone⟩
    else if r.state = .washing then ⟨e, .inTunnel, .alone⟩
    else ⟨e.retireRack r, .done, .alone⟩

/-! ### QUERY (R13) -/

/-- The fields of a QUERY answer; credit while WASHING alone. -/
def Rack.queryFields (r : Rack) : QueryFields where
  state := r.state
  place := r.place
  cls := r.cls
  passes := r.passes
  destination := r.destination
  lastOutcome := r.lastOutcome
  credit := if r.state = .washing then r.sheet.map (·.credit) else none
  cycles := r.cycles

/-- QUERY(tag). -/
def Event.serveQuery (e : Event) (tag : Nat) : Served :=
  match e.toState.rack? tag with
  | none => ⟨e, .unknownTag, .alone⟩
  | some r => ⟨e, .done, .query r.queryFields⟩

/-! ### ADMIT (R83 to R85) -/

/-- The record may be admitted: SOILED in COLLECT or HELD in UNKNOWN (R83). -/
def Rack.admissible (r : Rack) : Bool :=
  (decide (r.state = .soiled) && decide (r.place = .collect)) ||
    (decide (r.state = .held) && decide (r.place = .unknown))

/-- No tunnel is eligible: the request becomes the pending admission, answered WAIT, and the tests of R90 are
made (R85). -/
def Event.becomePending (e : Event) (p : PendingAdmission) : Served :=
  ⟨({ e with pendingAdmission := some p } : Event).wake, .wait, .alone⟩

/-- ADMIT(tag) on port `p`. -/
def Event.serveAdmit (e : Event) (p : Port) (tag : Nat) : Served :=
  if e.pendingAdmission.isSome then ⟨e, .busy, .alone⟩
  else match e.toState.rack? tag with
    | none =>
      match e.enrolTests tag fun _ => none with
      | .error (e', st) => ⟨e', st, .alone⟩
      | .ok a =>
        match e.toState.chosenTunnel with
        | some t => ⟨e.admitNew t tag a, .done, .admitted t⟩
        | none => e.becomePending ⟨tag, p, some a⟩
    | some r =>
      if r.admissible then
        match e.toState.chosenTunnel with
        | some t => ⟨e.admitRack t r, .done, .admitted t⟩
        | none => e.becomePending ⟨tag, p, none⟩
      else ⟨e, .badState, .alone⟩

/-! ### SECTION (R102 to R109) -/

/-- The stored pair of a reported measurement and fault code (R103). -/
def storedPair (measurement fault : Nat) : Option Nat × Nat :=
  if measurement ≤ 1200 then (some measurement, fault)
  else if measurement = 0xFFFF then (none, fault)
  else (none, 15)

/-- A pass sheet with the fragment of a section written (R107, R111). -/
def PassSheet.withFragment (p : PassSheet) (st : Stage) (f : Fragment) : PassSheet :=
  match st with
  | .pre => { p with preFragment := some f }
  | .wash => { p with washFragment := some f }
  | .rinse => { p with rinseFragment := some f }
  | .final => p

/-- A pass sheet whose rack has come to stand in a section; FINAL entry sets both ticks (R107, R108). -/
def PassSheet.enterStage (p : PassSheet) (st : Stage) (now : Tick) : PassSheet :=
  if st = .final then { p with stage := .final, finalEntry := some now, reference := some now }
  else { p with stage := st }

/-- SECTION(section, seq, measurement, fault code) for tunnel `t`. -/
def Event.serveSection (e : Event) (t : Tunnel) (st : Stage) (seq : Byte) (measurement fault : Nat) : Served :=
  match (e.toState.lane t).find? (·.stage? = some st) with
  | none => ⟨e.raise (.trackFault t), .emptySection, .alone⟩
  | some r =>
    match r.sheet with
    | none => ⟨e.raise (.trackFault t), .emptySection, .alone⟩
    | some p =>
      let next := p.required.next st
      if e.toState.advanceRoom t r.tag next then
        let stored := storedPair measurement fault
        let slip := decide (seq ≠ p.admissionSeq)
        let e' := e.modifySheet r.tag fun p =>
          (p.withFragment st ⟨seq, stored.1, stored.2, slip⟩).enterStage next e.now
        ⟨{ e' with wantReeval := true }, .done, .advanced r.tag next slip stored.1 stored.2⟩
      else ⟨e.raise (.trackFault t), .sectionFull, .noRoom r.tag next⟩

/-! ### SAMPLE (R117 to R125) -/

/-- Ticks since the tunnel's previous sample, capped (R117). -/
def State.sincePrevious (s : State) (t : Tunnel) : Option Nat :=
  (s.tunnels.get t).lastSample.map fun x => min (elapsed s.now x) 65535

/-- SAMPLE(T) for tunnel `t`. -/
def Event.serveSample (e : Event) (t : Tunnel) (temperature : Nat) : Served :=
  let since := e.toState.sincePrevious t
  let e := e.setTunnel t { e.tunnels.get t with lastSample := some e.now }
  match e.toState.finalRack t with
  | none => ⟨e, .done, .sampled since none⟩
  | some r =>
    match r.sheet with
    | none => ⟨e, .done, .sampled since none⟩
    | some p =>
      let p' := p.sampled temperature e.now
      let answer : SampleFields :=
        ⟨r.tag, p.interval e.now, p.increment temperature e.now, p'.credit, p'.gap⟩
      ⟨(e.modifySheet r.tag fun p => p.sampled temperature e.now).readinessTest t, .done, .sampled since (some answer)⟩

/-! ### EXIT (R130 to R133) -/

/-- The pass sheet of a rack read out of order, placed in FINAL (R133). -/
def PassSheet.placedInFinal (p : PassSheet) (now : Tick) : PassSheet :=
  { p with
    stage := .final, finalEntry := some now, reference := some now, orderFault := true, exitRequested := true }

/-- An EXIT that names the rack in FINAL (R131). -/
def Event.exitMatch (e : Event) (t : Tunnel) (p : Port) (r : Rack) : Served :=
  match r.sheet with
  | none => ⟨e, .busy, .alone⟩
  | some sh =>
    if sh.exitRequested then ⟨e, .busy, .alone⟩
    else
      let e := e.modifySheet r.tag fun sh => { sh with exitRequested := true }
      let e := e.setTunnel t { e.tunnels.get t with deferredExit := some p }
      let (e', outcome) := e.releaseTest t false
      match outcome with
      | some (v, d) => ⟨e', .done, .released v d⟩
      | none => ⟨e', .wait, .atGate r.tag sh.verdict.isSome⟩

/-- An EXIT that names another member of the lane: the racks before it are lost, and it is placed in FINAL (R132,
R133). -/
def Event.exitMismatch (e : Event) (t : Tunnel) (p : Port) (tag : Nat) : Served :=
  let e := e.abandonExit t
  let e := e.loseRacks .lostTrack (olderThan (e.toState.lane t) tag)
  let e := e.modifySheet tag fun sh => sh.placedInFinal e.now
  let e := e.setTunnel t { e.tunnels.get t with deferredExit := some p }
  ⟨{ (e.raise (.trackFault t)) with wantReeval := true }, .wait, .atGate tag false⟩

/-- EXIT(tag) on port `p`, for gate `t`, by the tests of R130 in their order. DESIGN CHOICE (log entry 27): an EXIT that
names a lane member while FINAL is empty is EMPTY_SECTION by test 2 of R130; row 6 of R143 calls such an EXIT after
a release a mismatch, and the spec does not say which of the two holds. -/
def Event.serveExit (e : Event) (t : Tunnel) (p : Port) (tag : Nat) : Served :=
  match e.toState.rack? tag with
  | none => ⟨e.raise (.trackFault t), .wrongLane, .alone⟩
  | some read =>
    match e.toState.finalRack t with
    | none => ⟨e.raise (.trackFault t), .emptySection, .alone⟩
    | some r =>
      if r.tag = tag then e.exitMatch t p r
      else if read.place = .tunnel t then e.exitMismatch t p tag
      else ⟨e.raise (.trackFault t), .wrongLane, .alone⟩

/-! ### TANK (R66, R67, R74, R75) -/

/-- The change a TANK report makes in each state of its tunnel (4.3). -/
def Event.tankReport (e : Event) (t : Tunnel) (c : TankCondition) : Event :=
  let x := e.tunnels.get t
  match c, x.state with
  | .ready, .warming =>
    let e := if (e.toState.lane t).isEmpty then e.setTunnel t { x with idleStart := some e.now } else e
    e.enter t .ready
  | .cold, .ready | .cold, .running | .cold, .restarting =>
    (e.setTunnel t { x with idleStart := none, restartTimer := none }).enter t .warming
  | .flushDone, .flushing => (e.setTunnel t { x with flushTimer := none }).enter t .warming
  | .fault, .off | .fault, .fault => e
  | .fault, _ => e.enterFault t
  | _, _ => e

/-- TANK(condition) for tunnel `t`: always DONE, with the tunnel's state after the report (R66). -/
def Event.serveTank (e : Event) (t : Tunnel) (c : TankCondition) : Served :=
  let e := e.tankReport t c
  ⟨e, .done, .tank (e.tunnels.get t).state⟩

/-! ### EMPTIED (R21, R22, R36, R160, R161) -/

/-- The service limit of a class (R24). -/
def Configuration.serviceLimitOf (c : Configuration) (k : RackClass) : Nat := c.serviceLimit.toList.getD k.code 0

/-- The record a taken EMPTIED makes before its move: one cycle more, due or not, a new soil cycle (R21, R22). -/
def Configuration.emptiedRack (c : Configuration) (r : Rack) : Rack :=
  let cycles := min (r.cycles + 1) Config.maxCycles
  let limit := c.serviceLimitOf r.cls
  { r with
    cycles := cycles
    serviceDue := r.serviceDue || (decide (limit ≠ 0) && decide (limit ≤ cycles))
    passes := 0
    loadCode := none }

/-- EMPTIED of a rack in the unload table (R160, R161). -/
def Event.emptiedKnown (e : Event) (r : Rack) : Served :=
  let r' := e.config.emptiedRack r
  if r'.serviceDue && e.toState.hasRoom .hold then
    ⟨(e.raise .serviceDue).move r' .held .hold (some .serviceDue), .done, .emptied .hold r'.cycles true⟩
  else if e.toState.hasRoom .returnLoop then
    let e := if r'.serviceDue then e.raise .serviceDue else e
    ⟨e.move r' .empty .returnLoop, .done, .emptied .returnLoop r'.cycles r'.serviceDue⟩
  else ⟨e, .returnFull, .alone⟩

/-- EMPTIED of an unknown tag: an enrolment attempt on RETURN (R36). Its DONE answer carries destination RETURN,
cycles 0 and service due no (R175). -/
def Event.emptiedUnknown (e : Event) (tag : Nat) : Served :=
  match e.enrolTests tag fun _ => if e.toState.hasRoom .returnLoop then none else some .returnFull with
  | .error (e', st) => ⟨e', st, .alone⟩
  | .ok a => ⟨(e.raise .unproven).enrol tag a .empty .returnLoop, .done, .emptied .returnLoop 0 false⟩

/-- EMPTIED(tag) at the unload table of tunnel `t`. -/
def Event.serveEmptied (e : Event) (t : Tunnel) (tag : Nat) : Served :=
  match e.toState.rack? tag with
  | none => e.emptiedUnknown tag
  | some r => if r.place = .unload t then e.emptiedKnown r else ⟨e, .badPlace, .alone⟩

/-! ### RELOCATE (R52, R53) -/

/-- A rack in HOLD that is due for service: its last outcome is SERVICE_DUE (3.8). -/
def Rack.heldForService (r : Rack) : Bool :=
  decide (r.place = .hold) && decide (r.lastOutcome = some (.hold .serviceDue))

/-- Source and target form a pair that is a move (table of 3.8). -/
def Rack.mayRelocate (r : Rack) : Target → Bool
  | .hold => match r.place with
    | .windowFill _ | .windowSpare _ | .collect | .unload _ | .returnLoop | .store | .unknown => true
    | .tunnel _ | .hold => false
  | .collect => match r.place with
    | .returnLoop | .hold | .store | .unknown => true
    | _ => false
  | .store => decide (r.place = .returnLoop) || r.heldForService
  | .returnLoop => decide (r.place = .store) || r.heldForService

/-- The state a target requires. -/
def Target.rackState : Target → RackState
  | .hold => .held | .collect => .soiled | .store => .empty | .returnLoop => .empty

/-- The changes of a RELOCATE beside the move itself: passes 0 to COLLECT (R9); cycles and service due cleared
on leaving HOLD with cause SERVICE_DUE (R23). -/
def Rack.relocated (r : Rack) (g : Target) : Rack :=
  let r' := if g = .collect then { r with passes := 0 } else r
  if r.heldForService then { r' with cycles := 0, serviceDue := false } else r'

/-- RELOCATE(tag, target): the tests of R52 in order, then the move with the effects of R53. -/
def Event.serveRelocate (e : Event) (tag : Nat) (g : Target) : Served :=
  match e.toState.rack? tag with
  | none => ⟨e, .unknownTag, .alone⟩
  | some r =>
    if r.state = .washing then ⟨e, .inTunnel, .alone⟩
    else if r.mayRelocate g then
      if e.toState.hasRoom g.place then
        let cause := if g = .hold then some .manual else none
        ⟨(e.move (r.relocated g) g.rackState g.place cause).cancelPending tag, .done, .alone⟩
      else ⟨e, .placeFull, .alone⟩
    else ⟨e, .badPlace, .alone⟩

end Sys2Proof.Machine
end

