-- ==== Sys2Proof/Machine/Ports.lean ====
section
/-! DEFINITION. The Station Port Unit: frames into a port's transmit list and out of it, the end of an event, the
service of the head request (R168), the arrival of a request (R167), the frame check (R166), the receive assembly
(R165). -/

namespace Sys2Proof.Machine

/-! ### Transmit lists (R170) -/

/-- Change a port. -/
def State.modifyPort (s : State) (p : Port) (f : PortState → PortState) : State :=
  { s with ports := s.ports.set p (f s.ports[p]) }

/-- A frame at the tail of a transmit list. -/
def PortState.withFrame (x : PortState) (f : QueuedFrame) : PortState := { x with transmit := x.transmit ++ [f] }

/-- An answer joins its port's transmit list, always. -/
def State.pushAnswer (s : State) (p : Port) (use : FrameUse) (a : Answer) : State :=
  s.modifyPort p fun x => x.withFrame ⟨use, .answer a⟩

/-- An unsolicited frame joins while the list holds fewer than 32 frames, and is discarded otherwise. -/
def State.pushMessage (s : State) (p : Port) (m : Message) : State :=
  s.modifyPort p fun x => if x.transmit.length < Config.transmitLimit then x.withFrame ⟨.loose, .message m⟩ else x

/-- The place of a message among the frames of one event on one port (R78, R155). -/
def Message.rank : Message → Nat
  | .grantAdmit _ _ | .admitCancelled _ | .grantExit _ _ _ | .exitAbandoned _ => 0
  | .route _ none => 1
  | .route _ (some _) => 2
  | .tunnelState _ _ _ => 3

/-- The messages of an event in the order they join their lists (R78, R155, R170). -/
def inOrder (out : List (Port × Message)) : List (Port × Message) :=
  [0, 1, 2, 3].flatMap fun k => out.filter fun x => x.2.rank = k

/-- Messages into the transmit lists of their ports, one after another. -/
def State.deliver (s : State) : List (Port × Message) → State
  | [] => s
  | (p, m) :: rest => (s.pushMessage p m).deliver rest

/-- The end of an event: what it still owes is done, its answer, if it has one, joins the list of its port as the
answer of the head request, and its messages follow. -/
def Event.finish (e : Event) (reply : Option (Port × Answer)) : State :=
  let e := e.settle
  let s := match reply with
    | some (p, a) => e.toState.pushAnswer p .head a
    | none => e.toState
  s.deliver (inOrder e.out)

/-! ### Service (R168) -/

/-- Test 3 of R168: an ADMIT on the port of the pending admission, an EXIT on a deferred EXIT port. -/
def State.deferredBusy (s : State) (p : Port) : ReqKind → Bool
  | .admitRequest => decide (s.pendingAdmission.map (·.port) = some p)
  | .exit => decide (s.tunnels.a.deferredExit = some p) || decide (s.tunnels.b.deferredExit = some p)
  | _ => false

/-- A request handed to its owning block, for the tunnel of the port's role (R168). -/
def Event.owner (e : Event) (p : Port) (t : Tunnel) : Request → Served
  | .sight w tag => e.serveSight w tag
  | .dispatch w l => e.serveDispatch w l
  | .mode w m => e.serveMode w m
  | .withdraw tag => e.serveWithdraw tag
  | .query tag => e.serveQuery tag
  | .admitRequest tag => e.serveAdmit p tag
  | .sectionReport st seq m f => e.serveSection t st seq m f
  | .sample x => e.serveSample t x
  | .exit tag => e.serveExit t p tag
  | .tank c => e.serveTank t c
  | .emptied tag => e.serveEmptied t tag
  | .relocate tag g => e.serveRelocate tag g

/-- The tunnel of a role; TUNNEL_A for a role that has none, whose requests need none. -/
def Role.tunnelOrA : Role → Tunnel
  | .tunnel t | .unload t => t
  | _ => .a

/-- The tests of R168 in order, and the owning block's answer. -/
def State.judge (s : State) (p : Port) (r : RawRequest) : Served :=
  let role := s.config.roles[p]
  match requestKindOf r.kind with
  | none => ⟨s.event, .role, .alone⟩
  | some k =>
    if role.permits k then
      match parseRequest k r.payload with
      | none => ⟨s.event, .malformed, .alone⟩
      | some req =>
        if s.deferredBusy p k then ⟨s.event, .busy, .alone⟩
        else s.event.owner p role.tunnelOrA req
    else ⟨s.event, .role, .alone⟩

/-- Serve one request of port `p` as its head: the owning block's event and its one answer (R168). -/
def State.serve (s : State) (p : Port) (r : RawRequest) : State :=
  let v := s.judge p r
  v.event.finish (some (p, ⟨answerCode r.kind, v.status, v.fields⟩))

/-- Serve the head of a port's queue, if there is one. -/
def State.serveHead (s : State) (p : Port) : State :=
  match s.ports[p].queue with
  | [] => s
  | r :: _ => s.serve p r

/-! ### Arrival (R165 to R167) -/

/-- A request arrives at a port (R167): it joins a queue of fewer than two and is served if it is the head; at a
full queue it is answered BUSY once, and discarded while that BUSY is pending. -/
def State.arrive (s : State) (p : Port) (r : RawRequest) : State :=
  let x := s.ports[p]
  if x.queue.length < Config.queueLimit then
    let s' := s.modifyPort p fun x => { x with queue := x.queue ++ [r] }
    if x.queue.isEmpty then s'.serve p r else s'
  else if x.busyPending then s
  else (s.modifyPort p fun x => { x with busyPending := true }).pushAnswer p .busy ⟨answerCode r.kind, .busy, .alone⟩

/-- The frame check of R166, in its order: check byte, line identity, arrival. -/
def State.checkFrame (s : State) (p : Port) (identity kind : Byte) (payload : List Byte) (check : Byte) : State :=
  if checkByte (identity :: kind :: BitVec.ofNat 8 payload.length :: payload) ≠ check then s
  else if identity ≠ s.identity.setWidth 8 then s.raise .wrongLine
  else s.arrive p ⟨kind, payload⟩

/-- The receive assembly back to hunting (R165). -/
def State.hunt (s : State) (p : Port) : State := s.modifyPort p fun x => { x with assembly := [] }

/-- A complete frame goes to the frame check, and the assembly returns to hunting (R165). -/
def State.frameComplete (s : State) (p : Port) : List Byte → State
  | _ :: identity :: kind :: _ :: rest =>
    (s.hunt p).checkFrame p identity kind rest.dropLast (rest.getLastD 0)
  | _ => s.hunt p

/-- The longest payload of a frame (R165). -/
def maxPayload : Nat := 20

/-- A character on a receive wire (R165). -/
def State.character (s : State) (p : Port) (c : Byte) : State :=
  match s.ports[p].assembly with
  | [] => if c = 0xC5 then s.modifyPort p fun x => { x with assembly := [c] } else s
  | b :: bs =>
    let all := b :: bs ++ [c]
    let n := (all.getD 3 0).toNat
    if all.length ≤ 3 then s.modifyPort p fun x => { x with assembly := all }
    else if maxPayload < n then s.hunt p
    else if all.length = 5 + n then s.frameComplete p all
    else s.modifyPort p fun x => { x with assembly := all }

/-- The last character of the frame at the head of a transmit list is sent: the frame leaves the list; a BUSY
ends busy answer pending; the head request's answer lets the waiting request become the head and be served (R167,
R170). -/
def State.frameSent (s : State) (p : Port) : State :=
  match s.ports[p].transmit with
  | [] => s
  | f :: rest =>
    let s := s.modifyPort p fun x => { x with transmit := rest, lastSent := f.frame.bytes s.identity }
    match f.use with
    | .head => (s.modifyPort p fun x => { x with queue := x.queue.drop 1 }).serveHead p
    | .busy => s.modifyPort p fun x => { x with busyPending := false }
    | .loose | .begun => s

end Sys2Proof.Machine
end

