-- ==== Sys2Proof/Machine/Items.lean ====
section
/-! DEFINITION. Configuration items by number: reading, writing with clamping, and the follow-on effects of a
WRITE_CONFIG (11.3, R182). -/

namespace Sys2Proof.Machine

/-- The configuration items (11.3). -/
inductive Item where
  | lostTimeout
  | serviceLimit (c : Fin 4)
  | recircReserve
  | idleTime | coolTime | restartDelay | flushTime
  | spacing | boosterCount | boosterWindow
  | loadTable (i : Fin 8)
  | threshold (i : Fin 4)
  | preLimit | washLimit | rinseLimit
  | minDwell | maxDwell
  | enable (t : Tunnel) (st : Fin 3)
  | role (p : Port)
  | mask
  | clearMode
  | tagWindow (n : Fin 8) (a : Fin 7)
  deriving DecidableEq, Repr

/-- The item of an item number; none for a number that is not in the table (11.3). -/
def itemOf (n : Nat) : Option Item :=
  if n = 0x01 then some .lostTimeout
  else if h : 0x02 ≤ n ∧ n ≤ 0x05 then some (.serviceLimit ⟨n - 0x02, by omega⟩)
  else if n = 0x06 then some .recircReserve
  else if n = 0x07 then some .idleTime
  else if n = 0x08 then some .coolTime
  else if n = 0x09 then some .restartDelay
  else if n = 0x0A then some .flushTime
  else if n = 0x0B then some .spacing
  else if n = 0x0C then some .boosterCount
  else if n = 0x0D then some .boosterWindow
  else if h : 0x10 ≤ n ∧ n ≤ 0x17 then some (.loadTable ⟨n - 0x10, by omega⟩)
  else if h : 0x18 ≤ n ∧ n ≤ 0x1B then some (.threshold ⟨n - 0x18, by omega⟩)
  else if n = 0x1C then some .preLimit
  else if n = 0x1D then some .washLimit
  else if n = 0x1E then some .rinseLimit
  else if n = 0x1F then some .minDwell
  else if n = 0x20 then some .maxDwell
  else if h : 0x21 ≤ n ∧ n ≤ 0x23 then some (.enable .a ⟨n - 0x21, by omega⟩)
  else if h : 0x24 ≤ n ∧ n ≤ 0x26 then some (.enable .b ⟨n - 0x24, by omega⟩)
  else if h : 0x28 ≤ n ∧ n ≤ 0x2F then some (.role ⟨n - 0x28, by omega⟩)
  else if n = 0x30 then some .mask
  else if n = 0x31 then some .clearMode
  else if h : 0x40 ≤ n ∧ n < 0x80 ∧ (n - 0x40) % 8 < 7 then
    some (.tagWindow ⟨(n - 0x40) / 8, by omega⟩ ⟨(n - 0x40) % 8, h.2.2⟩)
  else none

/-! ### Reading -/

/-- One of a tunnel's three enables. -/
def Stages.enable (s : Stages) (i : Fin 3) : Bool :=
  match i with
  | 0 => s.pre
  | 1 => s.wash
  | 2 => s.rinse

/-- One attribute of a tag window, as its value code. -/
def TagWindow.attribute (w : TagWindow) (a : Fin 7) : Nat :=
  match a with
  | 0 => yesNoCode w.enabled
  | 1 => w.startTag
  | 2 => w.endTag
  | 3 => w.cls.code
  | 4 => w.baseLevel
  | 5 => yesNoCode w.enrol
  | 6 => yesNoCode w.protect

/-- The stored value of an item. -/
def Configuration.get (c : Configuration) : Item → Nat
  | .lostTimeout => c.lostTimeout
  | .serviceLimit k => c.serviceLimit[k]
  | .recircReserve => c.recircReserve
  | .idleTime => c.idleTime
  | .coolTime => c.coolTime
  | .restartDelay => c.restartDelay
  | .flushTime => c.flushTime
  | .spacing => c.spacing
  | .boosterCount => c.boosterCount
  | .boosterWindow => c.boosterWindow
  | .loadTable i => c.loadTable[i]
  | .threshold i => c.threshold[i]
  | .preLimit => c.preLimit
  | .washLimit => c.washLimit
  | .rinseLimit => c.rinseLimit
  | .minDwell => c.minDwell
  | .maxDwell => c.maxDwell
  | .enable t i => yesNoCode ((c.enables.get t).enable i)
  | .role p => c.roles[p].code
  | .mask => c.mask.toNat
  | .clearMode => c.clearMode.code
  | .tagWindow n a => c.tagWindows[n].attribute a

/-! ### Writing -/

/-- A numeric value stored as the nearer bound of its range. -/
def clamp (lo hi v : Nat) : Nat := max lo (min hi v)

/-- A tunnel's enables with one written. -/
def Stages.withEnable (s : Stages) (i : Fin 3) (b : Bool) : Stages :=
  match i with
  | 0 => { s with pre := b }
  | 1 => { s with wash := b }
  | 2 => { s with rinse := b }

/-- A tag window with one attribute written; none for an enumerated value outside its set (R28). -/
def TagWindow.withAttribute (w : TagWindow) (a : Fin 7) (v : Nat) : Option TagWindow :=
  match a with
  | 0 => (yesNoOf v).map fun b => { w with enabled := b }
  | 1 => some { w with startTag := clamp 1 Config.maxTag v }
  | 2 => some { w with endTag := clamp 1 Config.maxTag v }
  | 3 => (classOf v).map fun c => { w with cls := c }
  | 4 => some { w with baseLevel := clamp 0 3 v }
  | 5 => (yesNoOf v).map fun b => { w with enrol := b }
  | 6 => (yesNoOf v).map fun b => { w with protect := b }

/-- The configuration with one item written, clamped to its range; none for an enumerated value outside its set
(R182, with the ranges of 11.3). -/
def Configuration.put (c : Configuration) (i : Item) (v : Nat) : Option Configuration :=
  match i with
  | .lostTimeout => some { c with lostTimeout := clamp 0 65535 v }
  | .serviceLimit k => some { c with serviceLimit := c.serviceLimit.set k (clamp 0 65535 v) }
  | .recircReserve => some { c with recircReserve := clamp 0 8 v }
  | .idleTime => some { c with idleTime := clamp 0 65535 v }
  | .coolTime => some { c with coolTime := clamp 0 65535 v }
  | .restartDelay => some { c with restartDelay := clamp 1 600 v }
  | .flushTime => some { c with flushTime := clamp 1 65535 v }
  | .spacing => some { c with spacing := clamp 10 200 v }
  | .boosterCount => some { c with boosterCount := clamp 1 8 v }
  | .boosterWindow => some { c with boosterWindow := clamp 0 1200 v }
  | .loadTable k => some { c with loadTable := c.loadTable.set k (clamp 0 3 v) }
  | .threshold k => some { c with threshold := c.threshold.set k (clamp 0 Config.maxCredit v) }
  | .preLimit => some { c with preLimit := clamp 0 1200 v }
  | .washLimit => some { c with washLimit := clamp 0 1200 v }
  | .rinseLimit => some { c with rinseLimit := clamp 0 1200 v }
  | .minDwell => some { c with minDwell := clamp 10 600 v }
  | .maxDwell => some { c with maxDwell := clamp 60 1200 v }
  | .enable t k => (yesNoOf v).map fun b => { c with enables := c.enables.set t ((c.enables.get t).withEnable k b) }
  | .role p => (roleOf v).map fun r => { c with roles := c.roles.set p r }
  | .mask => if v < 65536 then some { c with mask := BitVec.ofNat 16 v } else none
  | .clearMode => (clearModeOf v).map fun m => { c with clearMode := m }
  | .tagWindow n a => (c.tagWindows[n].withAttribute a v).map fun w => { c with tagWindows := c.tagWindows.set n w }

/-- A list of item numbers as items; none when one is not in the table. -/
def itemsOf : List Nat → Option (List Item)
  | [] => some []
  | n :: ns => match itemOf n, itemsOf ns with
    | some i, some is => some (i :: is)
    | _, _ => none

/-- Every pair written in order, so that an item named twice has the later value; none when one is refused (R182). -/
def Configuration.putAll (c : Configuration) : List (Item × Nat) → Option Configuration
  | [] => some c
  | (i, v) :: rest => match c.put i v with
    | some c' => c'.putAll rest
    | none => none

/-! ### Follow-on effects (R182) -/

/-- The record has been in UNKNOWN for the lost timeout and is not protected (R19). -/
def State.lostDue (s : State) (r : Rack) : Bool :=
  decide (r.place = .unknown) && !r.isProtected && decide (s.config.lostTimeout ≠ 0) &&
    decide (s.config.lostTimeout ≤ elapsed s.now r.since)

/-- Lost-record expiry of a record (R19, R20). -/
def Event.loseRecord (e : Event) (r : Rack) : Event := (e.raise .lostRetired).retireRack r

/-- Lost-record expiry of these records. -/
def Event.loseRecords (e : Event) : List Rack → Event
  | [] => e
  | r :: rs => (e.loseRecord r).loseRecords rs

/-- Tunnel `t`'s deferred EXIT is cancelled without message if it is of this port (R131, R171). -/
def Event.cancelExit (e : Event) (p : Port) (t : Tunnel) : Event :=
  if (e.tunnels.get t).deferredExit = some p then
    let e := match e.toState.finalRack t with
      | some r => e.modifySheet r.tag fun sh => { sh with exitRequested := false }
      | none => e
    e.setTunnel t { e.tunnels.get t with deferredExit := none, gateShut := false }
  else e

/-- The effects of a new role on a port (R171): the waiting request is discarded, and the port's deferred
requests are cancelled without message. DESIGN CHOICE (log entry 28): a request that still waits at the write is
discarded, as R171, R173 and row 3 of R177 say, where row 2 of R177 says it is served under the new role. -/
def Event.roleChanged (e : Event) (p : Port) : Event :=
  let e := { e with ports := e.ports.set p { e.ports[p] with queue := e.ports[p].queue.take 1 } }
  let e := if e.pendingAdmission.map (·.port) = some p then e.dropPending else e
  (e.cancelExit p .a).cancelExit p .b

/-- The effects of the new roles of a list of ports, where the role differs from the old one. -/
def Event.rolesChanged (e : Event) (old : Configuration) : List Port → Event
  | [] => e
  | p :: ps => (if old.roles[p] = e.config.roles[p] then e else e.roleChanged p).rolesChanged old ps

/-- Whether a write brought the limit `new` to or below a dwell that `old` was above (R135). -/
def crossed (old new dwell : Nat) : Bool := decide (dwell < old) && decide (new ≤ dwell)

/-- A write tests readiness of the rack in FINAL of `t`: a threshold was written, or a dwell limit was brought to
or below the dwell reached (R128, R135). -/
def State.writeTests (s : State) (old : Configuration) (written : List Item) (t : Tunnel) : Bool :=
  match (s.finalRack t).bind (·.sheet) with
  | none => false
  | some p =>
    written.any (fun i => match i with
      | .threshold _ => true
      | _ => false) ||
    crossed old.minDwell s.config.minDwell (p.dwell s.now) ||
    crossed old.maxDwellInForce s.config.maxDwellInForce (p.dwell s.now)

/-- The write is a re-evaluation event (R92). -/
def writeReevaluates (written : List Item) : Bool :=
  written.any fun i => match i with
    | .spacing | .boosterCount | .boosterWindow | .enable _ _ => true
    | _ => false

/-- The readiness test that a write brings about at one tunnel. -/
def Event.testAfterWrite (e : Event) (old : Configuration) (written : List Item) (t : Tunnel) : Event :=
  if e.toState.writeTests old written t then e.readinessTest t else e

/-- The follow-on effects of a WRITE_CONFIG, once, after every item is written: role changes, expiry of records in
UNKNOWN, readiness tests, and what the end of the event does: re-evaluation and idle expiry (R182; the order is
log entry 4's). -/
def Event.afterWrite (e : Event) (old : Configuration) (written : List Item) : Event :=
  let e := e.rolesChanged old allPorts
  let e := if .lostTimeout ∈ written then e.loseRecords (e.racks.filter e.toState.lostDue) else e
  let e := (e.testAfterWrite old written .a).testAfterWrite old written .b
  { e with
    wantReeval := e.wantReeval || writeReevaluates written
    wantIdle := e.wantIdle || decide (.idleTime ∈ written) }

end Sys2Proof.Machine
end

