-- ==== Sys2Proof/Machine/Commands.lean ====
section
/-! DEFINITION. What the supervisor commands do: the taking of a command transaction (R179, R180), the responses
of the read commands, and the effects of the corrective commands. -/

namespace Sys2Proof.Machine

/-! ### Taking a transaction -/

/-- What a command makes: the event and the response. -/
structure Taken where
  /-- the event -/
  event : Event
  /-- the response's status -/
  status : RespStatus
  /-- what it carries -/
  body : Body := .alone

/-- The transaction's bytes agree with its length field, and the length is one the command allows (R179, R180). -/
def lengthFits (x : Transfer) (n : Nat) (allowed : Bool) : Bool :=
  decide (x.clocked = 3 + x.length.toNat) && decide (x.length.toNat ≤ 512) && decide (x.length.toNat = n) && allowed

/-- The response of a command replaces the buffer's content; the transaction's end empties the command buffer; MISO
was 0x00 throughout (R179, 11.1). -/
def State.respond (s : State) (x : Transfer) (r : Response) : State :=
  { s with response := some r, commandBuffer := [], miso := List.replicate x.clocked 0x00#8 }

/-- A command transaction taken when CS goes high (R179): nothing while RST is low or for zero bytes clocked;
refused with BAD_VALUE when its length does not fit; otherwise carried out whole. -/
def State.take (s : State) (x : Transfer) (fits : Bool) (act : State → Taken) : State :=
  if s.rstLow ∨ x.clocked = 0 then s
  else if fits then
    let v := act s
    (v.event.finish none).respond x ⟨v.status, v.body⟩
  else s.respond x ⟨.badValue, .alone⟩

/-- A refusal with BAD_VALUE. -/
def State.badValue (s : State) : Taken := ⟨s.event, .badValue, .alone⟩

/-- A read command's response: nothing changes. -/
def State.answerRead (s : State) (b : Body) : Taken := ⟨s.event, .done, b⟩

/-! ### Reads -/

/-- READ_RECORD (R14). -/
def State.readRecordBy (s : State) : RecordKey → Taken
  | .byTag tag =>
    if isTag tag.toNat then
      match s.rack? tag.toNat with
      | some r => s.answerRead (.record r)
      | none => ⟨s.event, .unknownTag, .alone⟩
    else s.badValue
  | .bySlot slot =>
    if slot.toNat < Config.tableSlots then
      match s.rackInSlot? slot.toNat with
      | some r => s.answerRead (.record r)
      | none => ⟨s.event, .unknownTag, .alone⟩
    else s.badValue
  | .badSelector _ => s.badValue

/-- The allowed length of a READ_RECORD payload; a selector above 1 has none and is refused either way (R180). -/
def recordKeyLength : RecordKey → Nat
  | .byTag _ => 4
  | .bySlot _ => 2
  | .badSelector _ => 0

/-- The capacity READ_PLACE reports (R57). -/
def Place.capacity : Place → Nat
  | .windowFill _ | .windowSpare _ => 1
  | .collect => Config.collectCapacity
  | .tunnel _ => Config.laneCapacity
  | .unload _ => Config.unloadCapacity
  | .returnLoop => Config.returnCapacity
  | .hold => Config.holdCapacity
  | .store | .unknown => Config.tableSlots

/-- The place keeps an order of joining (R40). -/
def Place.ordered : Place → Bool
  | .collect | .unload _ | .returnLoop | .tunnel _ => true
  | _ => false

/-- Put a record into a list that ascends by slot. -/
def insertBySlot (r : Rack) : List Rack → List Rack
  | [] => [r]
  | x :: xs => if r.slot ≤ x.slot then r :: x :: xs else x :: insertBySlot r xs

/-- Records in ascending order of slot. -/
def bySlotOrder : List Rack → List Rack
  | [] => []
  | r :: rs => insertBySlot r (bySlotOrder rs)

/-- What READ_PLACE says of a member (R57). -/
def memberReport (p : Place) (r : Rack) : Nat × MemberExtra :=
  (r.tag, match p with
    | .returnLoop => .routed r.destination
    | .hold | .unknown => .held r.lastOutcome r.since
    | _ => .plain)

/-- A READ_PLACE report (R57). -/
def State.placeReport (s : State) (p : Place) : PlaceReport where
  place := p
  capacity := p.capacity
  reserve := if p = .collect then some s.config.recircReserve else none
  members := (if p.ordered then s.members p else bySlotOrder (s.members p)).map (memberReport p)

/-- What READ_TUNNEL says of a lane member (R81). -/
def laneEntry (r : Rack) : LaneEntry where
  tag := r.tag
  stage := (r.sheet.map (·.stage)).getD .pre
  admissionSeq := (r.sheet.map (·.admissionSeq)).getD 0
  exitRequested := (r.sheet.map (·.exitRequested)).getD false

/-- A READ_TUNNEL report (R81). -/
def State.tunnelReport (s : State) (t : Tunnel) : TunnelReport :=
  let c := s.tunnels.get t
  { state := c.state
    admissionSeq := c.admissionSeq
    enables := s.config.enables.get t
    idleStart := c.idleStart
    economyStart := c.economyStart
    restartTimer := c.restartTimer
    flushTimer := c.flushTimer
    lane := (s.lane t).map laneEntry
    gateShut := c.gateShut }

/-- What READ_WINDOWS says of a window (R163). -/
def State.windowReport (s : State) (w : Window) : WindowReport where
  cls := s.windows[w].cls
  mode := s.windows[w].mode
  fill := (s.fillRack w).map (·.tag)
  spare := (s.spareRack w).map (·.tag)
  routed := (s.routedTo w).map (·.tag)
  entries := (s.entriesOf w).length
  starved := s.starved w

/-- READ_CONFIG of these item numbers (R182). -/
def State.readItems (s : State) (items : List Nat) : Taken :=
  match itemsOf items with
  | some is => s.answerRead (.config (items.zip (is.map s.config.get)))
  | none => s.badValue

/-! ### WRITE_CONFIG (R182) -/

/-- WRITE_CONFIG of these pairs. -/
def State.writeItems (s : State) (pairs : List (Nat × Nat)) : Taken :=
  match itemsOf (pairs.map (·.1)) with
  | none => s.badValue
  | some is =>
    match s.config.putAll (is.zip (pairs.map (·.2))) with
    | none => s.badValue
    | some c =>
      ⟨({ s.event with config := c } : Event).afterWrite s.config is, .done,
        .config ((pairs.map (·.1)).zip (is.map c.get))⟩

/-! ### Racks -/

/-- RETIRE (R15). -/
def State.retireTag (s : State) (tag : Nat) : Taken :=
  if isTag tag then
    match s.rack? tag with
    | none => ⟨s.event, .unknownTag, .alone⟩
    | some r =>
      if r.state = .washing then ⟨s.event, .inTunnel, .alone⟩
      else ⟨s.event.retireRack r, .done, .alone⟩
  else s.badValue

/-- The response status of an answer status of RELOCATE (R55). -/
def relocateResponse : Status → RespStatus
  | .done => .done
  | .unknownTag => .unknownTag
  | .inTunnel => .inTunnel
  | .placeFull => .placeFull
  | _ => .badPlace

/-- The supervisor's RELOCATE: a bad tag or target first, then what the station request does (R55). -/
def State.relocateBy (s : State) (tag target : Nat) : Taken :=
  match targetOf target with
  | none => s.badValue
  | some g =>
    if isTag tag then
      let v := s.event.serveRelocate tag g
      ⟨v.event, relocateResponse v.status, .alone⟩
    else s.badValue

/-! ### Tunnels (R64 to R77) -/

/-- A TUNNEL command of tunnel value `n`: BAD_VALUE for none of the two, else the action's status and event; the
response carries the tunnel's state after the command, refused or not (R64). DESIGN CHOICE (log entry 15): "after the
command" is read as right after the command's own change, before what the same event sets off. -/
def State.tunnelCommand (s : State) (n : Nat) (action : Event → Tunnel → Event × RespStatus) : Taken :=
  match tunnelOf n with
  | none => s.badValue
  | some t =>
    let v := action s.event t
    ⟨v.1, v.2, .tunnelState (v.1.tunnels.get t).state⟩

/-- START (R65). -/
def Event.startTunnel (e : Event) (t : Tunnel) : Event × RespStatus :=
  let c := e.tunnels.get t
  match c.state with
  | .off => ((e.setTunnel t { c with admissionSeq := 0 }).enter t .warming true, .done)
  | _ => (e, .badState)

/-- STOP (R71). -/
def Event.stopTunnel (e : Event) (t : Tunnel) : Event × RespStatus :=
  let c := e.tunnels.get t
  match c.state with
  | .warming | .ready | .running | .economy | .restarting =>
    ((e.setTunnel t c.withoutTimers).enter t (if (e.toState.lane t).isEmpty then .off else .closing), .done)
  | .closing => (e, .done)
  | .flushing => (e, .busy)
  | .off | .fault => (e, .badState)

/-- FLUSH (R73). -/
def Event.flushTunnel (e : Event) (t : Tunnel) : Event × RespStatus :=
  let c := e.tunnels.get t
  if (e.tunnels.get t.other).state = .flushing then (e, .sharedBusy)
  else if (c.state = .ready ∨ c.state = .economy) ∧ (e.toState.lane t).isEmpty then
    ((e.setTunnel t { c with
        idleStart := none
        economyStart := none
        flushTimer := some (e.now + BitVec.ofNat 32 e.config.flushTime) }).enter t .flushing, .done)
  else (e, .badState)

/-- CLEAR_FAULT (R77). -/
def Event.clearFault (e : Event) (t : Tunnel) : Event × RespStatus :=
  match (e.tunnels.get t).state with
  | .fault => (e.enter t .off, .done)
  | _ => (e, .badState)

/-! ### Windows (R156, R159) -/

/-- WINDOW_MODE. -/
def State.windowModeBy (s : State) (w m : Nat) : Taken :=
  match windowOf w, windowModeOf m with
  | some w, some m =>
    let e := s.event.setMode w m
    ⟨e, .done, .windowMode e.windows[w].mode⟩
  | _, _ => s.badValue

/-- WINDOW_CLASS. -/
def State.windowClassBy (s : State) (w c : Nat) : Taken :=
  match windowOf w, classOf c with
  | some w, some c => ⟨s.event.setClass w c, .done, .windowClass c⟩
  | _, _ => s.badValue

/-! ### Notices (R184) -/

/-- READ_NOTICES: in CLEAR_ON_READ the notices it returns leave the set as the command is taken. -/
def State.readNoticeSet (s : State) : Taken :=
  let body := Body.notices s.notices s.config.mask s.config.clearMode
  match s.config.clearMode with
  | .writeBack => s.answerRead body
  | .clearOnRead => ⟨(s.clearNotices s.notices).event, .done, body⟩

/-- CLEAR_NOTICES. -/
def State.clearNoticeSet (s : State) (named : BitVec 16) : Taken :=
  let s := s.clearNotices named
  ⟨s.event, .done, .noticeSet s.notices⟩

/-! ### LINE_RESTART (R188) -/

/-- The frames of a transmit list that a LINE_RESTART leaves: the one whose first character has been sent, and of
its sending nothing more comes about (R178). A frame that an earlier LINE_RESTART kept has begun and stays; whether
any other head frame has begun is free (log entry 8). -/
def keptFrames (begun : Bool) : List QueuedFrame → List QueuedFrame
  | [] => []
  | f :: _ => if f.use = .begun ∨ begun then [{ f with use := .begun }] else []

/-- A port after a LINE_RESTART (R178). -/
def PortState.restarted (x : PortState) (begun : Bool) : PortState :=
  { x with assembly := [], queue := [], busyPending := false, transmit := keptFrames begun x.transmit }

/-- The ports of a list after a LINE_RESTART. -/
def State.restartPorts (s : State) : List Port → State
  | [] => s
  | p :: ps => (s.modifyPort p fun x => x.restarted (Config.frameStarted s.draws p.val)).restartPorts ps

/-- The tracking state emptied and the configuration kept (R25, R58, R82, R101, R118, R145, R164). -/
def State.lineEmptied (s : State) : State :=
  { s with
    racks := []
    demand := initialDemand s.windows s.now
    tunnels := ⟨TunnelContext.afterReset, TunnelContext.afterReset⟩
    boosterHistory := []
    lastAdmission := ⟨none, none⟩
    lastChosen := none
    pendingAdmission := none
    notices := if s.fallback then Notice.identityFallback.bit else 0 }

/-- TUNNEL_STATE(OFF, fresh no) for a tunnel that was not OFF (R82). -/
def Event.announceOff (e : Event) (old : State) (t : Tunnel) : Event :=
  if (old.tunnels.get t).state = .off then e else e.sendRole (.tunnel t) (.tunnelState t .off false)

/-- LINE_RESTART (R188). -/
def State.restartLine (s : State) : Taken :=
  let s' := s.lineEmptied.restartPorts allPorts
  let e := { s'.event with draws := s'.draws + 1 }
  ⟨(e.announceOff s .a).announceOff s .b, .done, .alone⟩

end Sys2Proof.Machine
end

