-- ==== Sys2Proof/Machine/Station.lean ====
section
/-! DEFINITION. The meanings of the station port rows: a frame and its characters, and one request of each kind.
A request row is a request frame that arrived whole on the port and passed the frame check: it joins the queue
(R167) and, as the head, is served by its owning block in the same event (R168). -/

namespace Sys2Proof.Machine

/-- The outcome of every command. -/
abbrev Result := Host.Outcome State Fault Refusal

/-- A command that the part takes unless RST is low: while it is, the ports receive nothing and no timer runs
(R187). -/
def unlessReset (s : State) (f : State → State) : Result := .next (if s.rstLow then s else f s)

/-- A request of kind `k` arrives on port `p` with this payload. -/
def request (p : Port) (k : ReqKind) (payload : List Byte) (s : State) : Result :=
  unlessReset s fun s => s.arrive p ⟨k.code, payload⟩

/-! ### Frames and characters (R165 to R170) -/

/-- FRAME_ARRIVAL. A payload above 20 bytes makes no complete frame: it is discarded with its length byte (R165). -/
def execFrameArrival (p : Port) (identity kind : Byte) (payload : List Byte) (check : Byte) (s : State) : Result :=
  unlessReset s fun s =>
    if payload.length ≤ maxPayload then (s.hunt p).checkFrame p identity kind payload check else s.hunt p

/-- PARTIAL_FRAME_TIMEOUT: the partial frame is discarded (R165). -/
def execPartialFrameTimeout (p : Port) (s : State) : Result := unlessReset s fun s => s.hunt p

/-- BREAK: the partial frame and the character are discarded (R165). -/
def execLineBreak (p : Port) (s : State) : Result := unlessReset s fun s => s.hunt p

/-- CHARACTER_RECEIVED (R165). -/
def execCharacterReceived (p : Port) (c : Byte) (s : State) : Result := unlessReset s fun s => s.character p c

/-- FRAME_SENT (R167, R170). -/
def execFrameSent (p : Port) (s : State) : Result := unlessReset s fun s => s.frameSent p

/-! ### Requests -/

/-- SIGHT (R151). -/
def execSight (p : Port) (w : Byte) (tag : BitVec 24) (s : State) : Result :=
  request p .sight (w :: tagBytes tag.toNat) s

/-- DISPATCH (R153). -/
def execDispatch (p : Port) (w load : Byte) (s : State) : Result := request p .dispatch [w, load] s

/-- MODE (R156). -/
def execMode (p : Port) (w m : Byte) (s : State) : Result := request p .mode [w, m] s

/-- WITHDRAW (R16). -/
def execWithdraw (p : Port) (tag : BitVec 24) (s : State) : Result := request p .withdraw (tagBytes tag.toNat) s

/-- QUERY (R13). -/
def execQuery (p : Port) (tag : BitVec 24) (s : State) : Result := request p .query (tagBytes tag.toNat) s

/-- ADMIT (R83). -/
def execAdmit (p : Port) (tag : BitVec 24) (s : State) : Result := request p .admitRequest (tagBytes tag.toNat) s

/-- SECTION (R102). -/
def execSectionReport (p : Port) (stage seq : Byte) (measurement : BitVec 16) (fault : Byte) (s : State) : Result :=
  request p .sectionReport (stage :: seq :: bytesOf 2 measurement.toNat ++ [fault]) s

/-- SAMPLE (R117). -/
def execSample (p : Port) (temperature : BitVec 16) (s : State) : Result :=
  request p .sample (bytesOf 2 temperature.toNat) s

/-- EXIT (R130). -/
def execExit (p : Port) (tag : BitVec 24) (s : State) : Result := request p .exit (tagBytes tag.toNat) s

/-- TANK READY (R66, R67). -/
def execTankReady (p : Port) (s : State) : Result := request p .tank (byteField (TankCondition.code .ready)) s

/-- TANK COLD (R66, R67). -/
def execTankCold (p : Port) (s : State) : Result := request p .tank (byteField (TankCondition.code .cold)) s

/-- TANK FLUSH_DONE (R66, R74). -/
def execTankFlushDone (p : Port) (s : State) : Result := request p .tank (byteField (TankCondition.code .flushDone)) s

/-- TANK FAULT (R66, R75). -/
def execTankFault (p : Port) (s : State) : Result := request p .tank (byteField (TankCondition.code .fault)) s

/-- EMPTIED (R160). -/
def execEmptied (p : Port) (tag : BitVec 24) (s : State) : Result := request p .emptied (tagBytes tag.toNat) s

/-- RELOCATE on a station port (R54). -/
def execRelocate (p : Port) (tag : BitVec 24) (target : Byte) (s : State) : Result :=
  request p .relocate (tagBytes tag.toNat ++ [target]) s

end Sys2Proof.Machine
end

