-- ==== Sys2Proof/Machine/Reset.lean ====
section
/-! DEFINITION. The meanings of the reset rows: POWER_ON and the two edges of the RST pin (R185 to R187). -/

namespace Sys2Proof.Machine

/-- How many of the six identity straps are high. -/
def Straps.highs (x : Straps) : Nat :=
  ((List.range 5).filter fun i => x.id.getLsbD i).length + if x.parity then 1 else 0

/-- The identity straps have odd parity: the identity is the number they give (R186). -/
def oddStraps (x : Straps) : Bool := decide (Straps.highs x % 2 = 1)

/-- The divisor the clock-select straps give (R185). -/
def strapDivisor (x : Straps) : Nat :=
  match x.cks1, x.cks0 with
  | false, false => 400000
  | false, true => 800000
  | true, false => 1200000
  | true, true => 1600000

/-- The straps sampled: divisor, identity, and IDENTITY_FALLBACK raised when the parity is even (R185, R186). -/
def State.sampleStraps (s : State) (x : Straps) : State :=
  let s := { s with
    straps := x
    divisor := strapDivisor x
    identity := if oddStraps x then x.id else 31
    fallback := !oddStraps x }
  if oddStraps x then s else s.raise .identityFallback

/-- The state the list of R187 gives, but for what the straps decide: everything as at power-on, with the strap
samples, the command queue and the model's free-value counter kept. -/
def State.resetValues (s : State) : State :=
  { State.reset with
    pending := s.pending
    straps := s.straps
    identity := s.identity
    fallback := s.fallback
    divisor := s.divisor
    draws := s.draws }

/-- POWER_ON: the reset values, and the straps sampled (R187). -/
def execPowerOn (straps : Straps) (s : State) : Result := .next (s.resetValues.sampleStraps straps)

/-- RST_ASSERT: the part holds the reset values with RST low; the straps are not sampled (R187). -/
def execRstAssert (s : State) : Result := .next { s.resetValues with rstLow := true }

/-- RST_RELEASE: the reset values, RST high, and the straps sampled (R187). -/
def execRstRelease (straps : Straps) (s : State) : Result :=
  .next { s.resetValues.sampleStraps straps with rstLow := false }

end Sys2Proof.Machine
end

