-- ==== Sys2Proof/Machine/Supervisor.lean ====
section
/-! DEFINITION. The meanings of the supervisor port rows: each command transaction taken when CS goes high (R179)
with the lengths of R180, and FETCH. -/

namespace Sys2Proof.Machine

/-- A command transaction of `n` payload bytes. -/
def command (x : Transfer) (n : Nat) (act : State → Taken) (s : State) : Result :=
  .next (s.take x (lengthFits x n true) act)

/-- NOP (R181). -/
def execNop (x : Transfer) (s : State) : Result := command x 0 (fun s => s.answerRead .alone) s

/-- READ_RECORD (R14). -/
def execReadRecord (x : Transfer) (key : RecordKey) (s : State) : Result :=
  command x (recordKeyLength key) (fun s => s.readRecordBy key) s

/-- READ_PLACE (R57). -/
def execReadPlace (x : Transfer) (place index : Byte) (s : State) : Result :=
  command x 2 (fun s => match readablePlace place.toNat index.toNat with
    | some p => s.answerRead (.place (s.placeReport p))
    | none => s.badValue) s

/-- READ_TUNNEL (R81). -/
def execReadTunnel (x : Transfer) (t : Byte) (s : State) : Result :=
  command x 1 (fun s => match tunnelOf t.toNat with
    | some t => s.answerRead (.tunnel (s.tunnelReport t))
    | none => s.badValue) s

/-- READ_WINDOWS (R163). -/
def execReadWindows (x : Transfer) (s : State) : Result :=
  command x 0 (fun s => s.answerRead (.windows (allWindows.map s.windowReport) s.demand)) s

/-- READ_CONFIG of 1 to 64 items (R180, R182). -/
def execReadConfig (x : Transfer) (items : List (BitVec 16)) (s : State) : Result :=
  .next (s.take x (lengthFits x (2 * items.length) (decide (1 ≤ items.length) && decide (items.length ≤ 64)))
    fun s => s.readItems (items.map (·.toNat)))

/-- WRITE_CONFIG of 1 to 64 pairs (R180, R182). -/
def execWriteConfig (x : Transfer) (pairs : List (BitVec 16 × BitVec 32)) (s : State) : Result :=
  .next (s.take x (lengthFits x (6 * pairs.length) (decide (1 ≤ pairs.length) && decide (pairs.length ≤ 64)))
    fun s => s.writeItems (pairs.map fun v => (v.1.toNat, v.2.toNat)))

/-- RETIRE (R15). -/
def execRetire (x : Transfer) (tag : BitVec 24) (s : State) : Result :=
  command x 3 (fun s => s.retireTag tag.toNat) s

/-- The supervisor's RELOCATE (R55). -/
def execSupervisorRelocate (x : Transfer) (tag : BitVec 24) (target : Byte) (s : State) : Result :=
  command x 4 (fun s => s.relocateBy tag.toNat target.toNat) s

/-- TUNNEL START (R65). -/
def execTunnelStart (x : Transfer) (t : Byte) (s : State) : Result :=
  command x 2 (fun s => s.tunnelCommand t.toNat Event.startTunnel) s

/-- TUNNEL STOP (R71). -/
def execTunnelStop (x : Transfer) (t : Byte) (s : State) : Result :=
  command x 2 (fun s => s.tunnelCommand t.toNat Event.stopTunnel) s

/-- TUNNEL FLUSH (R73). -/
def execTunnelFlush (x : Transfer) (t : Byte) (s : State) : Result :=
  command x 2 (fun s => s.tunnelCommand t.toNat Event.flushTunnel) s

/-- TUNNEL CLEAR_FAULT (R77). -/
def execTunnelClearFault (x : Transfer) (t : Byte) (s : State) : Result :=
  command x 2 (fun s => s.tunnelCommand t.toNat Event.clearFault) s

/-- WINDOW_MODE (R156). -/
def execWindowMode (x : Transfer) (w m : Byte) (s : State) : Result :=
  command x 2 (fun s => s.windowModeBy w.toNat m.toNat) s

/-- WINDOW_CLASS (R159). -/
def execWindowClass (x : Transfer) (w c : Byte) (s : State) : Result :=
  command x 2 (fun s => s.windowClassBy w.toNat c.toNat) s

/-- READ_NOTICES (R184). -/
def execReadNotices (x : Transfer) (s : State) : Result := command x 0 State.readNoticeSet s

/-- CLEAR_NOTICES (R184). -/
def execClearNotices (x : Transfer) (named : BitVec 16) (s : State) : Result :=
  command x 2 (fun s => s.clearNoticeSet named) s

/-- LINE_RESTART (R188). -/
def execLineRestart (x : Transfer) (s : State) : Result := command x 0 State.restartLine s

/-- READ_TICK (R181). -/
def execReadTick (x : Transfer) (s : State) : Result :=
  command x 0 (fun s => s.answerRead (.tick s.now s.tunnels.a.lastSample s.tunnels.b.lastSample)) s

/-- UNKNOWN_COMMAND_CODE: refused with BAD_VALUE whatever its length (R179). DESIGN CHOICE (log entry 7): the refusal of
a TUNNEL with an action above 3 carries its status alone, no tunnel state (R64). -/
def execUnknownCommandCode (x : Transfer) (_code : Byte) (s : State) : Result :=
  .next (s.take x false fun s => s.badValue)

/-- FETCH: the response buffer is clocked out, then emptied (R179). A CS rise that ends zero bytes is ignored. -/
def execFetch (clocked : Nat) (s : State) : Result :=
  unlessReset s fun s =>
    if clocked = 0 then s
    else { s with response := none, commandBuffer := [], miso := fetchBytes s.response clocked }

end Sys2Proof.Machine
end

