-- ==== Sys2Proof/Machine/Timers.lean ====
section
/-! DEFINITION. The meanings of the time rows: the tick, and the expiries. Each expiry takes effect when its
condition holds at the moment it is taken, and changes nothing otherwise (log entry 3). -/

namespace Sys2Proof.Machine

/-- TICK: the tick counter adds 1, wrapping to 0 (R185). -/
def execTick (s : State) : Result := unlessReset s fun s => { s with now := s.now + 1 }

/-- LOST_RECORD_EXPIRY (R19). -/
def execLostRecordExpiry (tag : BitVec 24) (s : State) : Result :=
  unlessReset s fun s => match s.rack? tag.toNat with
    | some r => if s.lostDue r then (s.event.loseRecord r).finish none else s
    | none => s

/-- IDLE_TIMER_EXPIRY (R69). -/
def execIdleTimerExpiry (t : Tunnel) (s : State) : Result :=
  unlessReset s fun s => (s.event.idleExpire t).finish none

/-- The restart timer of a RESTARTING tunnel has expired: RUNNING, idle from now (R70). -/
def Event.restartExpire (e : Event) (t : Tunnel) : Event :=
  (e.setTunnel t { e.tunnels.get t with idleStart := some e.now, restartTimer := none }).enter t .running

/-- A timer that is present has reached its expiry tick. -/
def timerDue (now : Tick) (timer : Option Tick) : Bool :=
  match timer with
  | some x => reached now x
  | none => false

/-- RESTART_TIMER_EXPIRY (R70). -/
def execRestartTimerExpiry (t : Tunnel) (s : State) : Result :=
  unlessReset s fun s =>
    let c := s.tunnels.get t
    if c.state = .restarting ∧ timerDue s.now c.restartTimer then (s.event.restartExpire t).finish none else s

/-- FLUSH_TIMER_EXPIRY: a FLUSHING tunnel enters FAULT (R74, R75). -/
def execFlushTimerExpiry (t : Tunnel) (s : State) : Result :=
  unlessReset s fun s =>
    let c := s.tunnels.get t
    if c.state = .flushing ∧ timerDue s.now c.flushTimer then (s.event.enterFault t).finish none else s

/-- A re-evaluation event that changes nothing else (R92). -/
def State.reevaluationEvent (s : State) : State := ({ s.event with wantReeval := true } : Event).finish none

/-- SPACING_EXPIRY: the time since the last admission into `t` has reached the spacing (R87). -/
def execSpacingExpiry (t : Tunnel) (s : State) : Result :=
  unlessReset s fun s => match s.lastAdmission.get t with
    | some x => if s.config.spacing ≤ elapsed s.now x then s.reevaluationEvent else s
    | none => s

/-- The greatest spacing the range allows (R87). -/
def greatestSpacing : Nat := 200

/-- LAST_ADMISSION_AGE_OUT: last admission `t` becomes absent at 200 ticks (R87). It is no event of R92 by itself. With
a spacing of 200 the spacing expiry falls in the same tick and cannot be told once last admission `t` is absent, so
the event makes its re-evaluation (log entry 26). -/
def execLastAdmissionAgeOut (t : Tunnel) (s : State) : Result :=
  unlessReset s fun s => match s.lastAdmission.get t with
    | some x =>
      if greatestSpacing ≤ elapsed s.now x then
        let s' : State := { s with lastAdmission := s.lastAdmission.set t none }
        if greatestSpacing ≤ s.config.spacing then s'.reevaluationEvent else s'
      else s
    | none => s

/-- BOOSTER_AGEING: an entry of the booster history has stopped counting (R88). -/
def execBoosterAgeing (s : State) : Result :=
  unlessReset s fun s =>
    if s.config.boosterWindow ≠ 0 ∧ s.boosterHistory.any fun x => s.config.boosterWindow ≤ elapsed s.now x then
      s.reevaluationEvent
    else s

/-- The greatest booster window the range allows (R88). -/
def greatestWindow : Nat := 1200

/-- BOOSTER_ENTRY_REMOVAL: entries whose age has reached 1,200 ticks leave the history (R88). It is no event of R92 by
itself. With W 1,200 an entry stops counting in the same tick, which cannot be told once it has left, so the event
makes the re-evaluation of that booster ageing (log entry 26). -/
def execBoosterEntryRemoval (s : State) : Result :=
  unlessReset s fun s =>
    let s' : State := { s with boosterHistory := s.boosterHistory.filter fun x => elapsed s.now x < greatestWindow }
    if greatestWindow ≤ s.config.boosterWindow ∧ s.boosterHistory.any fun x => greatestWindow ≤ elapsed s.now x then
      s'.reevaluationEvent
    else s'

/-- The pass sheet of the rack in FINAL of `t`, while its verdict is absent and it has entered FINAL: only such a
rack has dwell expiries (R135). -/
def State.dwelling (s : State) (t : Tunnel) : Option PassSheet :=
  match (s.finalRack t).bind (·.sheet) with
  | some p => if p.verdict = none ∧ p.finalEntry ≠ none then some p else none
  | none => none

/-- MINIMUM_DWELL_EXPIRY (R135). -/
def execMinimumDwellExpiry (t : Tunnel) (s : State) : Result :=
  unlessReset s fun s => match s.dwelling t with
    | some p => if s.config.minDwell ≤ p.dwell s.now then (s.event.readinessTest t).finish none else s
    | none => s

/-- MAXIMUM_DWELL_EXPIRY (R135). -/
def execMaximumDwellExpiry (t : Tunnel) (s : State) : Result :=
  unlessReset s fun s => match s.dwelling t with
    | some p => if s.config.maxDwellInForce ≤ p.dwell s.now then (s.event.readinessTest t).finish none else s
    | none => s

end Sys2Proof.Machine
end

