-- ==== Sys2Proof/Machine/Dispatch.lean ====
section
/-! DEFINITION. One arm per command row, each one call of its meaning. -/

namespace Sys2Proof.Machine

def exec (i : Instr) (s : State) : Host.Outcome State Fault Refusal :=
  match i with
  | .powerOn straps => Sys2Proof.Machine.execPowerOn straps s
  | .rstAssert => Sys2Proof.Machine.execRstAssert s
  | .rstRelease straps => Sys2Proof.Machine.execRstRelease straps s
  | .tick => Sys2Proof.Machine.execTick s
  | .frameArrival p identity kind payload check => Sys2Proof.Machine.execFrameArrival p identity kind payload check s
  | .partialFrameTimeout p => Sys2Proof.Machine.execPartialFrameTimeout p s
  | .lineBreak p => Sys2Proof.Machine.execLineBreak p s
  | .frameSent p => Sys2Proof.Machine.execFrameSent p s
  | .sight p w tag => Sys2Proof.Machine.execSight p w tag s
  | .dispatch p w load => Sys2Proof.Machine.execDispatch p w load s
  | .mode p w m => Sys2Proof.Machine.execMode p w m s
  | .withdraw p tag => Sys2Proof.Machine.execWithdraw p tag s
  | .query p tag => Sys2Proof.Machine.execQuery p tag s
  | .admitRequest p tag => Sys2Proof.Machine.execAdmit p tag s
  | .sectionReport p stage seq measurement fault => Sys2Proof.Machine.execSectionReport p stage seq measurement fault s
  | .sample p temperature => Sys2Proof.Machine.execSample p temperature s
  | .exit p tag => Sys2Proof.Machine.execExit p tag s
  | .tankReady p => Sys2Proof.Machine.execTankReady p s
  | .tankCold p => Sys2Proof.Machine.execTankCold p s
  | .tankFlushDone p => Sys2Proof.Machine.execTankFlushDone p s
  | .tankFault p => Sys2Proof.Machine.execTankFault p s
  | .emptied p tag => Sys2Proof.Machine.execEmptied p tag s
  | .relocate p tag target => Sys2Proof.Machine.execRelocate p tag target s
  | .nop x => Sys2Proof.Machine.execNop x s
  | .readRecord x key => Sys2Proof.Machine.execReadRecord x key s
  | .readPlace x place index => Sys2Proof.Machine.execReadPlace x place index s
  | .readTunnel x t => Sys2Proof.Machine.execReadTunnel x t s
  | .readWindows x => Sys2Proof.Machine.execReadWindows x s
  | .readConfig x items => Sys2Proof.Machine.execReadConfig x items s
  | .writeConfig x pairs => Sys2Proof.Machine.execWriteConfig x pairs s
  | .retire x tag => Sys2Proof.Machine.execRetire x tag s
  | .supervisorRelocate x tag target => Sys2Proof.Machine.execSupervisorRelocate x tag target s
  | .tunnelStart x t => Sys2Proof.Machine.execTunnelStart x t s
  | .tunnelStop x t => Sys2Proof.Machine.execTunnelStop x t s
  | .tunnelFlush x t => Sys2Proof.Machine.execTunnelFlush x t s
  | .tunnelClearFault x t => Sys2Proof.Machine.execTunnelClearFault x t s
  | .windowMode x w m => Sys2Proof.Machine.execWindowMode x w m s
  | .windowClass x w c => Sys2Proof.Machine.execWindowClass x w c s
  | .readNotices x => Sys2Proof.Machine.execReadNotices x s
  | .clearNotices x named => Sys2Proof.Machine.execClearNotices x named s
  | .lineRestart x => Sys2Proof.Machine.execLineRestart x s
  | .readTick x => Sys2Proof.Machine.execReadTick x s
  | .fetch clocked => Sys2Proof.Machine.execFetch clocked s
  | .lostRecordExpiry tag => Sys2Proof.Machine.execLostRecordExpiry tag s
  | .idleTimerExpiry t => Sys2Proof.Machine.execIdleTimerExpiry t s
  | .restartTimerExpiry t => Sys2Proof.Machine.execRestartTimerExpiry t s
  | .flushTimerExpiry t => Sys2Proof.Machine.execFlushTimerExpiry t s
  | .spacingExpiry t => Sys2Proof.Machine.execSpacingExpiry t s
  | .lastAdmissionAgeOut t => Sys2Proof.Machine.execLastAdmissionAgeOut t s
  | .boosterAgeing => Sys2Proof.Machine.execBoosterAgeing s
  | .boosterEntryRemoval => Sys2Proof.Machine.execBoosterEntryRemoval s
  | .minimumDwellExpiry t => Sys2Proof.Machine.execMinimumDwellExpiry t s
  | .maximumDwellExpiry t => Sys2Proof.Machine.execMaximumDwellExpiry t s
  | .characterReceived p c => Sys2Proof.Machine.execCharacterReceived p c s
  | .unknownCommandCode x code => Sys2Proof.Machine.execUnknownCommandCode x code s

end Sys2Proof.Machine
end

