-- ==== Sys2Proof/Safety.lean ====
section
/-! DEFINITION. What a sound state is: the laws of the spec over the Rack Table, the places, the windows' demand, the
tunnels and the ports; and the words in which the statements describe what a command leaves. -/

namespace Sys2Proof.Machine

/-! ### Records (R1, R4, R7, R10, R11, R50) -/

/-- The state is one that the table of 1.2.1 allows for the place (R4). -/
def Rack.placed (r : Rack) : Bool :=
  match r.place with
  | .windowFill _ => decide (r.state = .filling)
  | .windowSpare _ | .returnLoop | .store => decide (r.state = .empty)
  | .collect => decide (r.state = .soiled)
  | .tunnel _ => decide (r.state = .washing)
  | .unload _ => decide (r.state = .clean)
  | .hold | .unknown => decide (r.state = .held)

/-- The last outcome is one that a record in its place can have: a HELD record's is a hold cause (R10), and in
UNKNOWN it is TUNNEL_FAULT or LOST_TRACK (R50). -/
def Rack.outcomeFits (r : Rack) : Bool :=
  match r.place, r.lastOutcome with
  | .hold, some (.hold _) => true
  | .hold, _ => false
  | .unknown, some (.hold .tunnelFault) | .unknown, some (.hold .lostTrack) => true
  | .unknown, _ => false
  | _, _ => true

/-- The pass sheet of a rack in the lane of `t` names `t`, stands in one of its required sections, and has its FINAL
entry, its reference tick and what follows from them in FINAL alone (R59, R98, R108, R119, R123). -/
def PassSheet.fits (p : PassSheet) (t : Tunnel) : Bool :=
  decide (p.tunnel = t) && p.required.has p.stage && decide (p.credit ≤ Config.maxCredit) &&
    (p.finalEntry.isSome == decide (p.stage = .final)) && (p.reference.isSome == decide (p.stage = .final)) &&
    (decide (p.stage = .final) ||
      (decide (p.credit = 0) && !p.gap && !p.orderFault && p.verdict.isNone && !p.exitRequested))

/-- A record is sound: state and place agree, the pass sheet is there in a lane and only there (R11), the destination
is present on RETURN alone (R7), the counts are in their ranges (1.2). -/
def Rack.sound (r : Rack) : Bool :=
  isTag r.tag && decide (r.slot < Config.tableSlots) && r.placed && r.outcomeFits &&
    (match r.place, r.sheet with
      | .tunnel t, some p => p.fits t
      | .tunnel _, none => false
      | _, some _ => false
      | _, none => true) &&
    (r.destination.isNone || decide (r.place = .returnLoop)) &&
    decide (r.passes ≤ 3) && decide (r.cycles ≤ Config.maxCycles)

/-- The pending admission's tag is a tag; with a deferred enrolment the table does not hold it (R35), and without one
its record may still be admitted (R91, R94). -/
def State.pendingSound (s : State) : Bool :=
  match s.pendingAdmission with
  | none => true
  | some p => isTag p.tag && match p.enrol, s.rack? p.tag with
    | some _, none => true
    | none, some r => r.admissible
    | _, _ => false

/-- The law of the Rack Table: no tag and no slot twice, at most 160 records with the reservation counted, every
record sound (R1, R2, R4, R34). -/
abbrev State.recordLaw (s : State) : Prop :=
  (s.racks.map (·.tag)).Nodup ∧ (s.racks.map (·.slot)).Nodup ∧ s.tableLoad ≤ Config.tableSlots ∧
    (∀ r ∈ s.racks, r.sound = true) ∧ s.pendingSound = true

/-! ### Places (R39, R41) -/

/-- No place but a lane holds more than its capacity (R39). -/
abbrev State.placeLaw (s : State) : Prop :=
  s.recordLaw ∧
    (∀ w ∈ allWindows, s.count (.windowFill w) ≤ 1 ∧ s.count (.windowSpare w) ≤ s.count (.windowFill w)) ∧
    s.count .collect ≤ 24 ∧ s.count (.unload .a) ≤ 3 ∧ s.count (.unload .b) ≤ 3 ∧ s.count .returnLoop ≤ 32 ∧
    s.count .hold ≤ 8

/-! ### Demand (R148) -/

/-- The law of demand: positions, routes and entries of a window sum to 2 in ACCEPT and PAUSE, to at most 2 in STOP
(R148), and a window in STOP has no entry (R157). -/
abbrev State.demandLaw (s : State) : Prop :=
  s.placeLaw ∧ ∀ w ∈ allWindows,
    s.windowSum w ≤ 2 ∧ (s.windows[w].mode ≠ .stop → s.windowSum w = 2) ∧
      (s.windows[w].mode = .stop → s.entriesOf w = [])

/-- No unassigned rack on RETURN has an eligible entry (R154). -/
abbrev State.pairedLaw (s : State) : Prop := s.recordLaw ∧ ∀ r ∈ s.unassigned, s.pairingEntry r = none

/-! ### Tunnels (R59, R69, R70, R73; table 4.1) -/

/-- The lane is in an order a conveyor could hold: no rack is in an earlier section than a rack admitted after it
(R59). -/
abbrev laneOrdered (lane : List Rack) : Prop :=
  (lane.map fun r => (r.stage?.map Stage.code).getD 0).Pairwise (fun a b => b ≤ a)

/-- A tunnel state in which the lane is empty (R59). -/
def TunnelState.laneless : TunnelState → Bool
  | .off | .economy | .restarting | .flushing | .fault => true
  | .warming | .ready | .running | .closing => false

/-- The law of one tunnel: lane order and capacities, an empty lane in the five states of R59, and each timer present
in its own state alone (table 4.1). -/
abbrev State.laneLaw (s : State) (t : Tunnel) : Prop :=
  let c := s.tunnels.get t
  let lane := s.lane t
  laneOrdered lane ∧ lane.length ≤ 6 ∧
    stageCount lane .pre ≤ 2 ∧ stageCount lane .wash ≤ 2 ∧ stageCount lane .rinse ≤ 1 ∧ stageCount lane .final ≤ 1 ∧
    (c.state.laneless = true → lane = []) ∧ (c.state = .closing → lane ≠ []) ∧
    (c.idleStart.isSome = true ↔ (c.state = .ready ∨ c.state = .running) ∧ lane = []) ∧
    (c.economyStart.isSome = true ↔ c.state = .economy) ∧
    (c.restartTimer.isSome = true ↔ c.state = .restarting) ∧
    (c.flushTimer.isSome = true ↔ c.state = .flushing)

/-- The law of both tunnels: each keeps its own, and at most one is in FLUSHING (R73). -/
abbrev State.tunnelLaw (s : State) : Prop :=
  s.recordLaw ∧ s.laneLaw .a ∧ s.laneLaw .b ∧
    ¬ (s.tunnels.a.state = .flushing ∧ s.tunnels.b.state = .flushing)

/-! ### Ports (R167, R170) -/

/-- How many frames of a transmit list are of one use. -/
def PortState.framesOf (x : PortState) (u : FrameUse) : Nat := (x.transmit.filter (·.use = u)).length

/-- The law of a port: at most two requests; the answer of the head request is in the list exactly while there is a
head, and the BUSY answer exactly while it is pending (R167). -/
def PortState.sound (x : PortState) : Bool :=
  decide (x.queue.length ≤ 2) && decide (x.framesOf .head = if x.queue = [] then 0 else 1) &&
    decide (x.framesOf .busy = if x.busyPending then 1 else 0)

/-- The law of every port. -/
abbrev State.portLaw (s : State) : Prop := ∀ p ∈ allPorts, s.ports[p].sound = true

/-! ### Configuration (11.3) -/

/-- The greatest and the least value of a numeric item, for an item that is one (11.3). -/
def Item.bounds : Item → Option (Nat × Nat)
  | .lostTimeout | .serviceLimit _ | .idleTime | .coolTime => some (0, 65535)
  | .recircReserve => some (0, 8)
  | .restartDelay => some (1, 600)
  | .flushTime => some (1, 65535)
  | .spacing => some (10, 200)
  | .boosterCount => some (1, 8)
  | .boosterWindow => some (0, 1200)
  | .loadTable _ => some (0, 3)
  | .threshold _ => some (0, 16777215)
  | .preLimit | .washLimit | .rinseLimit => some (0, 1200)
  | .minDwell => some (10, 600)
  | .maxDwell => some (60, 1200)
  | .tagWindow _ 1 | .tagWindow _ 2 => some (1, 1048575)
  | .tagWindow _ 4 => some (0, 3)
  | .enable _ _ | .role _ | .mask | .clearMode | .tagWindow _ _ => none

/-- How many values an enumerated item has: codes below this number (11.3, R182). -/
def Item.codes : Item → Nat
  | .role _ => 8
  | .mask => 65536
  | .tagWindow _ 3 => 4
  | _ => 2

/-- The value an item stores for a written value: the nearer bound for a numeric item outside its range; none for an
enumerated value outside the set (R182). -/
def Item.stored (i : Item) (v : Nat) : Option Nat :=
  match i.bounds with
  | some (lo, hi) => some (if v < lo then lo else if hi < v then hi else v)
  | none => if v < i.codes then some v else none

/-! ### Words of the statements -/

/-- RST is high, port `p` has this role, and no request of it is being served. -/
abbrev State.free (s : State) (p : Port) (role : Role) : Prop :=
  s.rstLow = false ∧ s.config.roles[p] = role ∧ s.ports[p].queue = []

/-- Nothing else waits for the end of an event: no admission is pending, no rack on RETURN is unassigned, and no
gate is shut. -/
abbrev State.quiet (s : State) : Prop :=
  s.pendingAdmission = none ∧ s.unassigned = [] ∧ s.tunnels.a.gateShut = false ∧ s.tunnels.b.gateShut = false

/-- A request joined at the head of a free port, and its answer joined the transmit list. -/
def State.answered (s : State) (p : Port) (k : ReqKind) (payload : List Byte) (st : Status) (f : Fields := .alone) :
    State :=
  { s with ports := s.ports.set p { s.ports[p] with
      queue := s.ports[p].queue ++ [⟨k.code, payload⟩]
      transmit := s.ports[p].transmit ++ [⟨.head, .answer ⟨k.code + 0x80, st, f⟩⟩] } }

/-- One message for every port of a role. -/
def State.toRole (s : State) (role : Role) (m : Message) : List (Port × Message) :=
  (allPorts.filter fun p => s.config.roles[p] = role).map fun p => (p, m)

/-- A list of records with the record of `r`'s tag taken out and `r` put at the end. -/
def rejoined (l : List Rack) (r : Rack) : List Rack := l.filter (·.tag ≠ r.tag) ++ [r]

/-- A list of records without their destinations: what pairing leaves as it is. -/
def unrouted (l : List Rack) : List Rack := l.map fun r => { r with destination := none }

/-- One demand entry posted, unless the window is in STOP (R149). -/
def State.owed (s : State) (w : Window) : State :=
  if s.windows[w].mode = .stop then s else { s with demand := s.demand ++ [⟨w, s.now⟩] }

/-- STARVED raised, when the window is in ACCEPT with both positions empty (R150). -/
def State.starvation (s : State) (w : Window) : State :=
  if s.windows[w].mode = .accept ∧ s.fillRack w = none ∧ s.spareRack w = none then s.raise .starved else s

/-- What the departure of `r` from its place outside the lanes leaves, `s` being the state in which it is gone: the
swap, the posted entry and STARVED at a window, the posted entry of a routed rack (R17, R41, R46, R149, R150). -/
def State.vacated (s : State) (r : Rack) : State :=
  match r.place with
  | .windowFill w =>
    let racks := match s.fillRack w, s.spareRack w with
      | none, some x => rejoined s.racks { x with state := .filling, place := .windowFill w, since := s.now }
      | _, _ => s.racks
    (({ s with racks := racks } : State).owed w).starvation w
  | .windowSpare w => (s.owed w).starvation w
  | .returnLoop => match r.destination with
    | some w => s.owed w
    | none => s
  | _ => s

/-- HOLD_FULL raised, when HOLD holds 8 racks (R48). -/
def State.holdNoted (s : State) : State := if s.count .hold = 8 then s.raise .holdFull else s

/-- A state, and the messages made on the way to it. -/
abbrev Made := State × List (Port × Message)

/-- One change after another, with the messages of both. -/
def followed (x : Made) (f : State → Made) : Made := ((f x.1).1, x.2 ++ (f x.1).2)

/-- The end of an event: its messages go out, GRANTs first, then cleared routes, new routes and TUNNEL_STATEs. -/
def ended (x : Made) : State := x.1.deliver (inOrder x.2)

/-- The end of an event that serves a request: the answer, then the messages. -/
def replied (x : Made) (p : Port) (k : ReqKind) (payload : List Byte) (st : Status) (f : Fields := .alone) : State :=
  (x.1.answered p k payload st f).deliver (inOrder x.2)

/-- What pairing makes of the unassigned rack `r` on RETURN (R154). -/
def State.offered (s : State) (r : Rack) : Made :=
  match s.pairingEntry r with
  | none => (s, [])
  | some d =>
    ({ s with
        demand := s.demand.erase d
        racks := s.racks.map fun x => if x.tag = r.tag then { x with destination := some d.window } else x },
      s.toRole .windows (.route r.tag (some d.window)))

/-- What pairing makes of these racks, one after another. -/
def State.offeredAll (s : State) : List Rack → Made
  | [] => (s, [])
  | r :: rs => followed (s.offered r) (·.offeredAll rs)

/-- A run of pairing: every unassigned rack on RETURN, in the order of joining (R154). -/
def State.paired (s : State) : Made := s.offeredAll s.unassigned

/-- The record of a rack released with verdict `v` to `d` (R141): a release to HOLD writes the cause over the
verdict (R10). -/
def Rack.released (r : Rack) (v : Verdict) (d : Destination) (cause : Option HoldCause) (now : Tick) : Rack :=
  { r with
    state := d.rackState
    place := d.place
    since := now
    sheet := none
    lastOutcome := some (match cause with
      | some c => .hold c
      | none => .verdict v) }

/-- The lane of `t` is `r` alone. -/
def State.lastInLane (s : State) (t : Tunnel) (r : Rack) : Bool := (s.lane t).all (·.tag = r.tag)

/-- What a release from gate `t` leaves (R141), but for the messages: the record at its new place, REPEAT_FAIL and
HOLD_FULL where they are raised, the gate open, and, when the lane is empty after it, CLOSING ended (R72) or the idle
period begun (R69). -/
def State.releasedFrom (s : State) (t : Tunnel) (r : Rack) (v : Verdict) (d : Destination)
    (cause : Option HoldCause) : State :=
  let s' : State := { s with racks := rejoined s.racks (r.released v d cause s.now) }
  let s' := if cause = some .repeatFail then s'.raise .repeatFail else s'
  let s' := if d = .hold then s'.holdNoted else s'
  let c := { s.tunnels.get t with deferredExit := none, gateShut := false }
  let c := if s.lastInLane t r then
      match c.state with
      | .closing => { c with state := .off }
      | .ready | .running => { c with idleStart := some s.now }
      | _ => c
    else c
  { s' with tunnels := s.tunnels.set t c }

/-- The messages of a release that ends CLOSING: TUNNEL_STATE(OFF) (R72). -/
def State.closingEnded (s : State) (t : Tunnel) (r : Rack) : List (Port × Message) :=
  if s.lastInLane t r ∧ (s.tunnels.get t).state = .closing then s.toRole (.tunnel t) (.tunnelState t .off false) else []

/-- The row of R139 for a verdict and the passes made, as far as there is room: destination and hold cause. -/
def State.gateRow (s : State) (t : Tunnel) (v : Verdict) (passes : Nat) : Option (Destination × Option HoldCause) :=
  if v = .pass then if s.count (.unload t) < 3 then some (.unload t, none) else none
  else if passes < 3 ∧ s.count .collect < 24 then some (.collect, none)
  else if s.count .hold < 8 then some (.hold, some (if passes < 3 then .recircBlocked else .repeatFail))
  else none

/-- The release test of R140 for the rack `r` read at gate `t` with verdict `v`: the gate shut with EXIT_BLOCKED, or the
release, with GRANT(EXIT) for the port `grant`. -/
def State.gateTest (s : State) (t : Tunnel) (r : Rack) (v : Verdict) (grant : Option Port) : Made :=
  match s.gateRow t v r.passes with
  | none => ({ s with
      tunnels := s.tunnels.set t { s.tunnels.get t with gateShut := true }
      notices := s.notices ||| (match t with
        | .a => 0x40
        | .b => 0x80) }, [])
  | some (d, cause) => (s.releasedFrom t r v d cause,
      (match grant with
        | some p => [(p, .grantExit r.tag v d)]
        | none => []) ++ s.closingEnded t r)

/-- The record of this tag with this pass sheet. -/
def State.withSheet (s : State) (tag : Nat) (sh : PassSheet) : State :=
  { s with racks := s.racks.map fun x => if x.tag = tag then { x with sheet := some sh } else x }

/-- What a readiness test that finds the rack `r` in FINAL with pass sheet `sh` ready leaves (R136): the gap test, the
verdict, and the release test when the rack has been read. -/
def State.judgedAt (s : State) (t : Tunnel) (r : Rack) (sh : PassSheet) : Made :=
  let sh' := { sh with gap := sh.gap || decide (20 < sh.sinceReference s.now) }
  let v := formVerdict s.config sh'
  let s' := s.withSheet r.tag { sh' with verdict := some v }
  if sh.exitRequested then s'.gateTest t r v (s.tunnels.get t).deferredExit else (s', [])

/-- The rack in FINAL is ready (R134). -/
abbrev PassSheet.isReady (sh : PassSheet) (c : Configuration) (now : Tick) : Prop :=
  c.minDwell ≤ sh.dwell now ∧
    (c.threshold.toList.getD sh.requiredLevel 0 ≤ sh.credit ∨ max c.maxDwell c.minDwell ≤ sh.dwell now)

/-- The tunnel value of the supervisor's payloads (R180). -/
def tunnelNumber : Tunnel → Nat
  | .a => 0
  | .b => 1

/-- The target codes (R172). -/
def targetNumber : Target → Nat
  | .hold => 0
  | .collect => 1
  | .store => 2
  | .returnLoop => 3

/-- Bit 4 for tunnel A and bit 5 for tunnel B: TRACK_FAULT (11.4). -/
def trackFault : Tunnel → BitVec 16
  | .a => 0x10
  | .b => 0x20

/-- The enabled window's range holds the tag (R27). -/
abbrev TagWindow.covers (w : TagWindow) (tag : Nat) : Prop := w.enabled = true ∧ w.startTag ≤ tag ∧ tag ≤ w.endTag

/-- The first enabled window whose range holds the tag is number `i` (R27). -/
abbrev State.matchedBy (s : State) (tag : Nat) (i : Fin 8) : Prop :=
  s.config.tagWindows[i].covers tag ∧ ∀ j : Fin 8, j < i → ¬ s.config.tagWindows[j].covers tag

/-- Slot `n` is free and every lower slot holds a record (R2). -/
abbrev State.lowestFree (s : State) (n : Nat) : Prop :=
  n < 160 ∧ (∀ r ∈ s.racks, r.slot ≠ n) ∧ ∀ m < n, ∃ r ∈ s.racks, r.slot = m

/-- Records held, and the slot a pending admission reserves (R30, test 4). -/
def State.load (s : State) : Nat := s.racks.length + if (s.pendingAdmission.bind (·.enrol)).isSome then 1 else 0

/-- The source and the target are a pair of the table of 3.8. -/
abbrev Rack.mayGo (r : Rack) (g : Target) : Prop :=
  match g with
  | .hold => (∀ t ∈ [Tunnel.a, .b], r.place ≠ .tunnel t) ∧ r.place ≠ .hold
  | .collect => r.place = .returnLoop ∨ r.place = .hold ∨ r.place = .store ∨ r.place = .unknown
  | .store => r.place = .returnLoop ∨ (r.place = .hold ∧ r.lastOutcome = some (.hold .serviceDue))
  | .returnLoop => r.place = .store ∨ (r.place = .hold ∧ r.lastOutcome = some (.hold .serviceDue))

/-- The target has no room (3.2; STORE takes any number). -/
abbrev State.fullTarget (s : State) (g : Target) : Prop :=
  match g with
  | .hold => 8 ≤ s.count .hold
  | .collect => 24 ≤ s.count .collect
  | .store => False
  | .returnLoop => 32 ≤ s.count .returnLoop

/-- What RELOCATE makes of a record (R9, R10, R23, R53). -/
def Rack.goneTo (r : Rack) (g : Target) (now : Tick) : Rack :=
  let serviced := r.place = .hold ∧ r.lastOutcome = some (.hold .serviceDue)
  { r with
    state := match g with
      | .hold => .held
      | .collect => .soiled
      | .store | .returnLoop => .empty
    place := match g with
      | .hold => .hold
      | .collect => .collect
      | .store => .store
      | .returnLoop => .returnLoop
    since := now
    destination := none
    lastOutcome := if g = .hold then some (.hold .manual) else r.lastOutcome
    passes := if g = .collect then 0 else r.passes
    cycles := if serviced then 0 else r.cycles
    serviceDue := if serviced then false else r.serviceDue }

/-- What the move of RELOCATE leaves (R53). -/
def State.relocation (s : State) (r : Rack) (g : Target) : State :=
  let s' : State := { s with racks := rejoined s.racks (r.goneTo g s.now) }
  (if g = .hold then s'.holdNoted else s').vacated r

/-- What a retirement leaves (R17). -/
def State.without (s : State) (r : Rack) : State :=
  ({ s with racks := s.racks.filter (·.tag ≠ r.tag) } : State).vacated r

/-- What entry into FAULT leaves, and its messages (R75, R76). -/
def State.tornDown (s : State) (t : Tunnel) : Made :=
  let c := s.tunnels.get t
  ({ s with
      racks := s.racks.filter (·.place ≠ .tunnel t) ++ (s.lane t).map fun r => { r with
        state := .held, place := .unknown, since := s.now, sheet := none
        lastOutcome := some (.hold .tunnelFault) }
      tunnels := s.tunnels.set t { c with
        state := .fault, idleStart := none, economyStart := none, restartTimer := none, flushTimer := none
        deferredExit := none, gateShut := false }
      notices := s.notices ||| (match t with
        | .a => 0x100
        | .b => 0x200) },
    (match c.deferredExit, s.finalRack t with
      | some p, some r => [(p, .exitAbandoned r.tag)]
      | _, _ => []) ++ s.toRole (.tunnel t) (.tunnelState t .fault false))

/-- What the admission of `r` into `t` leaves (R9, R68, R87 to R89, R95 to R98), and its message. -/
def State.admittedInto (s : State) (t : Tunnel) (r : Rack) : Made :=
  let c := s.tunnels.get t
  let enabled := s.config.enables.get t
  let first : Stage :=
    if enabled.pre then .pre else if enabled.wash then .wash else if enabled.rinse then .rinse else .final
  let entry := if first = .final then some s.now else none
  ({ s with
      racks := rejoined s.racks { r with
        state := .washing, place := .tunnel t, since := s.now, passes := if r.passes < 3 then r.passes + 1 else 3
        sheet := some {
          tunnel := t, admissionSeq := c.admissionSeq, required := enabled, stage := first
          requiredLevel := match r.loadCode with
            | none => r.baseLevel
            | some l => max r.baseLevel s.config.loadTable[l]
          preFragment := none, washFragment := none, rinseFragment := none, finalEntry := entry, reference := entry
          credit := 0, gap := false, orderFault := false, verdict := none, exitRequested := false } }
      tunnels := s.tunnels.set t { c with state := .running, idleStart := none, admissionSeq := c.admissionSeq + 1 }
      boosterHistory := (if s.boosterHistory.length < 8 then s.boosterHistory else s.boosterHistory.drop 1) ++ [s.now]
      lastAdmission := s.lastAdmission.set t (some s.now)
      lastChosen := some t },
    if c.state = .ready then s.toRole (.tunnel t) (.tunnelState t .running false) else [])

/-- An ECONOMY tunnel asked to restart (R70): RESTARTING within the cool time, else WARMING. -/
def State.roused (s : State) (t : Tunnel) : State :=
  let c := s.tunnels.get t
  let short := c.economyStart.any fun x => decide ((s.now - x).toNat < s.config.coolTime)
  { s with tunnels := s.tunnels.set t { c with
      economyStart := none
      state := if short then .restarting else .warming
      restartTimer := if short then some (s.now + BitVec.ofNat 32 s.config.restartDelay) else c.restartTimer } }

/-- What the tests of R90 leave while an admission is pending, and the messages: with no tunnel READY, RUNNING or
RESTARTING, tunnel A is asked first, and tunnel B when A has not become RESTARTING (R90, R92). -/
def State.wakened (s : State) : Made :=
  let awake := fun t => (s.tunnels.get t).state = .ready ∨ (s.tunnels.get t).state = .running ∨
    (s.tunnels.get t).state = .restarting
  if awake .a ∨ awake .b then (s, [])
  else
    let s' := if s.tunnels.a.state = .economy then s.roused .a else s
    let s' := if s'.tunnels.a.state ≠ .restarting ∧ s.tunnels.b.state = .economy then s'.roused .b else s'
    (s',
      (if s.tunnels.a.state = .economy then
        s.toRole (.tunnel .a) (.tunnelState .a s'.tunnels.a.state false) else []) ++
      (if s'.tunnels.b.state ≠ s.tunnels.b.state then
        s.toRole (.tunnel .b) (.tunnelState .b s'.tunnels.b.state false) else []))

/-- An idle time reached expires (R69): READY or RUNNING with an empty lane and nothing pending goes to ECONOMY. -/
def State.idled (s : State) (t : Tunnel) : Made :=
  let c := s.tunnels.get t
  if (c.state = .ready ∨ c.state = .running) ∧ s.config.idleTime ≠ 0 ∧
      (c.idleStart.any fun x => decide (s.config.idleTime ≤ (s.now - x).toNat)) ∧ s.lane t = [] ∧
      s.pendingAdmission = none then
    ({ s with tunnels := s.tunnels.set t { c with state := .economy, economyStart := some s.now, idleStart := none } },
      s.toRole (.tunnel t) (.tunnelState t .economy false))
  else (s, [])

/-- The idle times of both tunnels. -/
def State.idledBoth (s : State) : Made := followed (s.idled .a) (·.idled .b)

/-- The gate of `t` makes the release test again, if it is shut (R140). -/
def State.retested (s : State) (t : Tunnel) : Made :=
  match (s.tunnels.get t).gateShut, s.finalRack t with
  | true, some r => match r.sheet with
    | some sh => match sh.verdict, sh.exitRequested with
      | some v, true => s.gateTest t r v (s.tunnels.get t).deferredExit
      | _, _ => (s, [])
    | none => (s, [])
  | _, _ => (s, [])

/-- The gates that are told of room when a rack has gone from the place `left` test again, A before B (R51). -/
def State.retestedAfter (s : State) (left : Place) : Made :=
  match left with
  | .collect | .hold => followed (s.retested .a) (·.retested .b)
  | .unload t => s.retested t
  | _ => (s, [])

/-- What the grant of the pending admission `q`, of the rack `r`, into `t` leaves (R93): GRANT, the admission, the room
that a rack gone from COLLECT leaves, and the idle times that the admission held up. -/
def State.granted (s : State) (q : PendingAdmission) (t : Tunnel) (r : Rack) : Made :=
  followed (followed (followed ({ s with pendingAdmission := none }, [(q.port, .grantAdmit q.tag t)])
    (·.admittedInto t r)) (·.retestedAfter r.place)) (·.idledBoth)

/-- What a re-evaluation leaves (R92): the pending admission, if there is one, granted into the tunnel chosen, its
record enrolled now if its enrolment was deferred; with no tunnel chosen, the tests of R90. -/
def State.reconsidered (s : State) : Made :=
  match s.pendingAdmission with
  | none => (s, [])
  | some q => match s.chosenTunnel, q.enrol, s.rack? q.tag with
    | none, _, _ => s.wakened
    | some t, some a, _ => s.granted q t (newRack q.tag s.freeSlot a .washing (.tunnel t) s.now)
    | some t, none, some r => s.granted q t r
    | some _, none, none => (s, [])

/-- `x`, and the re-evaluation that a departure from a lane since `s` sets off (R62, R92). -/
def State.reevaluated (s : State) (x : Made) : Made :=
  if (x.1.lane .a).length = (s.lane .a).length ∧ (x.1.lane .b).length = (s.lane .b).length then x
  else followed x (·.reconsidered)

/-- What follows a rack's going from the place `left` outside the lanes: pairing, the gates told of room, and the
re-evaluation that a release sets off. -/
def State.concluded (s : State) (left : Place) : Made :=
  followed s.paired fun s' => s'.reevaluated (s'.retestedAfter left)

/-- A tunnel in a new state, with the context `c`: TUNNEL_STATE to the ports of its role, and a re-evaluation (R78,
R79, R92). -/
def State.turned (s : State) (t : Tunnel) (c : TunnelContext) (fresh : Bool := false) : Made :=
  followed ({ s with tunnels := s.tunnels.set t c }, s.toRole (.tunnel t) (.tunnelState t c.state fresh))
    (·.reconsidered)

/-- The readiness test of the rack in FINAL of `t`, while its verdict is absent (R135). -/
def State.readied (s : State) (t : Tunnel) : Made :=
  match s.finalRack t with
  | some r => match r.sheet with
    | some sh => if sh.verdict = none ∧ sh.isReady s.config s.now then s.judgedAt t r sh else (s, [])
    | none => (s, [])
  | none => (s, [])

/-- A lower dwell limit is at or below the dwell of the rack in FINAL of `t`, which the old one was above (R135). -/
abbrev State.dwellCrossed (s : State) (t : Tunnel) (old new : Nat) : Prop :=
  ∃ sh ∈ ((s.finalRack t).bind (·.sheet)).toList, sh.dwell s.now < old ∧ new ≤ sh.dwell s.now

/-- What the cancelling of the pending admission `q` leaves (R94): GRANT(ADMIT, CANCELLED) on its port, what the event
sets off beside it, and the idle times that the admission held up (R69). -/
def State.cancelled (s : State) (q : PendingAdmission) (f : State → Made := fun s => (s, [])) : Made :=
  followed (followed ({ s with pendingAdmission := none }, [(q.port, .admitCancelled q.tag)]) f) (·.idledBoth)

/-- Every record that the lost timeout now in force makes due expires, and the pending admission of one is cancelled
(R19, R20, R94). -/
def State.lostExpired (s : State) : Made :=
  let due := fun r : Rack => r.place = .unknown ∧ r.isProtected = false ∧ s.config.lostTimeout ≠ 0 ∧
    s.config.lostTimeout ≤ (s.now - r.since).toNat
  let s' : State := { s with
    racks := s.racks.filter fun r => ¬ due r
    notices := if s.racks.any (due ·) then s.notices ||| 8 else s.notices }
  match s.pendingAdmission with
  | some q =>
    if s.racks.any fun r => r.tag = q.tag ∧ due r then s'.cancelled q else (s', [])
  | none => (s', [])

/-- What a new role of port `p` makes of the EXIT outstanding at gate `t`, if it is of that port: cancelled without a
message, the rack no longer read, the gate not shut, the verdict kept (R131, R171). -/
def State.exitCancelled (s : State) (p : Port) (t : Tunnel) : State :=
  let c := s.tunnels.get t
  if c.deferredExit = some p then
    let s' : State := { s with tunnels := s.tunnels.set t { c with deferredExit := none, gateShut := false } }
    match s.finalRack t with
    | some r => match r.sheet with
      | some sh => s'.withSheet r.tag { sh with exitRequested := false }
      | none => s'
    | none => s'
  else s

/-- The routes to `w` of the racks that `f` names cleared, with ROUTE(tag, none) for each, in the order of joining
RETURN (R155). -/
def State.cleared (s : State) (w : Window) (f : Rack → Bool) : Made :=
  ({ s with racks := s.racks.map fun r =>
      if r.place = .returnLoop ∧ r.destination = some w ∧ f r then { r with destination := none } else r },
    ((s.routedTo w).filter f).flatMap fun r => s.toRole .windows (.route r.tag none))

/-- The payload length of a request kind (R172). -/
def ReqKind.size : ReqKind → Nat
  | .tank => 1
  | .dispatch | .mode | .sample => 2
  | .withdraw | .query | .admitRequest | .exit | .emptied => 3
  | .sight | .relocate => 4
  | .sectionReport => 5

/-- The request kinds that a role permits (the table of R171). -/
def Role.kinds : Role → List ReqKind
  | .windows => [.sight, .dispatch, .mode, .query, .withdraw]
  | .infeed => [.admitRequest, .query]
  | .tunnel _ => [.sectionReport, .sample, .exit, .tank, .query]
  | .unload _ => [.emptied, .query]
  | .handheld => [.relocate, .withdraw, .query]
  | .unused => []

/-- Commands one after another, while each answers a next state. -/
def execAll : List Instr → State → Option State
  | [], s => some s
  | c :: cs, s => match exec c s with
    | .next t => execAll cs t
    | .fault _ | .refused _ => none

end Sys2Proof.Machine

namespace Sys2Proof

open Machine

/-! ### Which rows are which -/

/-- A transaction whose bytes agree with its length field, which is `n` (R179). -/
abbrev Transfer.isWhole (x : Transfer) (n : Nat) : Prop :=
  x.clocked = 3 + x.length.toNat ∧ x.length.toNat = n ∧ n ≤ 512

/-- The port, kind code and payload of the request frame that a station row stands for. -/
def Instr.wire : Instr → Option (Port × ReqKind × List Byte)
  | .sight p w tag => some (p, .sight, w :: tagBytes tag.toNat)
  | .dispatch p w load => some (p, .dispatch, [w, load])
  | .mode p w m => some (p, .mode, [w, m])
  | .withdraw p tag => some (p, .withdraw, tagBytes tag.toNat)
  | .query p tag => some (p, .query, tagBytes tag.toNat)
  | .admitRequest p tag => some (p, .admitRequest, tagBytes tag.toNat)
  | .sectionReport p stage seq m f => some (p, .sectionReport, stage :: seq :: bytesOf 2 m.toNat ++ [f])
  | .sample p x => some (p, .sample, bytesOf 2 x.toNat)
  | .exit p tag => some (p, .exit, tagBytes tag.toNat)
  | .tankReady p => some (p, .tank, [0])
  | .tankCold p => some (p, .tank, [1])
  | .tankFlushDone p => some (p, .tank, [2])
  | .tankFault p => some (p, .tank, [3])
  | .emptied p tag => some (p, .emptied, tagBytes tag.toNat)
  | .relocate p tag target => some (p, .relocate, tagBytes tag.toNat ++ [target])
  | .powerOn _ | .rstAssert | .rstRelease _ | .tick | .frameArrival _ _ _ _ _ | .partialFrameTimeout _ | .lineBreak _
  | .frameSent _ | .characterReceived _ _ => none
  | .nop _ | .readRecord _ _ | .readPlace _ _ _ | .readTunnel _ _ | .readWindows _ | .readConfig _ _
  | .writeConfig _ _ | .retire _ _ | .supervisorRelocate _ _ _ | .tunnelStart _ _ | .tunnelStop _ _
  | .tunnelFlush _ _ | .tunnelClearFault _ _ | .windowMode _ _ _ | .windowClass _ _ _ | .readNotices _
  | .clearNotices _ _ | .lineRestart _ | .readTick _ | .unknownCommandCode _ _ | .fetch _ => none
  | .lostRecordExpiry _ | .idleTimerExpiry _ | .restartTimerExpiry _ | .flushTimerExpiry _ | .spacingExpiry _
  | .lastAdmissionAgeOut _ | .boosterAgeing | .boosterEntryRemoval | .minimumDwellExpiry _
  | .maximumDwellExpiry _ => none

/-- A tag in the range of 1.2. -/
abbrev validTag (tag : BitVec 24) : Prop := 1 ≤ tag.toNat ∧ tag.toNat ≤ 1048575

/-- Every field of a station row lies in its range (R174). -/
abbrev Instr.inRange : Instr → Prop
  | .sight _ w tag => w.toNat ≤ 5 ∧ validTag tag
  | .dispatch _ w load => w.toNat ≤ 5 ∧ (load.toNat ≤ 7 ∨ load = 0xFF)
  | .mode _ w m => w.toNat ≤ 5 ∧ m.toNat ≤ 2
  | .withdraw _ tag | .query _ tag | .admitRequest _ tag | .exit _ tag | .emptied _ tag => validTag tag
  | .sectionReport _ stage _ _ fault => stage.toNat ≤ 2 ∧ fault.toNat ≤ 15
  | .relocate _ tag target => validTag tag ∧ target.toNat ≤ 3
  | _ => True

/-- The transfer of a command transaction whose payload length the command fixes, with that length (R180); a list of
more than 64 items fits none. -/
def Instr.transfer : Instr → Option (Transfer × Nat)
  | .nop x | .readWindows x | .readNotices x | .lineRestart x | .readTick x => some (x, 0)
  | .readTunnel x _ => some (x, 1)
  | .readPlace x _ _ | .tunnelStart x _ | .tunnelStop x _ | .tunnelFlush x _ | .tunnelClearFault x _
  | .windowMode x _ _ | .windowClass x _ _ | .clearNotices x _ | .readRecord x (.bySlot _) => some (x, 2)
  | .retire x _ => some (x, 3)
  | .readRecord x (.byTag _) | .supervisorRelocate x _ _ => some (x, 4)
  | .readConfig x items => if items = [] ∨ 64 < items.length then none else some (x, 2 * items.length)
  | .writeConfig x pairs => if pairs = [] ∨ 64 < pairs.length then none else some (x, 6 * pairs.length)
  | _ => none

/-- The three reset rows. -/
def Instr.isReset : Instr → Bool
  | .powerOn _ | .rstAssert | .rstRelease _ => true
  | _ => false

/-- The rows of the supervisor port. -/
def Instr.isTransaction : Instr → Bool
  | .nop _ | .readRecord _ _ | .readPlace _ _ _ | .readTunnel _ _ | .readWindows _ | .readConfig _ _
  | .writeConfig _ _ | .retire _ _ | .supervisorRelocate _ _ _ | .tunnelStart _ _ | .tunnelStop _ _
  | .tunnelFlush _ _ | .tunnelClearFault _ _ | .windowMode _ _ _ | .windowClass _ _ _ | .readNotices _
  | .clearNotices _ _ | .lineRestart _ | .readTick _ | .unknownCommandCode _ _ | .fetch _ => true
  | _ => false

/-- The rows at which a request can be served. -/
def Instr.servesRequests : Instr → Bool
  | .frameArrival _ _ _ _ _ | .characterReceived _ _ | .frameSent _ => true
  | c => c.wire.isSome

/-- The rows that can take a notice out of the set (R184). -/
def Instr.clearsNotices : Instr → Bool
  | .readNotices _ | .clearNotices _ _ | .lineRestart _ => true
  | c => c.isReset

end Sys2Proof
end

