-- ==== Sys2Proof/Certificates/Slice0/Obligations.lean ====
section
/-! DEFINITION. The statements for the provers. -/

open Sys2Proof Sys2Proof.Machine

/-! ### The machine as a whole -/

/-- A step takes the command at the front of the queue and runs it with the queue's rest. -/
def Obligations.StepRunsFrontCommand : Prop :=
  ∀ (c : Instr) (rest : List Instr) (s : State), s.pending = c :: rest → step s = exec c { s with pending := rest }

/-- What only some rows can change: the queue (no row), the strap samples and the RST level (the resets), the tick
counter (TICK and the resets, R185), the configuration (WRITE_CONFIG and the resets, R182), the window contexts
(the rows that can serve a request or set a mode or class, and the resets), the response buffer (the supervisor rows
and the resets). -/
def Obligations.OnlyTheirRowsChangeTheRegisters : Prop :=
  ∀ (c : Instr) (s t : State), exec c s = .next t →
    t.pending = s.pending ∧
    (c.isReset = false → t.rstLow = s.rstLow ∧ t.straps = s.straps ∧ t.identity = s.identity ∧
      t.fallback = s.fallback ∧ t.divisor = s.divisor) ∧
    (c.isReset = false → c ≠ .tick → t.now = s.now) ∧
    (c.isReset = false → (∀ x pairs, c ≠ .writeConfig x pairs) → t.config = s.config) ∧
    (c.isReset = false → c.servesRequests = false → (∀ x w m, c ≠ .windowMode x w m) →
      (∀ x w k, c ≠ .windowClass x w k) → t.windows = s.windows) ∧
    (c.isReset = false → c.isTransaction = false →
      t.response = s.response ∧ t.commandBuffer = s.commandBuffer ∧ t.miso = s.miso)

/-- While RST is low every row but the resets leaves the part as it is (R187). -/
def Obligations.RstLowTakesNothing : Prop :=
  ∀ (c : Instr) (s : State), s.rstLow = true → c.isReset = false → exec c s = .next s

/-- The three resets: the power-on state, with the straps sampled at power-on and at the release of RST, odd parity of
the six identity straps giving the identity they spell and even parity giving 31 with IDENTITY_FALLBACK raised, and
the divisor of the clock-select straps (R185 to R187). The queue and the free-value counter are the model's own and
kept (log entries 1 and 8); what RST low keeps of the last strap samples is the model's choice (log entry 6). -/
def Obligations.ResetsGiveThePowerOnState : Prop :=
  ∀ (x : Straps) (odd : Bool) (s : State),
    odd = (x.id.getLsbD 0 ^^ (x.id.getLsbD 1 ^^ (x.id.getLsbD 2 ^^ (x.id.getLsbD 3 ^^
      (x.id.getLsbD 4 ^^ x.parity))))) →
    (exec (.powerOn x) s = .next { State.reset with
      pending := s.pending, draws := s.draws, straps := x
      identity := if odd then x.id else 31
      fallback := !odd
      notices := if odd then 0 else 0x8000
      divisor := if x.cks1 then (if x.cks0 then 1600000 else 1200000) else (if x.cks0 then 800000 else 400000) }) ∧
    (exec (.rstRelease x) s = exec (.powerOn x) s) ∧
    (exec .rstAssert s = .next { State.reset with
      pending := s.pending, draws := s.draws, straps := s.straps, identity := s.identity
      fallback := s.fallback, divisor := s.divisor, rstLow := true })

/-- The state after power-on: every item number of table 11.3 at the value the table gives, and no other number an item;
nothing tracked, both tunnels OFF, every window in ACCEPT with its two entries, every port idle, no notice, no
response. -/
def Obligations.PowerOnStateIsTheTables : Prop :=
  (∀ n : Nat, (itemOf n).map State.reset.config.get = ((([(0x01, 36000), (0x02, 4000), (0x03, 4000), (0x04, 4000),
      (0x05, 8000), (0x06, 2), (0x07, 1200), (0x08, 6000), (0x09, 50), (0x0A, 3000), (0x0B, 40), (0x0C, 4), (0x0D, 240),
      (0x10, 0), (0x11, 0), (0x12, 0), (0x13, 0), (0x14, 0), (0x15, 0), (0x16, 0), (0x17, 0), (0x18, 15000),
      (0x19, 30000), (0x1A, 45000), (0x1B, 60000), (0x1C, 450), (0x1D, 600), (0x1E, 650), (0x1F, 60), (0x20, 300),
      (0x21, 1), (0x22, 1), (0x23, 1), (0x24, 1), (0x25, 1), (0x26, 1), (0x28, 0), (0x29, 1), (0x2A, 2), (0x2B, 3),
      (0x2C, 4), (0x2D, 5), (0x2E, 6), (0x2F, 7), (0x30, 0), (0x31, 0)] ++
    ([(0x40, [1, 1, 262143, 0, 1, 1, 0]), (0x48, [1, 262144, 524287, 1, 1, 1, 0]),
      (0x50, [1, 524288, 786431, 2, 2, 1, 0]), (0x58, [1, 786432, 1048575, 3, 0, 1, 0]),
      (0x60, [0, 1048575, 1, 0, 0, 0, 0]), (0x68, [0, 1048575, 1, 0, 0, 0, 0]),
      (0x70, [0, 1048575, 1, 0, 0, 0, 0]), (0x78, [0, 1048575, 1, 0, 0, 0, 0])] :
        List (Nat × List Nat)).flatMap fun w =>
        w.2.zipIdx.map fun v => (w.1 + v.2, v.1)) : List (Nat × Nat)).find? fun e => decide (e.1 = n)).map (·.2)) ∧
  State.reset.now = 0 ∧ State.reset.racks = [] ∧ State.reset.notices = 0 ∧ State.reset.response = none ∧
  State.reset.pendingAdmission = none ∧ State.reset.boosterHistory = [] ∧ State.reset.lastChosen = none ∧
  State.reset.lastAdmission = ⟨none, none⟩ ∧
  (∀ t : Tunnel, (State.reset.tunnels.get t).state = .off ∧ (State.reset.tunnels.get t).admissionSeq = 0 ∧
    (State.reset.tunnels.get t).lastSample = none ∧ (State.reset.tunnels.get t).deferredExit = none ∧
    (State.reset.tunnels.get t).gateShut = false) ∧
  (State.reset.windows.toList.map (·.cls) = [.plate, .plate, .cup, .cup, .cutlery, .tray]) ∧
  (∀ w : Window, State.reset.windows[w].mode = .accept ∧ State.reset.windowSum w = 2) ∧
  State.reset.demand.map (·.window) = [0, 0, 1, 1, 2, 2, 3, 3, 4, 4, 5, 5] ∧
  (∀ p : Port, State.reset.ports[p].assembly = [] ∧ State.reset.ports[p].queue = [] ∧
    State.reset.ports[p].busyPending = false ∧ State.reset.ports[p].transmit = [])

/-- TICK adds 1 to the tick counter, 4,294,967,295 going to 0, and changes nothing else (R185). -/
def Obligations.TickCountsAndWraps : Prop :=
  ∀ (s : State), s.rstLow = false →
    (exec .tick s = .next { s with now := s.now + 1 }) ∧
    (s.now.toNat ≠ 4294967295 → (s.now + 1).toNat = s.now.toNat + 1) ∧
    (s.now.toNat = 4294967295 → s.now + 1 = 0)

/-- The laws hold after power-on. -/
def Obligations.LawsHoldAtReset : Prop :=
  State.reset.recordLaw ∧ State.reset.placeLaw ∧ State.reset.demandLaw ∧ State.reset.pairedLaw ∧
    State.reset.tunnelLaw ∧ State.reset.portLaw

/-- Every step keeps the law of the Rack Table. -/
def Obligations.EveryStepKeepsTheRecordLaw : Prop :=
  ∀ (s t : State), s.recordLaw → step s = .next t → t.recordLaw

/-- Every step keeps the law of demand. -/
def Obligations.EveryStepKeepsTheDemandLaw : Prop :=
  ∀ (s t : State), s.demandLaw → step s = .next t → t.demandLaw

/-- Every step leaves no unassigned rack on RETURN with an eligible entry. -/
def Obligations.EveryStepLeavesNothingToPair : Prop :=
  ∀ (s t : State), s.pairedLaw → step s = .next t → t.pairedLaw

/-- Every step keeps the law of the tunnels: lane order, section capacities, empty lanes, timers, one flush. -/
def Obligations.EveryStepKeepsTheTunnelLaw : Prop :=
  ∀ (s t : State), s.tunnelLaw → step s = .next t → t.tunnelLaw

/-- Every step keeps the law of the ports. -/
def Obligations.EveryStepKeepsThePortLaw : Prop :=
  ∀ (s t : State), s.portLaw → step s = .next t → t.portLaw

/-- A notice leaves the set by READ_NOTICES, CLEAR_NOTICES, LINE_RESTART and the resets alone. -/
def Obligations.NoticesStayUntilCleared : Prop :=
  ∀ (c : Instr) (s t : State), exec c s = .next t → c.clearsNotices = false → s.notices &&& ~~~t.notices = 0

/-- A record that is there before and after a command has kept its slot, class, base level and protected field. -/
def Obligations.EnrolledFieldsAreFixed : Prop :=
  ∀ (c : Instr) (s t : State) (r r' : Rack), s.recordLaw → exec c s = .next t → r ∈ s.racks → r' ∈ t.racks →
    r'.tag = r.tag →
    r'.slot = r.slot ∧ r'.cls = r.cls ∧ r'.baseLevel = r.baseLevel ∧ r'.isProtected = r.isProtected

/-- An admission leaves at most N admissions counted within the booster window, when the window is not 0. The commands
that change the history without an admission are set aside: the resets, LINE_RESTART, and a BOOSTER_ENTRY_REMOVAL
that brings no grant. -/
def Obligations.BoosterBoundsAdmissions : Prop :=
  ∀ (c : Instr) (s t : State), exec c s = .next t → c.isReset = false → (∀ x, c ≠ .lineRestart x) →
    (c = .boosterEntryRemoval → s.now ∉ s.boosterHistory ∧ s.now ∈ t.boosterHistory) →
    t.boosterHistory ≠ s.boosterHistory → t.config.boosterWindow ≠ 0 →
    (t.boosterHistory.filter fun x => (t.now - x).toNat < t.config.boosterWindow).length ≤ t.config.boosterCount

/-! ### Station ports -/

/-- The frame check: a wrong check byte discards the frame, then a wrong line identity discards it and raises
WRONG_LINE, and any other frame is a request, which joins a queue of fewer than two. -/
def Obligations.FrameCheckInOrder : Prop :=
  ∀ (p : Port) (identity kind check : Byte) (payload : List Byte) (s hunted : State),
    s.rstLow = false → payload.length ≤ 20 →
    hunted = { s with ports := s.ports.set p { s.ports[p] with assembly := [] } } →
    (checkByte (identity :: kind :: BitVec.ofNat 8 payload.length :: payload) ≠ check →
      exec (.frameArrival p identity kind payload check) s = .next hunted) ∧
    (checkByte (identity :: kind :: BitVec.ofNat 8 payload.length :: payload) = check →
      identity.toNat ≠ s.identity.toNat →
      exec (.frameArrival p identity kind payload check) s =
        .next { hunted with notices := s.notices ||| 0x4000 }) ∧
    (checkByte (identity :: kind :: BitVec.ofNat 8 payload.length :: payload) = check →
      identity.toNat = s.identity.toNat → s.ports[p].queue.length < 2 →
      ∃ t, exec (.frameArrival p identity kind payload check) s = .next t ∧
        t.ports[p].queue = s.ports[p].queue ++ [⟨kind, payload⟩] ∧ t.ports[p].assembly = [])

/-- The frame of a request row, with the part's line identity and its check byte, does on a hunting port what the row
does; its payload is at most 20 bytes. That a request row stands for the arrival of its whole good frame is the model's
choice (log entry 2). -/
def Obligations.GoodFrameIsItsRequestRow : Prop :=
  ∀ (c : Instr) (p : Port) (k : ReqKind) (payload : List Byte) (s : State),
    s.rstLow = false → c.wire = some (p, k, payload) → s.ports[p].assembly = [] →
    payload.length ≤ 20 ∧
    exec (.frameArrival p (s.identity.setWidth 8) k.code payload
      (checkByte (s.identity.setWidth 8 :: k.code :: BitVec.ofNat 8 payload.length :: payload))) s = exec c s

/-- The characters of a frame, received one after another by a hunting port, do what the frame's arrival does. -/
def Obligations.CharactersMakeTheFrame : Prop :=
  ∀ (p : Port) (identity kind check : Byte) (payload : List Byte) (s t : State),
    s.rstLow = false → s.ports[p].assembly = [] → payload.length ≤ 20 →
    exec (.frameArrival p identity kind payload check) s = .next t →
    execAll ((0xC5 :: identity :: kind :: BitVec.ofNat 8 payload.length :: payload ++ [check]).map
      (.characterReceived p)) s = some t

/-- What discards a partial frame: the timeout, a break, a length byte above 20; and while hunting every character
but 0xC5, which starts a frame. Nothing else changes. -/
def Obligations.AssemblyDiscardsAndHunts : Prop :=
  ∀ (p : Port) (b : Byte) (s hunted : State), s.rstLow = false →
    hunted = { s with ports := s.ports.set p { s.ports[p] with assembly := [] } } →
    (exec (.partialFrameTimeout p) s = .next hunted) ∧
    (exec (.lineBreak p) s = .next hunted) ∧
    (s.ports[p].assembly.length = 3 → 20 < b.toNat → exec (.characterReceived p b) s = .next hunted) ∧
    (s.ports[p].assembly = [] → b ≠ 0xC5 → exec (.characterReceived p b) s = .next s) ∧
    (s.ports[p].assembly = [] → b = 0xC5 → exec (.characterReceived p b) s =
      .next { s with ports := s.ports.set p { s.ports[p] with assembly := [0xC5] } })

/-- A request that finds one request at its port waits behind it, unserved; one that finds two is answered BUSY once
and discarded while that BUSY is pending. Nothing else changes. -/
def Obligations.SecondWaitsThirdIsBusyOnce : Prop :=
  ∀ (c : Instr) (p : Port) (k : ReqKind) (payload : List Byte) (s : State),
    s.rstLow = false → c.wire = some (p, k, payload) →
    (s.ports[p].queue.length = 1 → exec c s = .next { s with ports := s.ports.set p { s.ports[p] with
      queue := s.ports[p].queue ++ [⟨k.code, payload⟩] } }) ∧
    (s.ports[p].queue.length = 2 → s.ports[p].busyPending = false →
      exec c s = .next { s with ports := s.ports.set p { s.ports[p] with
        busyPending := true
        transmit := s.ports[p].transmit ++ [⟨.busy, .answer ⟨k.code + 0x80, .busy, .alone⟩⟩] } }) ∧
    (s.ports[p].queue.length = 2 → s.ports[p].busyPending = true → exec c s = .next s)

/-- The port's own tests, in their order: a kind that the role does not permit is answered ROLE, a field out of its
range MALFORMED, an ADMIT on the port of the pending admission and an EXIT on a deferred EXIT port BUSY. A good frame
whose kind code is none of the twelve is answered ROLE with kind 0xFF; one whose kind the role does not permit, ROLE,
whatever its payload; and one whose payload is not of its kind's length, MALFORMED. Such an answer changes nothing
else. -/
def Obligations.PortTestsComeFirst : Prop :=
  ∀ (c : Instr) (p : Port) (role : Role) (k : ReqKind) (payload : List Byte) (kind check : Byte) (s : State),
    s.free p role →
    (check = checkByte (s.identity.setWidth 8 :: kind :: BitVec.ofNat 8 payload.length :: payload) →
      payload.length ≤ 20 → s.ports[p].assembly = [] →
      ((∀ k' : ReqKind, kind ≠ k'.code) →
        exec (.frameArrival p (s.identity.setWidth 8) kind payload check) s =
          .next { s with ports := s.ports.set p { s.ports[p] with
            queue := s.ports[p].queue ++ [⟨kind, payload⟩]
            transmit := s.ports[p].transmit ++ [⟨.head, .answer ⟨0xFF, .role, .alone⟩⟩] } }) ∧
      (kind = k.code → k ∉ role.kinds →
        exec (.frameArrival p (s.identity.setWidth 8) kind payload check) s =
          .next (s.answered p k payload .role)) ∧
      (kind = k.code → k ∈ role.kinds → payload.length ≠ k.size →
        exec (.frameArrival p (s.identity.setWidth 8) kind payload check) s =
          .next (s.answered p k payload .malformed)) ∧
      (kind = k.code → k ∈ role.kinds → k = .tank → (∃ b : Byte, payload = [b] ∧ 3 < b.toNat) →
        exec (.frameArrival p (s.identity.setWidth 8) kind payload check) s =
          .next (s.answered p k payload .malformed))) ∧
    (c.wire = some (p, k, payload) →
    (k ∉ role.kinds → exec c s = .next (s.answered p k payload .role)) ∧
    (k ∈ role.kinds → ¬ c.inRange → exec c s = .next (s.answered p k payload .malformed)) ∧
    (k ∈ role.kinds → c.inRange → k = .admitRequest → s.pendingAdmission.map (·.port) = some p →
      exec c s = .next (s.answered p k payload .busy)) ∧
    (k ∈ role.kinds → c.inRange → k = .exit →
      (s.tunnels.a.deferredExit = some p ∨ s.tunnels.b.deferredExit = some p) →
      exec c s = .next (s.answered p k payload .busy)))

/-- A sent frame leaves the list, and a message, or a frame that a LINE_RESTART kept, does no more. A BUSY ends busy
answer pending; the head request's answer frees the head, and the waiting request is then served as if it arrived at an
empty queue. That the sent frame's bytes are kept for an observer is the model's own (log entry 9). -/
def Obligations.FrameSentFreesTheHead : Prop :=
  ∀ (p : Port) (f : QueuedFrame) (rest : List QueuedFrame) (a b : RawRequest) (s sent : State), s.rstLow = false →
    sent = { s with ports := s.ports.set p { s.ports[p] with
      transmit := rest, lastSent := f.frame.bytes s.identity } } →
    (s.ports[p].transmit = [] → exec (.frameSent p) s = .next s) ∧
    (s.ports[p].transmit = f :: rest → (f.use = .loose ∨ f.use = .begun) → exec (.frameSent p) s = .next sent) ∧
    (s.ports[p].transmit = f :: rest → f.use = .busy → exec (.frameSent p) s =
      .next { sent with ports := sent.ports.set p { sent.ports[p] with busyPending := false } }) ∧
    (s.ports[p].transmit = f :: rest → f.use = .head → s.ports[p].queue = [a] → exec (.frameSent p) s =
      .next { sent with ports := sent.ports.set p { sent.ports[p] with queue := [] } }) ∧
    (s.ports[p].transmit = f :: rest → f.use = .head → s.ports[p].queue = [a, b] → exec (.frameSent p) s =
      .next (({ sent with ports := sent.ports.set p { sent.ports[p] with queue := [] } } : State).arrive p b))

/-- Messages join a transmit list in the order they were made, as many as it has room for below 32 frames; the rest are
discarded. An event's messages join with the GRANTs first, then the routes cleared, the new routes and the
TUNNEL_STATEs, each in the order made. Every other part of the state, and every port they are not for, stays as it was.
-/
def Obligations.MessagesJoinBelowThirtyTwo : Prop :=
  ∀ (ms : List (Port × Message)) (s : State),
    (∀ p : Port, (s.deliver ms).ports[p] = { s.ports[p] with
      transmit := s.ports[p].transmit ++
        ((ms.filter (·.1 = p)).map fun x => (⟨.loose, .message x.2⟩ : QueuedFrame)).take
          (32 - s.ports[p].transmit.length) }) ∧
    { s.deliver ms with ports := s.ports } = s ∧
    inOrder ms =
      ms.filter (fun x => match x.2 with
        | .grantAdmit _ _ | .admitCancelled _ | .grantExit _ _ _ | .exitAbandoned _ => true
        | _ => false) ++
      ms.filter (fun x => match x.2 with
        | .route _ none => true
        | _ => false) ++
      ms.filter (fun x => match x.2 with
        | .route _ (some _) => true
        | _ => false) ++
      ms.filter (fun x => match x.2 with
        | .tunnelState _ _ _ => true
        | _ => false)

/-! ### Records and enrolment -/

/-- QUERY answers the record's fields, the credit while it is WASHING alone, and changes nothing; an unknown tag is
answered UNKNOWN_TAG. Every role but UNUSED may ask. -/
def Obligations.QueryAnswersTheRecord : Prop :=
  ∀ (p : Port) (role : Role) (tag : BitVec 24) (r : Rack) (s : State),
    s.free p role → role ≠ .unused → validTag tag →
    (s.rack? tag.toNat = none →
      exec (.query p tag) s = .next (s.answered p .query (tagBytes tag.toNat) .unknownTag)) ∧
    (s.rack? tag.toNat = some r →
      exec (.query p tag) s = .next (s.answered p .query (tagBytes tag.toNat) .done (.query {
        state := r.state, place := r.place, cls := r.cls, passes := r.passes, destination := r.destination
        lastOutcome := r.lastOutcome, cycles := r.cycles
        credit := if r.state = .washing then r.sheet.map (·.credit) else none })))

/-- How a record leaves the table. WITHDRAW refuses an unknown tag, a protected rack and a rack in a lane, in this
order; RETIRE a value that is no tag, an unknown tag and a rack in a lane; lost-record expiry takes a rack in UNKNOWN
that is not protected once the lost timeout, if not 0, has passed, and raises LOST_RETIRED. The record goes with what
its place makes of it; then the racks that wait on RETURN are paired with what it posted, oldest first, and the gates
it leaves room for test again. Nothing else changes. A record whose admission is pending is in
LosingItsRackCancelsTheAdmission. -/
def Obligations.RetirementByTheTable : Prop :=
  ∀ (p : Port) (role : Role) (tag : BitVec 24) (x : Transfer) (r : Rack) (s : State),
    s.free p role → (role = .windows ∨ role = .handheld) → x.isWhole 3 →
    (validTag tag → s.rack? tag.toNat = none →
      exec (.withdraw p tag) s = .next (s.answered p .withdraw (tagBytes tag.toNat) .unknownTag) ∧
      exec (.retire x tag) s = .next (s.respond x ⟨.unknownTag, .alone⟩) ∧
      exec (.lostRecordExpiry tag) s = .next s) ∧
    (¬ validTag tag → exec (.retire x tag) s = .next (s.respond x ⟨.badValue, .alone⟩)) ∧
    (validTag tag → s.rack? tag.toNat = some r → r.isProtected = true →
      exec (.withdraw p tag) s = .next (s.answered p .withdraw (tagBytes tag.toNat) .isProtected)) ∧
    (validTag tag → s.rack? tag.toNat = some r → r.isProtected = false → r.state = .washing →
      exec (.withdraw p tag) s = .next (s.answered p .withdraw (tagBytes tag.toNat) .inTunnel)) ∧
    (validTag tag → s.rack? tag.toNat = some r → r.state = .washing →
      exec (.retire x tag) s = .next (s.respond x ⟨.inTunnel, .alone⟩)) ∧
    (validTag tag → s.rack? tag.toNat = some r → r.isProtected = false → r.state ≠ .washing → s.pairedLaw →
      s.pendingAdmission.map (·.tag) ≠ some tag.toNat → exec (.withdraw p tag) s =
        .next (replied ((s.without r).concluded r.place) p .withdraw (tagBytes tag.toNat) .done)) ∧
    (validTag tag → s.rack? tag.toNat = some r → r.state ≠ .washing → s.pairedLaw →
      s.pendingAdmission.map (·.tag) ≠ some tag.toNat → exec (.retire x tag) s =
        .next ((ended ((s.without r).concluded r.place)).respond x ⟨.done, .alone⟩)) ∧
    (s.rack? tag.toNat = some r →
      (r.place ≠ .unknown ∨ r.isProtected = true ∨ s.config.lostTimeout = 0 ∨
        (s.now - r.since).toNat < s.config.lostTimeout) →
      exec (.lostRecordExpiry tag) s = .next s) ∧
    (s.rack? tag.toNat = some r → r.place = .unknown → r.isProtected = false → s.config.lostTimeout ≠ 0 →
      s.config.lostTimeout ≤ (s.now - r.since).toNat → s.pendingAdmission.map (·.tag) ≠ some tag.toNat →
      exec (.lostRecordExpiry tag) s =
        .next { s with racks := s.racks.filter (·.tag ≠ r.tag), notices := s.notices ||| 8 })

/-- The pending admission is cancelled, with GRANT(ADMIT, CANCELLED) on its port, when its rack is retired, withdrawn,
relocated, by a HANDHELD port or by the supervisor, or lost, and when a SIGHT or an EMPTIED enrols its tag. The record
goes or moves as it does without an admission pending; the racks that wait on RETURN are paired, oldest first, the gates
told of room test again, and an idle time that the admission held up expires. That EMPTIED answers RETURN, 0 cycles
and service not due is the model's reading (log entry 17). -/
def Obligations.LosingItsRackCancelsTheAdmission : Prop :=
  ∀ (p : Port) (role : Role) (u : Tunnel) (w : Window) (i : Fin 8) (n : Nat) (spare : Bool) (tag : BitVec 24)
    (target : Byte) (g : Target) (x : Transfer) (a : EnrolAttributes) (r : Rack) (q : PendingAdmission) (s s' : State),
    s.free p role → s.pendingAdmission = some q → q.tag = tag.toNat → s.recordLaw →
    (s.rack? tag.toNat = some r → x.isWhole 3 → s.pairedLaw → exec (.retire x tag) s =
      .next ((ended ((s.without r).cancelled q (·.concluded r.place))).respond x ⟨.done, .alone⟩)) ∧
    (s.rack? tag.toNat = some r → (role = .windows ∨ role = .handheld) → r.isProtected = false → s.pairedLaw →
      exec (.withdraw p tag) s = .next (replied ((s.without r).cancelled q (·.concluded r.place)) p .withdraw
        (tagBytes tag.toNat) .done)) ∧
    (s.rack? tag.toNat = some r → r.place = .unknown → r.isProtected = false → s.config.lostTimeout ≠ 0 →
      s.config.lostTimeout ≤ (s.now - r.since).toNat →
      s' = { s with racks := s.racks.filter (·.tag ≠ r.tag), notices := s.notices ||| 8 } →
      exec (.lostRecordExpiry tag) s = .next (ended (s'.cancelled q))) ∧
    (s.rack? tag.toNat = some r → role = .handheld → target.toNat = targetNumber g → r.mayGo g → ¬ s.fullTarget g →
      s.pairedLaw → exec (.relocate p tag target) s =
        .next (replied ((s.relocation r g).cancelled q (·.concluded r.place)) p .relocate
          (tagBytes tag.toNat ++ [target]) .done)) ∧
    (s.rack? tag.toNat = some r → x.isWhole 4 → target.toNat = targetNumber g → r.mayGo g → ¬ s.fullTarget g →
      s.pairedLaw → exec (.supervisorRelocate x tag target) s =
        .next ((ended ((s.relocation r g).cancelled q (·.concluded r.place))).respond x ⟨.done, .alone⟩)) ∧
    (s.rack? tag.toNat = none → s.matchedBy tag.toNat i → s.config.tagWindows[i].enrol = true → s.load < 160 →
      s.lowestFree n →
      a = ⟨s.config.tagWindows[i].cls, s.config.tagWindows[i].baseLevel, s.config.tagWindows[i].protect⟩ →
      (role = .windows → s.config.tagWindows[i].cls = s.windows[w].cls → s.windows[w].mode ≠ .stop →
        s.entriesOf w ≠ [] → (spare = false → s.count (.windowFill w) = 0) →
        (spare = true → s.count (.windowFill w) ≠ 0 ∧ s.count (.windowSpare w) = 0) →
        s' = { s with
          demand := s.demand.eraseP (·.window = w)
          racks := s.racks ++ [newRack tag.toNat n a (if spare then .empty else .filling)
            (if spare then .windowSpare w else .windowFill w) s.now] } →
        exec (.sight p (BitVec.ofNat 8 w.val) tag) s =
          .next (replied (s'.cancelled q) p .sight (BitVec.ofNat 8 w.val :: tagBytes tag.toNat) .done
            (.position spare))) ∧
      (role = .unload u → s.count .returnLoop < 32 → s.pairedLaw →
        s' = { s with
          racks := s.racks ++ [newRack tag.toNat n a .empty .returnLoop s.now]
          notices := s.notices ||| 4 } →
        exec (.emptied p tag) s = .next (replied (s'.cancelled q (·.paired)) p .emptied (tagBytes tag.toNat) .done
          (.emptied .returnLoop 0 false))))

/-- The tests of an enrolment attempt in their order, for SIGHT, ADMIT and EMPTIED of an unknown tag: no enabled
window holds the tag, FOREIGN_TAG with its notice; the first one that holds it bars enrolment, NOT_ENROLLABLE; SIGHT's
class and demand tests, EMPTIED's room on RETURN; 160 records held or reserved, TABLE_FULL with its notice. A
refusal changes nothing else. -/
def Obligations.EnrolmentRefusalsInOrder : Prop :=
  ∀ (c : Instr) (p : Port) (role : Role) (k : ReqKind) (payload : List Byte) (w : Window) (tag : BitVec 24) (i : Fin 8)
    (s : State),
    s.free p role → c.wire = some (p, k, payload) → validTag tag → s.rack? tag.toNat = none →
    ((c = .sight p (BitVec.ofNat 8 w.val) tag ∧ role = .windows) ∨
      (c = .admitRequest p tag ∧ role = .infeed ∧ s.pendingAdmission = none) ∨
      (c = .emptied p tag ∧ (role = .unload .a ∨ role = .unload .b))) →
    ((∀ j : Fin 8, ¬ s.config.tagWindows[j].covers tag.toNat) →
      exec c s = .next (({ s with notices := s.notices ||| 2 } : State).answered p k payload .foreignTag)) ∧
    (s.matchedBy tag.toNat i → s.config.tagWindows[i].enrol = false →
      exec c s = .next (s.answered p k payload .notEnrollable)) ∧
    (s.matchedBy tag.toNat i → s.config.tagWindows[i].enrol = true → k = .sight →
      s.config.tagWindows[i].cls ≠ s.windows[w].cls → exec c s = .next (s.answered p k payload .classMismatch)) ∧
    (s.matchedBy tag.toNat i → s.config.tagWindows[i].enrol = true → k = .sight →
      s.config.tagWindows[i].cls = s.windows[w].cls → (s.windows[w].mode = .stop ∨ s.entriesOf w = []) →
      exec c s = .next (s.answered p k payload .noDemand)) ∧
    (s.matchedBy tag.toNat i → s.config.tagWindows[i].enrol = true → k = .emptied → 32 ≤ s.count .returnLoop →
      exec c s = .next (s.answered p k payload .returnFull)) ∧
    (s.matchedBy tag.toNat i → s.config.tagWindows[i].enrol = true →
      (k = .sight → s.config.tagWindows[i].cls = s.windows[w].cls ∧ s.windows[w].mode ≠ .stop ∧ s.entriesOf w ≠ []) →
      (k = .emptied → s.count .returnLoop < 32) → 160 ≤ s.load →
      exec c s = .next (({ s with notices := s.notices ||| 1 } : State).answered p k payload .tableFull))

/-- SIGHT of an unknown tag that passes the tests enrols it in the lowest free slot with the matching window's class,
base level and protection and fresh values, at FILL as FILLING when FILL is free, else at SPARE as EMPTY, against the
window's oldest entry. -/
def Obligations.SightEnrols : Prop :=
  ∀ (p : Port) (w : Window) (tag : BitVec 24) (i : Fin 8) (n : Nat) (spare : Bool) (s : State),
    s.free p .windows → validTag tag → s.rack? tag.toNat = none → s.matchedBy tag.toNat i →
    s.config.tagWindows[i].enrol = true → s.config.tagWindows[i].cls = s.windows[w].cls → s.windows[w].mode ≠ .stop →
    s.entriesOf w ≠ [] → s.load < 160 → s.lowestFree n → s.pendingAdmission.map (·.tag) ≠ some tag.toNat →
    (spare = false → s.count (.windowFill w) = 0) →
    (spare = true → s.count (.windowFill w) ≠ 0 ∧ s.count (.windowSpare w) = 0) →
    exec (.sight p (BitVec.ofNat 8 w.val) tag) s = .next (({ s with
      demand := s.demand.eraseP (·.window = w)
      racks := s.racks ++ [{
        tag := tag.toNat, slot := n, cls := s.config.tagWindows[i].cls, baseLevel := s.config.tagWindows[i].baseLevel
        isProtected := s.config.tagWindows[i].protect, state := if spare then .empty else .filling
        place := if spare then .windowSpare w else .windowFill w, destination := none, loadCode := none, passes := 0
        sheet := none, lastOutcome := none, cycles := 0, serviceDue := false, since := s.now }] } : State).answered
      p .sight (BitVec.ofNat 8 w.val :: tagBytes tag.toNat) .done (.position spare))

/-- EMPTIED of an unknown tag that passes the tests enrols it as EMPTY on RETURN, unassigned, with fresh values and no
cycle counted, raises UNPROVEN, and the racks that wait on RETURN are paired, it last. That the answer names RETURN, 0
cycles and service not due is the model's reading (log entry 17). -/
def Obligations.EmptiedEnrols : Prop :=
  ∀ (p : Port) (u : Tunnel) (tag : BitVec 24) (i : Fin 8) (n : Nat) (r : Rack) (s s' : State),
    s.free p (.unload u) → validTag tag → s.rack? tag.toNat = none → s.matchedBy tag.toNat i →
    s.config.tagWindows[i].enrol = true → s.count .returnLoop < 32 → s.load < 160 → s.lowestFree n →
    s.pendingAdmission.map (·.tag) ≠ some tag.toNat → s.pairedLaw →
    r = {
      tag := tag.toNat, slot := n, cls := s.config.tagWindows[i].cls, baseLevel := s.config.tagWindows[i].baseLevel
      isProtected := s.config.tagWindows[i].protect, state := .empty, place := .returnLoop, destination := none
      loadCode := none, passes := 0, sheet := none, lastOutcome := none, cycles := 0, serviceDue := false
      since := s.now } →
    s' = { s with racks := s.racks ++ [r], notices := s.notices ||| 4 } →
    exec (.emptied p tag) s =
      .next (replied s'.paired p .emptied (tagBytes tag.toNat) .done (.emptied .returnLoop 0 false))

/-! ### Moves by people -/

/-- RELOCATE on a HANDHELD port and from the supervisor: an unknown tag, a rack in a lane, a pair that is no move and a
full target are refused, in this order, with nothing changed; any other makes the move, with the effects of the
rack's leaving and of its joining; then the racks that wait on RETURN are paired, oldest first, and the gates told of
room test again. The supervisor's refuses first a value that is no tag or no target. A rack whose admission is pending
is in LosingItsRackCancelsTheAdmission. -/
def Obligations.RelocateByTheTable : Prop :=
  ∀ (p : Port) (tag : BitVec 24) (target : Byte) (g : Target) (x : Transfer) (r : Rack) (s : State),
    s.free p .handheld → x.isWhole 4 →
    target.toNat = targetNumber g →
    (¬ validTag tag → exec (.supervisorRelocate x tag target) s = .next (s.respond x ⟨.badValue, .alone⟩)) ∧
    (∀ bad : Byte, 3 < bad.toNat → exec (.supervisorRelocate x tag bad) s = .next (s.respond x ⟨.badValue, .alone⟩)) ∧
    (validTag tag → s.rack? tag.toNat = none →
      exec (.relocate p tag target) s =
        .next (s.answered p .relocate (tagBytes tag.toNat ++ [target]) .unknownTag) ∧
      exec (.supervisorRelocate x tag target) s = .next (s.respond x ⟨.unknownTag, .alone⟩)) ∧
    (validTag tag → s.rack? tag.toNat = some r → r.state = .washing →
      exec (.relocate p tag target) s = .next (s.answered p .relocate (tagBytes tag.toNat ++ [target]) .inTunnel) ∧
      exec (.supervisorRelocate x tag target) s = .next (s.respond x ⟨.inTunnel, .alone⟩)) ∧
    (validTag tag → s.rack? tag.toNat = some r → r.state ≠ .washing → ¬ r.mayGo g →
      exec (.relocate p tag target) s = .next (s.answered p .relocate (tagBytes tag.toNat ++ [target]) .badPlace) ∧
      exec (.supervisorRelocate x tag target) s = .next (s.respond x ⟨.badPlace, .alone⟩)) ∧
    (validTag tag → s.rack? tag.toNat = some r → r.state ≠ .washing → r.mayGo g → s.fullTarget g →
      exec (.relocate p tag target) s = .next (s.answered p .relocate (tagBytes tag.toNat ++ [target]) .placeFull) ∧
      exec (.supervisorRelocate x tag target) s = .next (s.respond x ⟨.placeFull, .alone⟩)) ∧
    (validTag tag → s.rack? tag.toNat = some r → r.state ≠ .washing → r.mayGo g → ¬ s.fullTarget g → s.pairedLaw →
      s.pendingAdmission.map (·.tag) ≠ some tag.toNat →
      exec (.relocate p tag target) s = .next (replied ((s.relocation r g).concluded r.place) p .relocate
        (tagBytes tag.toNat ++ [target]) .done) ∧
      exec (.supervisorRelocate x tag target) s =
        .next ((ended ((s.relocation r g).concluded r.place)).respond x ⟨.done, .alone⟩))

/-! ### Reads -/

/-- The read commands: each puts a response in the buffer and changes nothing else. NOP; READ_RECORD by tag and by slot,
with its refusals; READ_TUNNEL, with tag, section, admission seq and exit requested of each rack of the lane, oldest
first; READ_WINDOWS; READ_TICK. -/
def Obligations.ReadsAnswerTheState : Prop :=
  ∀ (x : Transfer) (tag : BitVec 24) (slot sel tb : Byte) (t : Tunnel) (r : Rack) (s : State), s.rstLow = false →
    (x.isWhole 0 → exec (.nop x) s = .next (s.respond x ⟨.done, .alone⟩)) ∧
    (x.isWhole 4 → validTag tag → s.rack? tag.toNat = some r →
      exec (.readRecord x (.byTag tag)) s = .next (s.respond x ⟨.done, .record r⟩)) ∧
    (x.isWhole 4 → validTag tag → s.rack? tag.toNat = none →
      exec (.readRecord x (.byTag tag)) s = .next (s.respond x ⟨.unknownTag, .alone⟩)) ∧
    (x.isWhole 4 → ¬ validTag tag →
      exec (.readRecord x (.byTag tag)) s = .next (s.respond x ⟨.badValue, .alone⟩)) ∧
    (x.isWhole 2 → slot.toNat < 160 → s.recordLaw → r ∈ s.racks → r.slot = slot.toNat →
      exec (.readRecord x (.bySlot slot)) s = .next (s.respond x ⟨.done, .record r⟩)) ∧
    (x.isWhole 2 → slot.toNat < 160 → (∀ y ∈ s.racks, y.slot ≠ slot.toNat) →
      exec (.readRecord x (.bySlot slot)) s = .next (s.respond x ⟨.unknownTag, .alone⟩)) ∧
    (x.isWhole 2 → 160 ≤ slot.toNat →
      exec (.readRecord x (.bySlot slot)) s = .next (s.respond x ⟨.badValue, .alone⟩)) ∧
    (x.clocked ≠ 0 → exec (.readRecord x (.badSelector sel)) s = .next (s.respond x ⟨.badValue, .alone⟩)) ∧
    (x.isWhole 1 → tb.toNat = tunnelNumber t →
      exec (.readTunnel x tb) s = .next (s.respond x ⟨.done, .tunnel {
        state := (s.tunnels.get t).state, admissionSeq := (s.tunnels.get t).admissionSeq
        enables := s.config.enables.get t, idleStart := (s.tunnels.get t).idleStart
        economyStart := (s.tunnels.get t).economyStart, restartTimer := (s.tunnels.get t).restartTimer
        flushTimer := (s.tunnels.get t).flushTimer
        lane := (s.lane t).map fun y => {
          tag := y.tag, stage := (y.sheet.map (·.stage)).getD .pre
          admissionSeq := (y.sheet.map (·.admissionSeq)).getD 0
          exitRequested := (y.sheet.map (·.exitRequested)).getD false }
        gateShut := (s.tunnels.get t).gateShut }⟩)) ∧
    (x.isWhole 1 → 1 < tb.toNat → exec (.readTunnel x tb) s = .next (s.respond x ⟨.badValue, .alone⟩)) ∧
    (x.isWhole 0 → exec (.readWindows x) s = .next (s.respond x ⟨.done, .windows
      ([0, 1, 2, 3, 4, 5].map fun w : Window => {
        cls := s.windows[w].cls, mode := s.windows[w].mode, fill := (s.fillRack w).map (·.tag)
        spare := (s.spareRack w).map (·.tag), routed := (s.routedTo w).map (·.tag), entries := (s.entriesOf w).length
        starved := decide (s.windows[w].mode = .accept ∧ s.fillRack w = none ∧ s.spareRack w = none) })
      s.demand⟩)) ∧
    (x.isWhole 0 → exec (.readTick x) s =
      .next (s.respond x ⟨.done, .tick s.now s.tunnels.a.lastSample s.tunnels.b.lastSample⟩))

/-- READ_PLACE lists every member of the place once: in the order of joining on COLLECT, the unload tables and RETURN,
and in ascending order of slot elsewhere; with the capacity, COLLECT's reserve, RETURN's destinations, and the last
outcome and since of HOLD and UNKNOWN. A lane, and an index the place does not have, is BAD_VALUE. -/
def Obligations.ReadPlaceListsItsMembers : Prop :=
  ∀ (x : Transfer) (code index : Byte) (pl : Place) (s : State), s.rstLow = false → x.isWhole 2 →
    ((∀ t ∈ [Tunnel.a, .b], pl ≠ .tunnel t) → code.toNat = pl.code → index.toNat = pl.index →
      ∃ ms : List Rack, exec (.readPlace x code index) s = .next (s.respond x ⟨.done, .place {
          place := pl
          capacity := match pl with
            | .windowFill _ | .windowSpare _ => 1
            | .collect => 24
            | .unload _ => 3
            | .returnLoop => 32
            | .hold => 8
            | .store | .unknown => 160
            | .tunnel _ => 6
          reserve := if pl = .collect then some s.config.recircReserve else none
          members := ms.map fun r => (r.tag, match pl with
            | .returnLoop => .routed r.destination
            | .hold | .unknown => .held r.lastOutcome r.since
            | _ => .plain) }⟩) ∧
        ms.Perm (s.members pl) ∧
        ((pl = .collect ∨ pl = .returnLoop ∨ pl = .unload .a ∨ pl = .unload .b) → ms = s.members pl) ∧
        ((pl = .hold ∨ pl = .store ∨ pl = .unknown) → ms.Pairwise fun a b => a.slot ≤ b.slot)) ∧
    ((code.toNat = 3 ∨ 8 < code.toNat ∨ (code.toNat ≤ 1 ∧ 5 < index.toNat) ∨ (code.toNat = 4 ∧ 1 < index.toNat) ∨
        (code.toNat ∉ [0, 1, 3, 4] ∧ index ≠ 0)) →
      exec (.readPlace x code index) s = .next (s.respond x ⟨.badValue, .alone⟩))

/-! ### Tunnels -/

/-- The TUNNEL commands in each tunnel state: START from OFF, with the admission seq set to
0 and TUNNEL_STATE fresh; STOP to OFF or, with racks in the lane, to CLOSING, BUSY in FLUSHING; FLUSH from READY or
ECONOMY with an empty lane, SHARED_BUSY while the other tunnel is FLUSHING; CLEAR_FAULT from FAULT. The response
carries the state after the command, that is right after the command's own change (the model's reading, log entry
15), and a change of state re-evaluates the pending admission; a refusal changes nothing; a tunnel value above 1 is
BAD_VALUE. -/
def Obligations.TunnelCommandsByTheTable : Prop :=
  ∀ (x : Transfer) (tb : Byte) (t : Tunnel) (c : TunnelContext) (s : State),
    s.rstLow = false → x.isWhole 2 → s.pendingSound = true → c = s.tunnels.get t →
    (1 < tb.toNat → exec (.tunnelStart x tb) s = .next (s.respond x ⟨.badValue, .alone⟩) ∧
      exec (.tunnelStop x tb) s = .next (s.respond x ⟨.badValue, .alone⟩) ∧
      exec (.tunnelFlush x tb) s = .next (s.respond x ⟨.badValue, .alone⟩) ∧
      exec (.tunnelClearFault x tb) s = .next (s.respond x ⟨.badValue, .alone⟩)) ∧
    (tb.toNat = tunnelNumber t → c.state = .off → exec (.tunnelStart x tb) s =
      .next ((ended (s.turned t { c with state := .warming, admissionSeq := 0 } true)).respond x
        ⟨.done, .tunnelState .warming⟩)) ∧
    (tb.toNat = tunnelNumber t → c.state ≠ .off →
      exec (.tunnelStart x tb) s = .next (s.respond x ⟨.badState, .tunnelState c.state⟩)) ∧
    (tb.toNat = tunnelNumber t → c.state ∈ [.warming, .ready, .running, .economy, .restarting] →
      exec (.tunnelStop x tb) s =
        .next ((ended (s.turned t { c with
            state := if s.lane t = [] then .off else .closing
            idleStart := none, economyStart := none, restartTimer := none, flushTimer := none })).respond x
          ⟨.done, .tunnelState (if s.lane t = [] then .off else .closing)⟩)) ∧
    (tb.toNat = tunnelNumber t → c.state = .closing →
      exec (.tunnelStop x tb) s = .next (s.respond x ⟨.done, .tunnelState .closing⟩)) ∧
    (tb.toNat = tunnelNumber t → c.state = .flushing →
      exec (.tunnelStop x tb) s = .next (s.respond x ⟨.busy, .tunnelState .flushing⟩)) ∧
    (tb.toNat = tunnelNumber t → (c.state = .off ∨ c.state = .fault) →
      exec (.tunnelStop x tb) s = .next (s.respond x ⟨.badState, .tunnelState c.state⟩)) ∧
    (tb.toNat = tunnelNumber t → (s.tunnels.get t.other).state = .flushing →
      exec (.tunnelFlush x tb) s = .next (s.respond x ⟨.sharedBusy, .tunnelState c.state⟩)) ∧
    (tb.toNat = tunnelNumber t → (s.tunnels.get t.other).state ≠ .flushing → (c.state = .ready ∨ c.state = .economy) →
      s.lane t = [] → exec (.tunnelFlush x tb) s =
        .next ((ended (s.turned t { c with
            state := .flushing, idleStart := none, economyStart := none
            flushTimer := some (s.now + BitVec.ofNat 32 s.config.flushTime) })).respond x
          ⟨.done, .tunnelState .flushing⟩)) ∧
    (tb.toNat = tunnelNumber t → (s.tunnels.get t.other).state ≠ .flushing →
      ((c.state ≠ .ready ∧ c.state ≠ .economy) ∨ s.lane t ≠ []) →
      exec (.tunnelFlush x tb) s = .next (s.respond x ⟨.badState, .tunnelState c.state⟩)) ∧
    (tb.toNat = tunnelNumber t → c.state = .fault → exec (.tunnelClearFault x tb) s =
      .next ((ended (s.turned t { c with state := .off })).respond x
        ⟨.done, .tunnelState .off⟩)) ∧
    (tb.toNat = tunnelNumber t → c.state ≠ .fault →
      exec (.tunnelClearFault x tb) s = .next (s.respond x ⟨.badState, .tunnelState c.state⟩))

/-- The TANK reports but a FAULT that tears down: READY ends WARMING, idle from now when the lane is empty; COLD takes
READY, RUNNING and RESTARTING to WARMING; FLUSH_DONE takes FLUSHING to WARMING; every change of state re-evaluates the
pending admission; every other report changes nothing. Each is answered DONE; that the state answered is the one right
after the report is the model's reading (log entry 15). -/
def Obligations.TankReportsByTheTable : Prop :=
  ∀ (p : Port) (t : Tunnel) (c : TunnelContext) (s : State),
    s.free p (.tunnel t) → s.pendingSound = true → c = s.tunnels.get t →
    (c.state = .warming → exec (.tankReady p) s =
      .next (replied (s.turned t { c with
          state := .ready, idleStart := if s.lane t = [] then some s.now else c.idleStart })
        p .tank [0] .done (.tank .ready))) ∧
    (c.state ≠ .warming → exec (.tankReady p) s = .next (s.answered p .tank [0] .done (.tank c.state))) ∧
    (c.state ∈ [.ready, .running, .restarting] → exec (.tankCold p) s =
      .next (replied (s.turned t { c with state := .warming, idleStart := none, restartTimer := none })
        p .tank [1] .done (.tank .warming))) ∧
    (c.state ∉ [.ready, .running, .restarting] →
      exec (.tankCold p) s = .next (s.answered p .tank [1] .done (.tank c.state))) ∧
    (c.state = .flushing → exec (.tankFlushDone p) s =
      .next (replied (s.turned t { c with state := .warming, flushTimer := none })
        p .tank [2] .done (.tank .warming))) ∧
    (c.state ≠ .flushing → exec (.tankFlushDone p) s = .next (s.answered p .tank [2] .done (.tank c.state))) ∧
    ((c.state = .off ∨ c.state = .fault) →
      exec (.tankFault p) s = .next (s.answered p .tank [3] .done (.tank c.state)))

/-- Entry into FAULT, by TANK FAULT in any state but OFF and FAULT and by the expiry of the flush timer in FLUSHING: the
racks of the lane go to UNKNOWN as HELD with TUNNEL_FAULT, the outstanding EXIT is abandoned, the timers are
discarded, the notice is raised, TUNNEL_STATE(FAULT) is sent, and the pending admission is re-evaluated. A flush timer
that is not due does nothing; that it is due for half the counter's range from its expiry tick on is the model's
reading (log entry 16). -/
def Obligations.FaultTearsTheLaneDown : Prop :=
  ∀ (p : Port) (t : Tunnel) (expiry : Tick) (s : State), s.recordLaw →
    (s.free p (.tunnel t) → (s.tunnels.get t).state ≠ .off → (s.tunnels.get t).state ≠ .fault →
      exec (.tankFault p) s =
        .next (replied (followed (s.tornDown t) (·.reconsidered)) p .tank [3] .done (.tank .fault))) ∧
    (s.rstLow = false → (s.tunnels.get t).state = .flushing → (s.tunnels.get t).flushTimer = some expiry →
      (s.now - expiry).toNat < 2147483648 →
      exec (.flushTimerExpiry t) s = .next (ended (followed (s.tornDown t) (·.reconsidered)))) ∧
    (s.rstLow = false → (s.tunnels.get t).flushTimer = some expiry → 2147483648 ≤ (s.now - expiry).toNat →
      exec (.flushTimerExpiry t) s = .next s) ∧
    (s.rstLow = false → ((s.tunnels.get t).state ≠ .flushing ∨ (s.tunnels.get t).flushTimer = none) →
      exec (.flushTimerExpiry t) s = .next s)

/-- The idle timer takes a READY or RUNNING tunnel with an empty lane to ECONOMY once the idle time, if not 0, has
passed and no admission is pending; the restart timer takes RESTARTING to RUNNING, idle from now, and the pending
admission is re-evaluated. Neither does anything otherwise. That the restart timer is due for half the counter's range
from its expiry tick on is the model's reading (log entry 16). -/
def Obligations.IdleAndRestartTimers : Prop :=
  ∀ (t : Tunnel) (start : Tick) (c : TunnelContext) (s : State), s.rstLow = false → c = s.tunnels.get t →
    ((c.state = .ready ∨ c.state = .running) → s.config.idleTime ≠ 0 → c.idleStart = some start →
      s.config.idleTime ≤ (s.now - start).toNat → s.lane t = [] → s.pendingAdmission = none →
      exec (.idleTimerExpiry t) s = .next (ended (s.turned t { c with
        state := .economy, economyStart := some s.now, idleStart := none }))) ∧
    (((c.state ≠ .ready ∧ c.state ≠ .running) ∨ s.config.idleTime = 0 ∨ c.idleStart = none ∨
      (c.idleStart = some start ∧ (s.now - start).toNat < s.config.idleTime) ∨ s.lane t ≠ [] ∨
      s.pendingAdmission ≠ none) → exec (.idleTimerExpiry t) s = .next s) ∧
    (c.state = .restarting → c.restartTimer = some start → (s.now - start).toNat < 2147483648 →
      s.pendingSound = true →
      exec (.restartTimerExpiry t) s = .next (ended (s.turned t { c with
        state := .running, idleStart := some s.now, restartTimer := none }))) ∧
    ((c.state ≠ .restarting ∨ c.restartTimer = none ∨
      (c.restartTimer = some start ∧ 2147483648 ≤ (s.now - start).toNat)) →
      exec (.restartTimerExpiry t) s = .next s)

/-! ### Admission -/

/-- The tunnel of an evaluation: a tunnel is eligible when it is READY or RUNNING, its lane has fewer than 6 racks, its
first enabled section has room and no rack stands before it, the spacing has passed since its last admission, and
the booster allows one more; of two eligible tunnels the one with the shorter lane, and of equal lanes the one not
chosen last, A when none was. That the spacing has passed, and an entry has stopped counting, at the tick that reaches
it, before its expiry is taken, is the model's choice (log entry 29). -/
def Obligations.TunnelChoice : Prop :=
  ∀ (t : Tunnel) (first : Stage) (s : State),
    first = (if (s.config.enables.get t).pre then .pre else if (s.config.enables.get t).wash then .wash
      else if (s.config.enables.get t).rinse then .rinse else .final) →
    (s.eligible t = true ↔
      ((s.tunnels.get t).state = .ready ∨ (s.tunnels.get t).state = .running) ∧ (s.lane t).length < 6 ∧
      ((s.lane t).filter fun r => decide (r.stage? = some first)).length <
        (if first = .pre ∨ first = .wash then 2 else 1) ∧
      (∀ r ∈ s.lane t, ∀ st ∈ [Stage.pre, .wash, .rinse, .final], r.stage? = some st → first.code ≤ st.code) ∧
      (∀ x ∈ (s.lastAdmission.get t).toList, s.config.spacing ≤ (s.now - x).toNat) ∧
      (s.config.boosterWindow = 0 ∨
        (s.boosterHistory.filter fun x => decide ((s.now - x).toNat < s.config.boosterWindow)).length <
          s.config.boosterCount)) ∧
    (s.eligible t = false → s.eligible t.other = false → s.chosenTunnel = none) ∧
    (s.eligible t = true → s.eligible t.other = false → s.chosenTunnel = some t) ∧
    (s.eligible t = true → s.eligible t.other = true → (s.lane t).length < (s.lane t.other).length →
      s.chosenTunnel = some t) ∧
    (s.eligible t = true → s.eligible t.other = true → (s.lane t).length = (s.lane t.other).length →
      (s.lastChosen = some t.other ∨ (s.lastChosen = none ∧ t = .a)) → s.chosenTunnel = some t)

/-- ADMIT: BUSY while another admission is pending; BAD_STATE for a known rack that is neither SOILED in COLLECT nor
HELD in UNKNOWN; with a tunnel chosen, the rack, or the record enrolled for an unknown tag, goes into its lane with a
new pass sheet, and the admission is remembered; a rack gone from COLLECT leaves room, for which the shut gates test
again. -/
def Obligations.AdmitByItsTests : Prop :=
  ∀ (p : Port) (tag : BitVec 24) (t : Tunnel) (i : Fin 8) (n : Nat) (r : Rack) (s : State),
    s.free p .infeed → validTag tag →
    (s.pendingAdmission ≠ none →
      exec (.admitRequest p tag) s = .next (s.answered p .admitRequest (tagBytes tag.toNat) .busy)) ∧
    (s.pendingAdmission = none → s.rack? tag.toNat = some r →
      ¬ (r.state = .soiled ∧ r.place = .collect) → ¬ (r.state = .held ∧ r.place = .unknown) →
      exec (.admitRequest p tag) s = .next (s.answered p .admitRequest (tagBytes tag.toNat) .badState)) ∧
    (s.rack? tag.toNat = some r →
      ((r.state = .soiled ∧ r.place = .collect) ∨ (r.state = .held ∧ r.place = .unknown)) →
      s.chosenTunnel = some t → s.recordLaw → s.pendingAdmission = none →
      exec (.admitRequest p tag) s = .next (replied (followed (s.admittedInto t r) (·.retestedAfter r.place))
        p .admitRequest (tagBytes tag.toNat) .done (.admitted t))) ∧
    (s.rack? tag.toNat = none → s.matchedBy tag.toNat i → s.config.tagWindows[i].enrol = true → s.load < 160 →
      s.lowestFree n → s.chosenTunnel = some t → s.pendingAdmission = none →
      r = newRack tag.toNat n ⟨s.config.tagWindows[i].cls, s.config.tagWindows[i].baseLevel,
        s.config.tagWindows[i].protect⟩ .washing (.tunnel t) s.now →
      exec (.admitRequest p tag) s = .next (replied (s.admittedInto t r) p .admitRequest (tagBytes tag.toNat) .done
        (.admitted t)))

/-- ADMIT with no tunnel eligible is answered WAIT and becomes the pending admission, with the matching window's
attributes when the tag is unknown; and a tunnel in ECONOMY is asked to restart when none is READY, RUNNING or
RESTARTING. -/
def Obligations.AdmitWaitsAndWakes : Prop :=
  ∀ (p : Port) (tag : BitVec 24) (i : Fin 8) (r : Rack) (s : State),
    s.free p .infeed → validTag tag → s.pendingAdmission = none → s.chosenTunnel = none →
    (s.rack? tag.toNat = some r →
      ((r.state = .soiled ∧ r.place = .collect) ∨ (r.state = .held ∧ r.place = .unknown)) →
      exec (.admitRequest p tag) s = .next (replied ({ s with pendingAdmission := some ⟨tag.toNat, p, none⟩ } :
        State).wakened p .admitRequest (tagBytes tag.toNat) .wait)) ∧
    (s.rack? tag.toNat = none → s.matchedBy tag.toNat i → s.config.tagWindows[i].enrol = true → s.load < 160 →
      exec (.admitRequest p tag) s = .next (replied ({ s with pendingAdmission := some ⟨tag.toNat, p,
          some ⟨s.config.tagWindows[i].cls, s.config.tagWindows[i].baseLevel, s.config.tagWindows[i].protect⟩⟩ } :
        State).wakened p .admitRequest (tagBytes tag.toNat) .wait))

/-- The admission timers. A spacing expiry and a booster ageing are re-evaluations. Last admission becomes absent at 200
ticks and booster entries of 1,200 ticks leave the history, and neither is a re-evaluation by itself; each makes one
where it stands for an expiry of its tick, with a spacing of 200 and with W 1,200. A re-evaluation with a tunnel
eligible grants the pending admission: its rack is admitted or, for a deferred enrolment, enrolled with the attributes
it holds, GRANT(ADMIT) is sent, the gates told of room test again, and an idle time that the admission held up expires;
with none eligible a tunnel may be woken; with nothing pending nothing more changes. An expiry whose condition does not
hold changes nothing. That the expiries re-evaluate whenever their condition holds, that the two rows that drop old
ticks stand for one, and that a row does nothing otherwise, are the model's readings (log entries 3 and 26), and so is
that spacing and booster are read from the counter as it stands (log entry 29). -/
def Obligations.AdmissionTimers : Prop :=
  ∀ (c : Instr) (u t : Tunnel) (x : Tick) (n : Nat) (q : PendingAdmission) (a : EnrolAttributes) (r : Rack)
    (s b : State),
    s.rstLow = false →
    ((c = .spacingExpiry u ∧ s.lastAdmission.get u = some x ∧ s.config.spacing ≤ (s.now - x).toNat ∧ b = s) ∨
      (c = .boosterAgeing ∧ s.config.boosterWindow ≠ 0 ∧ x ∈ s.boosterHistory ∧
        s.config.boosterWindow ≤ (s.now - x).toNat ∧ b = s) ∨
      (c = .lastAdmissionAgeOut u ∧ s.lastAdmission.get u = some x ∧ 200 ≤ (s.now - x).toNat ∧
        200 ≤ s.config.spacing ∧ b = { s with lastAdmission := s.lastAdmission.set u none }) ∨
      (c = .boosterEntryRemoval ∧ 1200 ≤ s.config.boosterWindow ∧ x ∈ s.boosterHistory ∧ 1200 ≤ (s.now - x).toNat ∧
        b = { s with boosterHistory := s.boosterHistory.filter fun y => decide ((s.now - y).toNat < 1200) }) →
      (s.pendingAdmission = none → exec c s = .next b) ∧
      (s.pendingAdmission = some q → b.chosenTunnel = none → exec c s = .next (ended b.wakened)) ∧
      (s.pendingAdmission = some q → b.chosenTunnel = some t → s.recordLaw → q.enrol = none →
        s.rack? q.tag = some r → exec c s = .next (ended (b.granted q t r))) ∧
      (s.pendingAdmission = some q → b.chosenTunnel = some t → s.recordLaw → q.enrol = some a → s.lowestFree n →
        r = newRack q.tag n a .washing (.tunnel t) s.now → exec c s = .next (ended (b.granted q t r)))) ∧
    ((s.lastAdmission.get u = none ∨ (s.lastAdmission.get u = some x ∧ (s.now - x).toNat < s.config.spacing)) →
      exec (.spacingExpiry u) s = .next s) ∧
    ((s.config.boosterWindow = 0 ∨ ∀ y ∈ s.boosterHistory, (s.now - y).toNat < s.config.boosterWindow) →
      exec .boosterAgeing s = .next s) ∧
    ((s.lastAdmission.get u = none ∨ (s.lastAdmission.get u = some x ∧ (s.now - x).toNat < 200)) →
      exec (.lastAdmissionAgeOut u) s = .next s) ∧
    (s.lastAdmission.get u = some x → 200 ≤ (s.now - x).toNat → s.config.spacing < 200 →
      exec (.lastAdmissionAgeOut u) s = .next { s with lastAdmission := s.lastAdmission.set u none }) ∧
    ((s.config.boosterWindow < 1200 ∨ ∀ y ∈ s.boosterHistory, (s.now - y).toNat < 1200) →
      exec .boosterEntryRemoval s = .next { s with
        boosterHistory := s.boosterHistory.filter fun y => decide ((s.now - y).toNat < 1200) })

/-! ### The pass -/

/-- SECTION: no rack in the section, EMPTY_SECTION; the next required section without room, or with an older rack still
before it, SECTION_FULL; either with TRACK_FAULT and nothing else changed. Otherwise the oldest rack in the section
moves to its next required section in place, with the fragment of the report: slip when the seq is not its own, an
impossible measurement stored as NONE with fault code 15; and both ticks set at FINAL; the pending admission is
re-evaluated. -/
def Obligations.SectionReports : Prop :=
  ∀ (p : Port) (t : Tunnel) (stage seq fault : Byte) (m : BitVec 16) (st next : Stage) (older younger : List Rack)
    (r : Rack) (sh : PassSheet) (f : Fragment) (payload : List Byte) (s : State),
    s.free p (.tunnel t) → fault.toNat ≤ 15 → st ≠ .final → stage.toNat = st.code →
    payload = stage :: seq :: bytesOf 2 m.toNat ++ [fault] →
    ((∀ y ∈ s.lane t, y.stage? ≠ some st) → exec (.sectionReport p stage seq m fault) s =
      .next (({ s with notices := s.notices ||| trackFault t } : State).answered p .sectionReport payload
        .emptySection)) ∧
    (s.recordLaw → s.lane t = older ++ r :: younger → (∀ y ∈ older, y.stage? ≠ some st) → r.sheet = some sh →
      sh.stage = st → st.code < next.code → sh.required.has next = true →
      (∀ z ∈ [Stage.wash, .rinse], st.code < z.code → z.code < next.code → sh.required.has z = false) →
      ((((s.lane t).filter fun y => decide (y.stage? = some next)).length <
          (if next = .pre ∨ next = .wash then 2 else 1) ∧
        ∀ y ∈ older, ∀ z ∈ [Stage.pre, .wash, .rinse, .final], y.stage? = some z → next.code ≤ z.code) →
        f = ⟨seq, if m.toNat ≤ 1200 then some m.toNat else none,
          if m.toNat ≤ 1200 ∨ m = 0xFFFF then fault.toNat else 15, decide (seq ≠ sh.admissionSeq)⟩ →
        exec (.sectionReport p stage seq m fault) s = .next (replied (s.withSheet r.tag { sh with
            stage := next
            preFragment := if st = .pre then some f else sh.preFragment
            washFragment := if st = .wash then some f else sh.washFragment
            rinseFragment := if st = .rinse then some f else sh.rinseFragment
            finalEntry := if next = .final then some s.now else sh.finalEntry
            reference := if next = .final then some s.now else sh.reference }).reconsidered p .sectionReport payload
          .done (.advanced r.tag next f.slip f.measurement f.faultCode))) ∧
      (((if next = .pre ∨ next = .wash then 2 else 1) ≤
          ((s.lane t).filter fun y => decide (y.stage? = some next)).length ∨
        (∃ y ∈ older, ∃ z ∈ [Stage.pre, .wash, .rinse, .final], y.stage? = some z ∧ z.code < next.code)) →
        exec (.sectionReport p stage seq m fault) s =
          .next (({ s with notices := s.notices ||| trackFault t } : State).answered p .sectionReport payload
            .sectionFull (.noRoom r.tag next))))

/-- SAMPLE: the last-sample tick is set, and the rack in FINAL, if there is one, gets its weight times the ticks since
its reference tick, at most 20, with the credit bounded by 16,777,215; the gap flag is set by more than 20 ticks or a
temperature above 120.0 °C, which earns nothing; then readiness is tested while the verdict is absent, and a release
re-evaluates the pending admission. -/
def Obligations.SampleAccruesAndTests : Prop :=
  ∀ (p : Port) (t : Tunnel) (x : BitVec 16) (since : Option Nat) (interval inc : Nat) (r : Rack) (sh sh' : PassSheet)
    (ref : Tick) (s s' : State),
    s.free p (.tunnel t) → since = (s.tunnels.get t).lastSample.map (fun y => min (s.now - y).toNat 65535) →
    s' = { s with tunnels := s.tunnels.set t { s.tunnels.get t with lastSample := some s.now } } →
    (s.finalRack t = none →
      exec (.sample p x) s = .next (s'.answered p .sample (bytesOf 2 x.toNat) .done (.sampled since none))) ∧
    (s.recordLaw → s.finalRack t = some r → r.sheet = some sh → sh.reference = some ref →
      interval = min (s.now - ref).toNat 20 → inc = (if 1200 < x.toNat then 0 else weight x.toNat * interval) →
      sh' = { sh with
        credit := min (sh.credit + inc) 16777215
        gap := sh.gap || decide (20 < (s.now - ref).toNat) || decide (1200 < x.toNat)
        reference := some s.now } →
      ((sh.verdict ≠ none ∨ ¬ sh'.isReady s.config s.now) →
        exec (.sample p x) s = .next ((s'.withSheet r.tag sh').answered p .sample (bytesOf 2 x.toNat) .done
          (.sampled since (some ⟨r.tag, interval, inc, sh'.credit, sh'.gap⟩)))) ∧
      (sh.verdict = none → sh'.isReady s.config s.now →
        exec (.sample p x) s = .next (replied (s'.reevaluated (s'.judgedAt t r sh')) p .sample (bytesOf 2 x.toNat)
          .done (.sampled since (some ⟨r.tag, interval, inc, sh'.credit, sh'.gap⟩)))))

/-- The weight of a valid temperature: 0 below 71.0 °C, else the entry of the fixed table for the remainder of d by 25,
doubled for every whole 25 of d, d being the lesser of the temperature and 96.0 °C less 71.0 °C; each entry is 16
times 2 to the power k/25 rounded to the nearest integer; the weight doubles with every 25 steps. -/
def Obligations.WeightIsTheTable : Prop :=
  ∀ (x d k q : Nat), x ≤ 1200 → d = min x 960 - 710 → k = d % 25 → q = d / 25 →
    (x < 710 → weight x = 0) ∧
    (710 ≤ x → d ≤ 250 ∧ k ≤ 24 ∧ q ≤ 10 ∧ weight x = [16, 16, 17, 17, 18, 18, 19, 19, 20, 21, 21, 22, 22,
      23, 24, 24, 25, 26, 26, 27, 28, 29, 29, 30, 31].getD k 0 * 2 ^ q) ∧
    (weightTable.length = 25) ∧
    (k ≤ 24 → (2 * weightTable.getD k 0 - 1) ^ 25 ≤ 32 ^ 25 * 2 ^ k ∧
      32 ^ 25 * 2 ^ k < (2 * weightTable.getD k 0 + 1) ^ 25) ∧
    (710 ≤ x → x + 25 ≤ 960 → weight (x + 25) = 2 * weight x) ∧
    (weight 710 = 16) ∧ (weight 735 = 32) ∧ (960 ≤ x → weight x = 16384)

/-- The verdict is given by the first of the nine checks that fails, and is PASS when none does. -/
def Obligations.VerdictIsTheFirstFailingCheck : Prop :=
  ∀ (c : Configuration) (sh : PassSheet) (level : Fin 4) (fragments : List Fragment),
    sh.requiredLevel = level.val → fragments = [sh.preFragment, sh.washFragment, sh.rinseFragment].reduceOption →
    formVerdict c sh = (([
      (sh.orderFault, Verdict.orderFault),
      (fragments.any (·.slip), .seqSlip),
      (fragments.any fun f => decide (f.faultCode ≠ 0), .sectionFault),
      (decide ((sh.required.pre = true ∧ sh.preFragment = none) ∨ (sh.required.wash = true ∧ sh.washFragment = none) ∨
        (sh.required.rinse = true ∧ sh.rinseFragment = none)), .missingSection),
      (sh.required.pre && (sh.preFragment.bind (·.measurement)).any fun m => decide (c.preLimit < m), .preHot),
      (sh.required.wash && (sh.washFragment.bind (·.measurement)).all fun m => decide (m < c.washLimit), .washCold),
      (sh.required.rinse && (sh.rinseFragment.bind (·.measurement)).all fun m => decide (m < c.rinseLimit),
        .rinseCold),
      (sh.gap, .interrupted),
      (decide (sh.credit < c.threshold[level]), .creditShort)] : List (Bool × Verdict)).find? (·.1)).elim .pass (·.2)

/-- Nothing reaches an unload table but a rack that stood in FINAL of the same tunnel, and its last outcome there is
PASS: every step that puts a rack in UNLOAD(t) took it from FINAL of t with the verdict PASS. -/
def Obligations.OnlyAPassReachesUnload : Prop :=
  ∀ (c : Instr) (t : Tunnel) (s s' : State) (r' : Rack), s.recordLaw → exec c s = .next s' → r' ∈ s'.racks →
    r'.place = .unload t → (∀ r ∈ s.racks, r.tag = r'.tag → r.place ≠ .unload t) →
    r'.state = .clean ∧ r'.lastOutcome = some (.verdict .pass) ∧
      ∃ r ∈ s.racks, r.tag = r'.tag ∧ r.place = .tunnel t ∧ r.inFinal = true

/-! ### The exit gate -/

/-- EXIT read in order or without a rack it can be of: an unknown tag, and a known one outside the lane while another
rack is in FINAL, WRONG_LANE; no rack in FINAL, EMPTY_SECTION; both with TRACK_FAULT. The rack in FINAL that has been
read already, BUSY. Otherwise it counts as read: without a verdict it waits; with one the release test is made, and
the rack is released with DONE, which re-evaluates the pending admission, or waits at the shut gate. That an EXIT of a
lane member that finds FINAL empty is EMPTY_SECTION is the model's reading (log entry 27). -/
def Obligations.ExitAtTheGate : Prop :=
  ∀ (p : Port) (t : Tunnel) (tag : BitVec 24) (y r : Rack) (sh : PassSheet) (v : Verdict) (d : Destination)
    (cause : Option HoldCause) (s read : State),
    s.free p (.tunnel t) → validTag tag → s.recordLaw →
    s.tunnels.a.deferredExit ≠ some p → s.tunnels.b.deferredExit ≠ some p →
    (s.rack? tag.toNat = none →
      exec (.exit p tag) s = .next (({ s with notices := s.notices ||| trackFault t } : State).answered p .exit
        (tagBytes tag.toNat) .wrongLane)) ∧
    (s.rack? tag.toNat = some y → s.finalRack t = none →
      exec (.exit p tag) s = .next (({ s with notices := s.notices ||| trackFault t } : State).answered p .exit
        (tagBytes tag.toNat) .emptySection)) ∧
    (s.rack? tag.toNat = some y → y.place ≠ .tunnel t → s.finalRack t = some r →
      exec (.exit p tag) s = .next (({ s with notices := s.notices ||| trackFault t } : State).answered p .exit
        (tagBytes tag.toNat) .wrongLane)) ∧
    (s.finalRack t = some r → r.tag = tag.toNat → r.sheet = some sh → sh.exitRequested = true →
      exec (.exit p tag) s = .next (s.answered p .exit (tagBytes tag.toNat) .busy)) ∧
    (s.finalRack t = some r → r.tag = tag.toNat → r.sheet = some sh → sh.exitRequested = false →
      read = ({ s with tunnels := s.tunnels.set t { s.tunnels.get t with deferredExit := some p } } : State).withSheet
        r.tag { sh with exitRequested := true } →
      (sh.verdict = none →
        exec (.exit p tag) s = .next (read.answered p .exit (tagBytes tag.toNat) .wait (.atGate r.tag false))) ∧
      (sh.verdict = some v → s.gateRow t v r.passes = none →
        exec (.exit p tag) s = .next ((read.gateTest t r v none).1.answered p .exit (tagBytes tag.toNat) .wait
          (.atGate r.tag true))) ∧
      (sh.verdict = some v → s.gateRow t v r.passes = some (d, cause) →
        exec (.exit p tag) s = .next (replied (followed (s.releasedFrom t r v d cause, s.closingEnded t r)
          (·.reconsidered)) p .exit (tagBytes tag.toNat) .done (.released v d))))

/-- EXIT of a lane member that is not the one in FINAL: the racks admitted before it are lost to UNKNOWN with
LOST_TRACK, the outstanding EXIT is abandoned, and the rack read stands in FINAL from now with order fault, read and
waiting; TRACK_FAULT is raised, and the pending admission is re-evaluated. -/
def Obligations.ExitOutOfOrder : Prop :=
  ∀ (p : Port) (t : Tunnel) (tag : BitVec 24) (older younger : List Rack) (f r : Rack) (sh : PassSheet) (s : State),
    s.free p (.tunnel t) → validTag tag → s.recordLaw →
    s.tunnels.a.deferredExit ≠ some p → s.tunnels.b.deferredExit ≠ some p →
    s.lane t = older ++ r :: younger → r.tag = tag.toNat → r.sheet = some sh → s.finalRack t = some f → f.tag ≠ r.tag →
    exec (.exit p tag) s = .next (replied (followed (({ s with
        racks := (s.racks.filter fun y => decide (y.tag ∉ older.map (·.tag))) ++ older.map fun y => { y with
          state := .held, place := .unknown, since := s.now, sheet := none, lastOutcome := some (.hold .lostTrack) }
        tunnels := s.tunnels.set t { s.tunnels.get t with deferredExit := some p, gateShut := false }
        notices := s.notices ||| trackFault t } : State).withSheet r.tag { sh with
          stage := .final, finalEntry := some s.now, reference := some s.now, orderFault := true
          exitRequested := true }, match (s.tunnels.get t).deferredExit with
        | some p' => [(p', .exitAbandoned f.tag)]
        | none => []) (·.reconsidered)) p .exit (tagBytes tag.toNat) .wait (.atGate r.tag false))

/-- The dwell expiries of the rack in FINAL whose verdict is absent: once its dwell has reached the minimum dwell, or
the maximum dwell in force, readiness is tested, and a ready rack gets its verdict and, when read, the release test; a
release re-evaluates the pending admission. Nothing happens before, or without such a rack. -/
def Obligations.DwellExpiries : Prop :=
  ∀ (c : Instr) (t : Tunnel) (limit : Nat) (r : Rack) (sh : PassSheet) (entry : Tick) (s : State),
    s.rstLow = false → s.recordLaw →
    ((c = .minimumDwellExpiry t ∧ limit = s.config.minDwell) ∨
      (c = .maximumDwellExpiry t ∧ limit = max s.config.maxDwell s.config.minDwell)) →
    (s.finalRack t = none → exec c s = .next s) ∧
    (s.finalRack t = some r → r.sheet = some sh → sh.verdict ≠ none → exec c s = .next s) ∧
    (s.finalRack t = some r → r.sheet = some sh → sh.verdict = none → sh.finalEntry = some entry →
      ((s.now - entry).toNat < limit ∨ ¬ sh.isReady s.config s.now → exec c s = .next s) ∧
      (limit ≤ (s.now - entry).toNat → sh.isReady s.config s.now →
        exec c s = .next (ended (s.reevaluated (s.judgedAt t r sh)))))

/-- A place that gains room makes a shut gate test release again: an EMPTIED that takes a rack off the full unload table
of t releases the rack that waits in FINAL with PASS, and GRANT(EXIT) goes to the port of its EXIT. A rack that a
RETIRE, or a RELOCATE between the two, takes out of COLLECT or HOLD makes both shut gates test again, A before B, so
that A's rack takes the room when one alone finds room; a release re-evaluates the pending admission. -/
def Obligations.RoomReopensAShutGate : Prop :=
  ∀ (p q : Port) (t : Tunnel) (tag : BitVec 24) (y r : Rack) (sh : PassSheet) (x : Transfer) (rb : Rack)
    (shb : PassSheet) (va vb : Verdict) (g : Target) (s s' : State),
    validTag tag → s.recordLaw → s.rack? tag.toNat = some y →
    (s.free p (.unload t) → y.place = .unload t → y.serviceDue = false → s.config.serviceLimitOf y.cls = 0 →
      s.count .returnLoop < 32 → s.count (.unload t) ≤ 3 → (s.tunnels.get t).gateShut = true →
      (s.tunnels.get t).deferredExit = some q → s.finalRack t = some r → r.sheet = some sh → sh.verdict = some .pass →
      sh.exitRequested = true → q ≠ p → s.ports[q].transmit.length < 32 →
      ∃ s'', exec (.emptied p tag) s = .next s'' ∧
        s''.rack? r.tag = some { r with
          state := .clean, place := .unload t, since := s.now, sheet := none, lastOutcome := some (.verdict .pass) } ∧
        (s''.tunnels.get t).gateShut = false ∧ (s''.tunnels.get t).deferredExit = none ∧
        (s.ports[q].transmit ++ [⟨.loose, .message (.grantExit r.tag .pass (.unload t))⟩]) <+:
          s''.ports[q].transmit) ∧
    (s.rstLow = false → (y.place = .collect ∨ y.place = .hold) → s.pairedLaw →
      s.pendingAdmission.map (·.tag) ≠ some tag.toNat →
      s.tunnels.a.gateShut = true → s.finalRack .a = some r → r.sheet = some sh → sh.verdict = some va →
      sh.exitRequested = true → s.tunnels.b.gateShut = true → s.finalRack .b = some rb → rb.sheet = some shb →
      shb.verdict = some vb → shb.exitRequested = true →
      (x.isWhole 3 → s' = { s with racks := s.racks.filter (·.tag ≠ y.tag) } → exec (.retire x tag) s =
        .next ((ended (s'.reevaluated (followed (s'.gateTest .a r va s.tunnels.a.deferredExit)
          (·.gateTest .b rb vb s.tunnels.b.deferredExit)))).respond x ⟨.done, .alone⟩)) ∧
      (x.isWhole 4 → ((y.place = .hold ∧ g = .collect) ∨ (y.place = .collect ∧ g = .hold)) → ¬ s.fullTarget g →
        s' = s.relocation y g →
        exec (.supervisorRelocate x tag (BitVec.ofNat 8 (targetNumber g))) s =
          .next ((ended (s'.reevaluated (followed (s'.gateTest .a r va s.tunnels.a.deferredExit)
            (·.gateTest .b rb vb s.tunnels.b.deferredExit)))).respond x ⟨.done, .alone⟩)))

/-! ### Windows and return -/

/-- SIGHT of a known rack: BAD_STATE unless EMPTY; on RETURN routed to the window, it is taken on its route; routed
elsewhere, NOT_YOURS with that window; unassigned on RETURN or in STORE, it is taken against the window's oldest
entry after the class and demand tests; BAD_PLACE anywhere else. It goes to FILL as FILLING when FILL is free, else
to SPARE. -/
def Obligations.SightOfAKnownRack : Prop :=
  ∀ (p : Port) (w w' : Window) (wb : Byte) (tag : BitVec 24) (r r' : Rack) (spare : Bool) (payload : List Byte)
    (s : State),
    s.free p .windows → validTag tag → s.rack? tag.toNat = some r → s.recordLaw → wb.toNat = w.val →
    payload = wb :: tagBytes tag.toNat →
    r' = { r with
      state := if spare then .empty else .filling, place := if spare then .windowSpare w else .windowFill w
      since := s.now, destination := none } →
    (r.state ≠ .empty → exec (.sight p wb tag) s = .next (s.answered p .sight payload .badState)) ∧
    (r.state = .empty → r.place ≠ .returnLoop → r.place ≠ .store →
      exec (.sight p wb tag) s = .next (s.answered p .sight payload .badPlace)) ∧
    (r.place = .returnLoop → r.destination = some w' → w' ≠ w →
      exec (.sight p wb tag) s = .next (s.answered p .sight payload .notYours (.window w'))) ∧
    ((r.place = .store ∨ (r.place = .returnLoop ∧ r.destination = none)) → r.cls ≠ s.windows[w].cls →
      exec (.sight p wb tag) s = .next (s.answered p .sight payload .classMismatch)) ∧
    ((r.place = .store ∨ (r.place = .returnLoop ∧ r.destination = none)) → r.cls = s.windows[w].cls →
      (s.windows[w].mode = .stop ∨ s.entriesOf w = []) →
      exec (.sight p wb tag) s = .next (s.answered p .sight payload .noDemand)) ∧
    ((if spare then s.count (.windowFill w) ≠ 0 ∧ s.count (.windowSpare w) = 0 else s.count (.windowFill w) = 0) →
      (r.place = .returnLoop → r.destination = some w →
        exec (.sight p wb tag) s = .next (({ s with racks := rejoined s.racks r' } : State).answered p .sight payload
          .done (.position spare))) ∧
      ((r.place = .store ∨ (r.place = .returnLoop ∧ r.destination = none)) → r.cls = s.windows[w].cls →
        s.windows[w].mode ≠ .stop → s.entriesOf w ≠ [] →
        exec (.sight p wb tag) s = .next (({ s with
          racks := rejoined s.racks r', demand := s.demand.eraseP (·.window = w) } : State).answered p .sight payload
          .done (.position spare))))

/-- DISPATCH: BAD_STATE with no rack at FILL, COLLECT_FULL when COLLECT holds 24 less the recirculation reserve; else
the rack at FILL goes to COLLECT as SOILED with the load code given and a new soil cycle, the rack at SPARE takes its
place, an entry is posted, which the rack that has waited longest on RETURN may take, and the answer names both. -/
def Obligations.DispatchMovesToCollect : Prop :=
  ∀ (p : Port) (w : Window) (wb load : Byte) (l : Option (Fin 8)) (r r' : Rack) (s gone : State),
    s.free p .windows → wb.toNat = w.val →
    load.toNat = (l.map (·.val)).getD 255 →
    r' = { r with state := .soiled, place := .collect, since := s.now, loadCode := l, passes := 0 } →
    gone = ({ s with racks := rejoined s.racks r' } : State).vacated r →
    (s.fillRack w = none → exec (.dispatch p wb load) s = .next (s.answered p .dispatch [wb, load] .badState)) ∧
    (s.fillRack w = some r → 24 ≤ s.count .collect + s.config.recircReserve →
      exec (.dispatch p wb load) s = .next (s.answered p .dispatch [wb, load] .collectFull)) ∧
    (s.fillRack w = some r → s.count .collect + s.config.recircReserve < 24 → s.pairedLaw →
      exec (.dispatch p wb load) s = .next (replied gone.paired p .dispatch [wb, load] .done
        (.dispatched r.tag ((gone.fillRack w).map (·.tag)))))

/-- MODE and WINDOW_MODE set a window's mode: a window that enters STOP loses its entries and its routes, with
ROUTE(tag, none) for each route in the order of RETURN; one that leaves STOP has entries posted up to a sum of 2; then
the racks that wait on RETURN are paired, oldest first. Nothing else about any rack changes but its destination on
RETURN. Both answer the mode; the supervisor's refuses a window above 5 and a mode above 2. -/
def Obligations.WindowModes : Prop :=
  ∀ (p : Port) (w : Window) (m : WindowMode) (wb mb : Byte) (x : Transfer) (s moded : State) (y : Made),
    s.free p .windows → x.isWhole 2 →
    moded = { s with
      windows := s.windows.set w { s.windows[w] with mode := m }
      demand := if m = .stop then s.demand.filter (·.window ≠ w)
        else if s.windows[w].mode = .stop then s.demand ++ List.replicate (2 - s.windowSum w) ⟨w, s.now⟩
        else s.demand } →
    y = (if m = .stop then followed (moded.cleared w fun _ => true) (·.paired) else moded.paired) →
    ((5 < wb.toNat ∨ 2 < mb.toNat) →
      exec (.windowMode x wb mb) s = .next (s.respond x ⟨.badValue, .alone⟩)) ∧
    (wb.toNat = w.val → mb.toNat = (match m with
        | .accept => 0
        | .pause => 1
        | .stop => 2) →
      (s.windows[w].mode = m → exec (.mode p wb mb) s = .next (s.answered p .mode [wb, mb] .done (.mode m)) ∧
        exec (.windowMode x wb mb) s = .next (s.respond x ⟨.done, .windowMode m⟩)) ∧
      (s.windows[w].mode ≠ m → s.pairedLaw →
        exec (.mode p wb mb) s = .next (replied y p .mode [wb, mb] .done (.mode m)) ∧
        exec (.windowMode x wb mb) s = .next ((ended y).respond x ⟨.done, .windowMode m⟩)) ∧
      (s.recordLaw → ∃ s' s'', exec (.mode p wb mb) s = .next s' ∧ exec (.windowMode x wb mb) s = .next s'' ∧
        s'.windows = moded.windows ∧ s''.windows = moded.windows ∧ s'.racks = s''.racks ∧ s'.demand = s''.demand ∧
        unrouted s'.racks = unrouted s.racks ∧
        (s.ports[p].transmit ++ [⟨.head, .answer ⟨0x92, .done, .mode m⟩⟩]) <+: s'.ports[p].transmit ∧
        s''.response = some ⟨.done, .windowMode m⟩ ∧
        (m = .stop → s.windows[w].mode ≠ .stop → s'.entriesOf w = [] ∧ s'.routedTo w = []) ∧
        (∀ r ∈ s.racks, r.destination ≠ none → r.destination ≠ some w → r ∈ s'.racks)))

/-- WINDOW_CLASS sets a window's class: routes to it of racks of another class are cleared, with ROUTE(tag, none) in the
order of RETURN and one entry posted for each, unless the window is in STOP; those of its new class stay; then the
racks that wait on RETURN are paired, oldest first. Nothing else about any rack changes but its destination. A window
above 5 and a class above 3 are refused. -/
def Obligations.WindowClasses : Prop :=
  ∀ (w : Window) (k : RackClass) (wb kb : Byte) (x : Transfer) (s classed : State),
    s.rstLow = false → x.isWhole 2 →
    classed = { s with
      windows := s.windows.set w { s.windows[w] with cls := k }
      demand := if s.windows[w].mode = .stop then s.demand
        else s.demand ++ List.replicate ((s.routedTo w).filter (·.cls ≠ k)).length ⟨w, s.now⟩ } →
    ((5 < wb.toNat ∨ 3 < kb.toNat) →
      exec (.windowClass x wb kb) s = .next (s.respond x ⟨.badValue, .alone⟩)) ∧
    (wb.toNat = w.val → kb.toNat = (match k with
        | .plate => 0
        | .cup => 1
        | .cutlery => 2
        | .tray => 3) →
      (s.windows[w].cls = k → exec (.windowClass x wb kb) s = .next (s.respond x ⟨.done, .windowClass k⟩)) ∧
      (s.windows[w].cls ≠ k → s.recordLaw → exec (.windowClass x wb kb) s =
        .next ((ended (followed (classed.cleared w (·.cls ≠ k)) (·.paired))).respond x ⟨.done, .windowClass k⟩)) ∧
      (s.recordLaw → s.windows[w].cls ≠ k → ∃ s', exec (.windowClass x wb kb) s = .next s' ∧
        s'.windows = classed.windows ∧ s'.response = some ⟨.done, .windowClass k⟩ ∧
        unrouted s'.racks = unrouted s.racks ∧ (∀ r ∈ s'.routedTo w, r.cls = k) ∧
        (∀ r ∈ s.racks, r.destination ≠ none → (r.destination = some w → r.cls = k) → r ∈ s'.racks)))

/-- The entry that pairing gives a rack: among the entries of windows in ACCEPT with the rack's class, the oldest one of
a starved window, and the oldest one when no such window is starved. -/
def Obligations.PairingServesStarvedWindowsFirst : Prop :=
  ∀ (r : Rack) (before after : List DemandEntry) (d : DemandEntry) (s : State),
    s.demand = before ++ d :: after → s.windows[d.window].mode = .accept → s.windows[d.window].cls = r.cls →
    (s.occupied d.window = 0 →
      (∀ x ∈ before, s.windows[x.window].mode = .accept → s.windows[x.window].cls = r.cls → s.occupied x.window ≠ 0) →
      s.pairingEntry r = some d) ∧
    ((∀ x ∈ before, ¬ (s.windows[x.window].mode = .accept ∧ s.windows[x.window].cls = r.cls)) →
      (∀ x ∈ s.demand, s.windows[x.window].mode = .accept → s.windows[x.window].cls = r.cls →
        s.occupied x.window ≠ 0) →
      s.pairingEntry r = some d)

/-- EMPTIED of a known rack: BAD_PLACE unless it is on the unload table of the port's tunnel. A cycle is counted, at
most 65,535, and the rack is due for service from its class's limit on, unless that is 0. A due rack goes to HOLD with
SERVICE_DUE when HOLD has room; a rack that is not due, and a due one that finds HOLD full, goes to RETURN; SERVICE_DUE
is raised for a due rack. Then the racks that wait on RETURN are paired, oldest first, and the gate of the table that
has room again tests again. With no room the report is refused, and nothing changes. -/
def Obligations.EmptiedByTheTable : Prop :=
  ∀ (p : Port) (u : Tunnel) (tag : BitVec 24) (cycles : Nat) (due : Bool) (r held back : Rack) (s noted : State),
    s.free p (.unload u) → validTag tag → s.rack? tag.toNat = some r →
    cycles = (if r.cycles < 65535 then r.cycles + 1 else 65535) →
    due = (r.serviceDue || decide (s.config.serviceLimitOf r.cls ≠ 0 ∧ s.config.serviceLimitOf r.cls ≤ cycles)) →
    noted = { s with notices := if due then s.notices ||| 0x1000 else s.notices } →
    held = { r with
      state := .held, place := .hold, since := s.now, cycles := cycles, serviceDue := true, passes := 0
      loadCode := none, lastOutcome := some (.hold .serviceDue) } →
    back = { r with
      state := .empty, place := .returnLoop, since := s.now, cycles := cycles, serviceDue := due, passes := 0
      loadCode := none } →
    (r.place ≠ .unload u →
      exec (.emptied p tag) s = .next (s.answered p .emptied (tagBytes tag.toNat) .badPlace)) ∧
    (r.place = .unload u → due = true → s.count .hold < 8 → s.pairedLaw →
      exec (.emptied p tag) s = .next (replied (({ noted with racks := rejoined s.racks held } :
        State).holdNoted.concluded (.unload u)) p .emptied (tagBytes tag.toNat) .done (.emptied .hold cycles true))) ∧
    (r.place = .unload u → (due = false ∨ 8 ≤ s.count .hold) → s.count .returnLoop < 32 → s.recordLaw →
      exec (.emptied p tag) s = .next (replied (({ noted with racks := rejoined s.racks back } : State).concluded
        (.unload u)) p .emptied (tagBytes tag.toNat) .done (.emptied .returnLoop cycles due))) ∧
    (r.place = .unload u → (due = false ∨ 8 ≤ s.count .hold) → 32 ≤ s.count .returnLoop →
      exec (.emptied p tag) s = .next (s.answered p .emptied (tagBytes tag.toNat) .returnFull))

/-! ### Configuration, notices, the buffers -/

/-- READ_CONFIG answers the stored value of every item named, and BAD_VALUE for a number that is no item. WRITE_CONFIG
writes every pair or none: BAD_VALUE, with nothing changed, for a number that is no item and for an enumerated value
outside the item's set; else each item named has the last value given for it, at the nearer bound of its range, every
other item its old value, and the response gives the values stored; that an item named twice shows its last value at
both places is the model's reading (log entry 20). What one written item makes follow: a threshold tests readiness of
both racks in FINAL, A before B; a dwell limit that comes down to or below a dwell does so there (for either limit in
force, log entry 21); that A comes before B there is the model's choice, no rule orders the two (log entry 4); the lost
timeout expires the records in UNKNOWN that it makes due; the spacing, N, W and the section enables re-evaluate the
pending admission, and so does a release; the idle time lets an idle time now reached expire; a role is in
RoleChangeCancelsDeferredRequests; any other item makes nothing follow. -/
def Obligations.ConfigReadsAndWrites : Prop :=
  ∀ (x : Transfer) (items : List (BitVec 16)) (pairs : List (BitVec 16 × BitVec 32)) (n : BitVec 16) (v : BitVec 32)
    (i : Item) (c' : Configuration) (s s' : State), s.rstLow = false →
    (1 ≤ items.length → items.length ≤ 64 → x.isWhole (2 * items.length) → (∀ n ∈ items, (itemOf n.toNat).isSome) →
      exec (.readConfig x items) s = .next (s.respond x ⟨.done, .config
        (items.map fun n => (n.toNat, ((itemOf n.toNat).map s.config.get).getD 0))⟩)) ∧
    (1 ≤ items.length → items.length ≤ 64 → x.isWhole (2 * items.length) → (∃ n ∈ items, itemOf n.toNat = none) →
      exec (.readConfig x items) s = .next (s.respond x ⟨.badValue, .alone⟩)) ∧
    (1 ≤ pairs.length → pairs.length ≤ 64 → x.isWhole (6 * pairs.length) →
      (∃ e ∈ pairs, (itemOf e.1.toNat).bind (fun i => i.stored e.2.toNat) = none) →
      exec (.writeConfig x pairs) s = .next (s.respond x ⟨.badValue, .alone⟩)) ∧
    (1 ≤ pairs.length → pairs.length ≤ 64 → x.isWhole (6 * pairs.length) →
      (∀ e ∈ pairs, (itemOf e.1.toNat).bind (fun i => i.stored e.2.toNat) ≠ none) →
      ∃ t, exec (.writeConfig x pairs) s = .next t ∧
        (∀ i : Item, t.config.get i = ((pairs.reverse.find? fun e => decide (itemOf e.1.toNat = some i)).bind
          fun e => i.stored e.2.toNat).getD (s.config.get i)) ∧
        t.response = some ⟨.done, .config
          (pairs.map fun e => (e.1.toNat, ((itemOf e.1.toNat).map t.config.get).getD 0))⟩) ∧
    (x.isWhole 6 → itemOf n.toNat = some i → s.config.put i v.toNat = some c' → (∀ p, i ≠ .role p) → s.recordLaw →
      s' = { s with config := c' } →
      exec (.writeConfig x [(n, v)]) s = .next ((ended (match i with
        | .threshold _ => s'.reevaluated (followed (s'.readied .a) (·.readied .b))
        | .minDwell | .maxDwell =>
          let crossed := fun t => s'.dwellCrossed t s.config.minDwell c'.minDwell ∨
            s'.dwellCrossed t (max s.config.maxDwell s.config.minDwell) (max c'.maxDwell c'.minDwell)
          s'.reevaluated (followed (if crossed .a then s'.readied .a else (s', []))
            fun z => if crossed .b then z.readied .b else (z, []))
        | .lostTimeout => s'.lostExpired
        | .spacing | .boosterCount | .boosterWindow | .enable _ _ => s'.reconsidered
        | .idleTime => s'.idledBoth
        | _ => (s', []))).respond x ⟨.done, .config [(n.toNat, c'.get i)]⟩))

/-- A WRITE_CONFIG that gives a port another role discards the request that waits behind the head, leaves the head to be
answered, and cancels without a message the pending admission of the port and its deferred EXITs: the rack is no
longer read, the gate not shut, the verdict kept. No message is sent but for an idle time that the pending admission
held up. That the waiting request is discarded and not served under the new role is the model's reading (log entry
28). -/
def Obligations.RoleChangeCancelsDeferredRequests : Prop :=
  ∀ (p : Port) (role : Role) (x : Transfer) (s s' : State), s.rstLow = false → x.isWhole 6 → s.recordLaw →
    s.config.roles[p] ≠ role →
    s' = (({ s with
      config := { s.config with roles := s.config.roles.set p role }
      ports := s.ports.set p { s.ports[p] with queue := s.ports[p].queue.take 1 }
      pendingAdmission := if s.pendingAdmission.map (·.port) = some p then none else s.pendingAdmission } :
        State).exitCancelled p .a).exitCancelled p .b →
    exec (.writeConfig x [(BitVec.ofNat 16 (40 + p.val), BitVec.ofNat 32 role.code)]) s =
      .next ((ended (if s.pendingAdmission.map (·.port) = some p then s'.idledBoth else (s', []))).respond x
        ⟨.done, .config [(40 + p.val, role.code)]⟩) ∧
    (∀ u : Tunnel, (s'.tunnels.get u).deferredExit ≠ some p) ∧
    s'.racks.map (fun r => (r.tag, r.place, r.sheet.bind (·.verdict))) =
      s.racks.map fun r => (r.tag, r.place, r.sheet.bind (·.verdict))

/-- READ_NOTICES returns the set, the mask and the clear mode, and in CLEAR_ON_READ takes the notices it returns out of
the set; CLEAR_NOTICES takes the notices it names out of the set and returns what is left. ATTN is asserted while the
set holds a notice that the mask does not name, and RST is high. RDY is asserted while the response buffer holds a
response, and RST is high. -/
def Obligations.NoticesAndOutputLines : Prop :=
  ∀ (x : Transfer) (named : BitVec 16) (s : State),
    (s.attn = true ↔ s.rstLow = false ∧ ∃ n < 16, s.notices.getLsbD n = true ∧ s.config.mask.getLsbD n = false) ∧
    (s.rdy = true ↔ s.rstLow = false ∧ s.response ≠ none) ∧
    (s.rstLow = false → x.isWhole 0 → s.config.clearMode = .writeBack →
      exec (.readNotices x) s = .next (s.respond x ⟨.done, .notices s.notices s.config.mask .writeBack⟩)) ∧
    (s.rstLow = false → x.isWhole 0 → s.config.clearMode = .clearOnRead →
      exec (.readNotices x) s = .next (({ s with notices := 0 } : State).respond x
        ⟨.done, .notices s.notices s.config.mask .clearOnRead⟩)) ∧
    (s.rstLow = false → x.isWhole 2 →
      exec (.clearNotices x named) s = .next (({ s with notices := s.notices &&& ~~~named } : State).respond x
        ⟨.done, .noticeSet (s.notices &&& ~~~named)⟩))

/-- LINE_RESTART empties the tracking state and keeps the configuration, the window classes and modes, the identity and
the tick: no record, two entries for every window not in STOP, both tunnels OFF, no admission, no notice but
IDENTITY_FALLBACK where the identity is the fallback, idle ports. TUNNEL_STATE(OFF) is sent for a tunnel that was not
OFF. A frame that an earlier LINE_RESTART kept has begun and stays; whether any other first frame of a port has begun,
and so stays, is a free value (log entry 8). -/
def Obligations.LineRestartEmptiesTheLine : Prop :=
  ∀ (x : Transfer) (s restarted : State), s.rstLow = false → x.isWhole 0 →
    restarted = { s with
      racks := []
      demand := [0, 1, 2, 3, 4, 5].flatMap fun w : Window =>
        if s.windows[w].mode = .stop then [] else [⟨w, s.now⟩, ⟨w, s.now⟩]
      tunnels := ⟨State.reset.tunnels.a, State.reset.tunnels.b⟩
      boosterHistory := [], lastAdmission := ⟨none, none⟩, lastChosen := none, pendingAdmission := none
      notices := if s.fallback then 0x8000 else 0
      ports := Vector.ofFn fun p : Port => { s.ports[p] with
        assembly := [], queue := [], busyPending := false
        transmit := ((s.ports[p].transmit.take 1).filter fun f =>
          f.use = .begun ∨ Config.frameStarted s.draws p.val).map fun f => { f with use := .begun } }
      draws := s.draws + 1 } →
    exec (.lineRestart x) s = .next ((restarted.deliver
      ((if s.tunnels.a.state = .off then [] else s.toRole (.tunnel .a) (.tunnelState .a .off false)) ++
        (if s.tunnels.b.state = .off then [] else s.toRole (.tunnel .b) (.tunnelState .b .off false)))).respond x
      ⟨.done, .alone⟩)

/-- FETCH clocks out 0x00, then the response, or NO_RESPONSE and a zero length from an empty buffer, then 0x00, and
empties the buffer. A transaction whose bytes or length do not fit its command, or whose code is none, is refused with
BAD_VALUE and changes nothing else, and so is a READ_CONFIG or WRITE_CONFIG of no item or of more than 64; a zero-byte
transaction is ignored. That MISO is kept for an observer is the model's own (log entry 9). Code 0x09 is here the
spelling of a TUNNEL with an action above 3; that its BAD_VALUE carries its status alone, and not the tunnel's state
that R64 has a TUNNEL response carry, is the model's choice (log entry 7). -/
def Obligations.FetchAndBadTransactions : Prop :=
  ∀ (c : Instr) (x : Transfer) (n clocked : Nat) (code : Byte) (items : List (BitVec 16))
    (pairs : List (BitVec 16 × BitVec 32)) (s : State), s.rstLow = false →
    (clocked ≠ 0 → ∃ t, exec (.fetch clocked) s = .next t ∧ t.response = none ∧ t.miso.length = clocked ∧
      { t with response := s.response, miso := s.miso, commandBuffer := s.commandBuffer } = s ∧
      ∀ k < clocked, t.miso.getD k 0xFF = if k = 0 then 0 else (match s.response with
        | some r => BitVec.ofNat 8 r.status.code :: BitVec.ofNat 8 (r.body.bytes.length / 256) ::
            BitVec.ofNat 8 r.body.bytes.length :: r.body.bytes
        | none => [0x0F, 0, 0]).getD (k - 1) 0) ∧
    (exec (.fetch 0) s = .next s) ∧
    (c.transfer = some (x, n) → x.clocked ≠ 0 → ¬ x.isWhole n →
      exec c s = .next (s.respond x ⟨.badValue, .alone⟩)) ∧
    ((items = [] ∨ 64 < items.length) → x.clocked ≠ 0 →
      exec (.readConfig x items) s = .next (s.respond x ⟨.badValue, .alone⟩)) ∧
    ((pairs = [] ∨ 64 < pairs.length) → x.clocked ≠ 0 →
      exec (.writeConfig x pairs) s = .next (s.respond x ⟨.badValue, .alone⟩)) ∧
    (x.clocked ≠ 0 → exec (.unknownCommandCode x code) s = .next (s.respond x ⟨.badValue, .alone⟩)) ∧
    (x.clocked = 0 → exec (.unknownCommandCode x code) s = .next s) ∧
    (c.transfer = some (x, n) → x.clocked = 0 → exec c s = .next s)
end

