-- ==== Sys2Proof/Laws/State.lean ====
section
/-! SUPPORT. One lemma per field per update, each true by unfolding, so that no later proof unfolds a record update;
and the accessors of what the part holds once per tunnel. -/

namespace Sys2Proof

@[simp] theorem PerTunnel.get_set_same {α : Type} (x : PerTunnel α) (t : Tunnel) (v : α) : (x.set t v).get t = v := by
  cases t <;> rfl

@[simp] theorem PerTunnel.get_set_other {α : Type} (x : PerTunnel α) (t : Tunnel) (v : α) :
    (x.set t v).get t.other = x.get t.other := by
  cases t <;> rfl

@[simp] theorem PerTunnel.set_set {α : Type} (x : PerTunnel α) (t : Tunnel) (v w : α) :
    (x.set t v).set t w = x.set t w := by
  cases t <;> rfl

@[simp] theorem PerTunnel.set_get {α : Type} (x : PerTunnel α) (t : Tunnel) : x.set t (x.get t) = x := by
  cases t <;> rfl

@[simp] theorem Tunnel.other_other (t : Tunnel) : t.other.other = t := by cases t <;> rfl

theorem Tunnel.other_ne (t : Tunnel) : t.other ≠ t := by cases t <;> decide

namespace Machine

@[simp] theorem State.event_toState (s : State) : s.event.toState = s := rfl

@[simp] theorem State.modifyPort_same (s : State) (p : Port) (f : PortState → PortState) :
    (s.modifyPort p f).ports[p] = f s.ports[p] := by
  simp [State.modifyPort]

theorem State.modifyPort_other (s : State) (p q : Port) (f : PortState → PortState) (h : p ≠ q) :
    (s.modifyPort p f).ports[q] = s.ports[q] := by
  have h' : p.val ≠ q.val := fun e => h (Fin.ext e)
  simp [State.modifyPort, Fin.getElem_fin, Vector.getElem_set_ne _ _ h']

@[simp] theorem State.modifyPort_modifyPort (s : State) (p : Port) (f g : PortState → PortState) :
    (s.modifyPort p f).modifyPort p g = s.modifyPort p (g ∘ f) := by
  simp [State.modifyPort]

/-! `State.raise` sets one notice. -/

@[simp] theorem State.raise_pending (s : State) (n : Notice) : (s.raise n).pending = s.pending := rfl
@[simp] theorem State.raise_rstLow (s : State) (n : Notice) : (s.raise n).rstLow = s.rstLow := rfl
@[simp] theorem State.raise_straps (s : State) (n : Notice) : (s.raise n).straps = s.straps := rfl
@[simp] theorem State.raise_identity (s : State) (n : Notice) : (s.raise n).identity = s.identity := rfl
@[simp] theorem State.raise_fallback (s : State) (n : Notice) : (s.raise n).fallback = s.fallback := rfl
@[simp] theorem State.raise_divisor (s : State) (n : Notice) : (s.raise n).divisor = s.divisor := rfl
@[simp] theorem State.raise_now (s : State) (n : Notice) : (s.raise n).now = s.now := rfl
@[simp] theorem State.raise_config (s : State) (n : Notice) : (s.raise n).config = s.config := rfl
@[simp] theorem State.raise_racks (s : State) (n : Notice) : (s.raise n).racks = s.racks := rfl
@[simp] theorem State.raise_windows (s : State) (n : Notice) : (s.raise n).windows = s.windows := rfl
@[simp] theorem State.raise_demand (s : State) (n : Notice) : (s.raise n).demand = s.demand := rfl
@[simp] theorem State.raise_tunnels (s : State) (n : Notice) : (s.raise n).tunnels = s.tunnels := rfl
@[simp] theorem State.raise_boosterHistory (s : State) (n : Notice) : (s.raise n).boosterHistory = s.boosterHistory := rfl
@[simp] theorem State.raise_lastAdmission (s : State) (n : Notice) : (s.raise n).lastAdmission = s.lastAdmission := rfl
@[simp] theorem State.raise_lastChosen (s : State) (n : Notice) : (s.raise n).lastChosen = s.lastChosen := rfl
@[simp] theorem State.raise_pendingAdmission (s : State) (n : Notice) : (s.raise n).pendingAdmission = s.pendingAdmission := rfl
@[simp] theorem State.raise_ports (s : State) (n : Notice) : (s.raise n).ports = s.ports := rfl
@[simp] theorem State.raise_notices (s : State) (n : Notice) : (s.raise n).notices = s.notices ||| n.bit := rfl
@[simp] theorem State.raise_commandBuffer (s : State) (n : Notice) : (s.raise n).commandBuffer = s.commandBuffer := rfl
@[simp] theorem State.raise_response (s : State) (n : Notice) : (s.raise n).response = s.response := rfl
@[simp] theorem State.raise_miso (s : State) (n : Notice) : (s.raise n).miso = s.miso := rfl
@[simp] theorem State.raise_draws (s : State) (n : Notice) : (s.raise n).draws = s.draws := rfl

/-! `State.clearNotices` takes notices out. -/

@[simp] theorem State.clearNotices_pending (s : State) (named : BitVec 16) : (s.clearNotices named).pending = s.pending := rfl
@[simp] theorem State.clearNotices_rstLow (s : State) (named : BitVec 16) : (s.clearNotices named).rstLow = s.rstLow := rfl
@[simp] theorem State.clearNotices_straps (s : State) (named : BitVec 16) : (s.clearNotices named).straps = s.straps := rfl
@[simp] theorem State.clearNotices_identity (s : State) (named : BitVec 16) : (s.clearNotices named).identity = s.identity := rfl
@[simp] theorem State.clearNotices_fallback (s : State) (named : BitVec 16) : (s.clearNotices named).fallback = s.fallback := rfl
@[simp] theorem State.clearNotices_divisor (s : State) (named : BitVec 16) : (s.clearNotices named).divisor = s.divisor := rfl
@[simp] theorem State.clearNotices_now (s : State) (named : BitVec 16) : (s.clearNotices named).now = s.now := rfl
@[simp] theorem State.clearNotices_config (s : State) (named : BitVec 16) : (s.clearNotices named).config = s.config := rfl
@[simp] theorem State.clearNotices_racks (s : State) (named : BitVec 16) : (s.clearNotices named).racks = s.racks := rfl
@[simp] theorem State.clearNotices_windows (s : State) (named : BitVec 16) : (s.clearNotices named).windows = s.windows := rfl
@[simp] theorem State.clearNotices_demand (s : State) (named : BitVec 16) : (s.clearNotices named).demand = s.demand := rfl
@[simp] theorem State.clearNotices_tunnels (s : State) (named : BitVec 16) : (s.clearNotices named).tunnels = s.tunnels := rfl
@[simp] theorem State.clearNotices_boosterHistory (s : State) (named : BitVec 16) : (s.clearNotices named).boosterHistory = s.boosterHistory := rfl
@[simp] theorem State.clearNotices_lastAdmission (s : State) (named : BitVec 16) : (s.clearNotices named).lastAdmission = s.lastAdmission := rfl
@[simp] theorem State.clearNotices_lastChosen (s : State) (named : BitVec 16) : (s.clearNotices named).lastChosen = s.lastChosen := rfl
@[simp] theorem State.clearNotices_pendingAdmission (s : State) (named : BitVec 16) : (s.clearNotices named).pendingAdmission = s.pendingAdmission := rfl
@[simp] theorem State.clearNotices_ports (s : State) (named : BitVec 16) : (s.clearNotices named).ports = s.ports := rfl
@[simp] theorem State.clearNotices_notices (s : State) (named : BitVec 16) : (s.clearNotices named).notices = s.notices &&& ~~~named := rfl
@[simp] theorem State.clearNotices_commandBuffer (s : State) (named : BitVec 16) : (s.clearNotices named).commandBuffer = s.commandBuffer := rfl
@[simp] theorem State.clearNotices_response (s : State) (named : BitVec 16) : (s.clearNotices named).response = s.response := rfl
@[simp] theorem State.clearNotices_miso (s : State) (named : BitVec 16) : (s.clearNotices named).miso = s.miso := rfl
@[simp] theorem State.clearNotices_draws (s : State) (named : BitVec 16) : (s.clearNotices named).draws = s.draws := rfl

/-! `State.modifyPort` changes the ports alone. -/

@[simp] theorem State.modifyPort_pending (s : State) (p : Port) (f : PortState → PortState) : (s.modifyPort p f).pending = s.pending := rfl
@[simp] theorem State.modifyPort_rstLow (s : State) (p : Port) (f : PortState → PortState) : (s.modifyPort p f).rstLow = s.rstLow := rfl
@[simp] theorem State.modifyPort_straps (s : State) (p : Port) (f : PortState → PortState) : (s.modifyPort p f).straps = s.straps := rfl
@[simp] theorem State.modifyPort_identity (s : State) (p : Port) (f : PortState → PortState) : (s.modifyPort p f).identity = s.identity := rfl
@[simp] theorem State.modifyPort_fallback (s : State) (p : Port) (f : PortState → PortState) : (s.modifyPort p f).fallback = s.fallback := rfl
@[simp] theorem State.modifyPort_divisor (s : State) (p : Port) (f : PortState → PortState) : (s.modifyPort p f).divisor = s.divisor := rfl
@[simp] theorem State.modifyPort_now (s : State) (p : Port) (f : PortState → PortState) : (s.modifyPort p f).now = s.now := rfl
@[simp] theorem State.modifyPort_config (s : State) (p : Port) (f : PortState → PortState) : (s.modifyPort p f).config = s.config := rfl
@[simp] theorem State.modifyPort_racks (s : State) (p : Port) (f : PortState → PortState) : (s.modifyPort p f).racks = s.racks := rfl
@[simp] theorem State.modifyPort_windows (s : State) (p : Port) (f : PortState → PortState) : (s.modifyPort p f).windows = s.windows := rfl
@[simp] theorem State.modifyPort_demand (s : State) (p : Port) (f : PortState → PortState) : (s.modifyPort p f).demand = s.demand := rfl
@[simp] theorem State.modifyPort_tunnels (s : State) (p : Port) (f : PortState → PortState) : (s.modifyPort p f).tunnels = s.tunnels := rfl
@[simp] theorem State.modifyPort_boosterHistory (s : State) (p : Port) (f : PortState → PortState) : (s.modifyPort p f).boosterHistory = s.boosterHistory := rfl
@[simp] theorem State.modifyPort_lastAdmission (s : State) (p : Port) (f : PortState → PortState) : (s.modifyPort p f).lastAdmission = s.lastAdmission := rfl
@[simp] theorem State.modifyPort_lastChosen (s : State) (p : Port) (f : PortState → PortState) : (s.modifyPort p f).lastChosen = s.lastChosen := rfl
@[simp] theorem State.modifyPort_pendingAdmission (s : State) (p : Port) (f : PortState → PortState) : (s.modifyPort p f).pendingAdmission = s.pendingAdmission := rfl
@[simp] theorem State.modifyPort_ports (s : State) (p : Port) (f : PortState → PortState) : (s.modifyPort p f).ports = s.ports.set p (f s.ports[p]) := rfl
@[simp] theorem State.modifyPort_notices (s : State) (p : Port) (f : PortState → PortState) : (s.modifyPort p f).notices = s.notices := rfl
@[simp] theorem State.modifyPort_commandBuffer (s : State) (p : Port) (f : PortState → PortState) : (s.modifyPort p f).commandBuffer = s.commandBuffer := rfl
@[simp] theorem State.modifyPort_response (s : State) (p : Port) (f : PortState → PortState) : (s.modifyPort p f).response = s.response := rfl
@[simp] theorem State.modifyPort_miso (s : State) (p : Port) (f : PortState → PortState) : (s.modifyPort p f).miso = s.miso := rfl
@[simp] theorem State.modifyPort_draws (s : State) (p : Port) (f : PortState → PortState) : (s.modifyPort p f).draws = s.draws := rfl

/-! `State.respond` changes the two buffers and MISO alone. -/

@[simp] theorem State.respond_pending (s : State) (x : Transfer) (r : Response) : (s.respond x r).pending = s.pending := rfl
@[simp] theorem State.respond_rstLow (s : State) (x : Transfer) (r : Response) : (s.respond x r).rstLow = s.rstLow := rfl
@[simp] theorem State.respond_straps (s : State) (x : Transfer) (r : Response) : (s.respond x r).straps = s.straps := rfl
@[simp] theorem State.respond_identity (s : State) (x : Transfer) (r : Response) : (s.respond x r).identity = s.identity := rfl
@[simp] theorem State.respond_fallback (s : State) (x : Transfer) (r : Response) : (s.respond x r).fallback = s.fallback := rfl
@[simp] theorem State.respond_divisor (s : State) (x : Transfer) (r : Response) : (s.respond x r).divisor = s.divisor := rfl
@[simp] theorem State.respond_now (s : State) (x : Transfer) (r : Response) : (s.respond x r).now = s.now := rfl
@[simp] theorem State.respond_config (s : State) (x : Transfer) (r : Response) : (s.respond x r).config = s.config := rfl
@[simp] theorem State.respond_racks (s : State) (x : Transfer) (r : Response) : (s.respond x r).racks = s.racks := rfl
@[simp] theorem State.respond_windows (s : State) (x : Transfer) (r : Response) : (s.respond x r).windows = s.windows := rfl
@[simp] theorem State.respond_demand (s : State) (x : Transfer) (r : Response) : (s.respond x r).demand = s.demand := rfl
@[simp] theorem State.respond_tunnels (s : State) (x : Transfer) (r : Response) : (s.respond x r).tunnels = s.tunnels := rfl
@[simp] theorem State.respond_boosterHistory (s : State) (x : Transfer) (r : Response) : (s.respond x r).boosterHistory = s.boosterHistory := rfl
@[simp] theorem State.respond_lastAdmission (s : State) (x : Transfer) (r : Response) : (s.respond x r).lastAdmission = s.lastAdmission := rfl
@[simp] theorem State.respond_lastChosen (s : State) (x : Transfer) (r : Response) : (s.respond x r).lastChosen = s.lastChosen := rfl
@[simp] theorem State.respond_pendingAdmission (s : State) (x : Transfer) (r : Response) : (s.respond x r).pendingAdmission = s.pendingAdmission := rfl
@[simp] theorem State.respond_ports (s : State) (x : Transfer) (r : Response) : (s.respond x r).ports = s.ports := rfl
@[simp] theorem State.respond_notices (s : State) (x : Transfer) (r : Response) : (s.respond x r).notices = s.notices := rfl
@[simp] theorem State.respond_commandBuffer (s : State) (x : Transfer) (r : Response) : (s.respond x r).commandBuffer = [] := rfl
@[simp] theorem State.respond_response (s : State) (x : Transfer) (r : Response) : (s.respond x r).response = some r := rfl
@[simp] theorem State.respond_miso (s : State) (x : Transfer) (r : Response) : (s.respond x r).miso = List.replicate x.clocked 0x00#8 := rfl
@[simp] theorem State.respond_draws (s : State) (x : Transfer) (r : Response) : (s.respond x r).draws = s.draws := rfl

/-! `Event.raise` sets one notice. -/

@[simp] theorem Event.raise_pending (e : Event) (n : Notice) : (e.raise n).pending = e.pending := rfl
@[simp] theorem Event.raise_rstLow (e : Event) (n : Notice) : (e.raise n).rstLow = e.rstLow := rfl
@[simp] theorem Event.raise_straps (e : Event) (n : Notice) : (e.raise n).straps = e.straps := rfl
@[simp] theorem Event.raise_identity (e : Event) (n : Notice) : (e.raise n).identity = e.identity := rfl
@[simp] theorem Event.raise_fallback (e : Event) (n : Notice) : (e.raise n).fallback = e.fallback := rfl
@[simp] theorem Event.raise_divisor (e : Event) (n : Notice) : (e.raise n).divisor = e.divisor := rfl
@[simp] theorem Event.raise_now (e : Event) (n : Notice) : (e.raise n).now = e.now := rfl
@[simp] theorem Event.raise_config (e : Event) (n : Notice) : (e.raise n).config = e.config := rfl
@[simp] theorem Event.raise_racks (e : Event) (n : Notice) : (e.raise n).racks = e.racks := rfl
@[simp] theorem Event.raise_windows (e : Event) (n : Notice) : (e.raise n).windows = e.windows := rfl
@[simp] theorem Event.raise_demand (e : Event) (n : Notice) : (e.raise n).demand = e.demand := rfl
@[simp] theorem Event.raise_tunnels (e : Event) (n : Notice) : (e.raise n).tunnels = e.tunnels := rfl
@[simp] theorem Event.raise_boosterHistory (e : Event) (n : Notice) : (e.raise n).boosterHistory = e.boosterHistory := rfl
@[simp] theorem Event.raise_lastAdmission (e : Event) (n : Notice) : (e.raise n).lastAdmission = e.lastAdmission := rfl
@[simp] theorem Event.raise_lastChosen (e : Event) (n : Notice) : (e.raise n).lastChosen = e.lastChosen := rfl
@[simp] theorem Event.raise_pendingAdmission (e : Event) (n : Notice) : (e.raise n).pendingAdmission = e.pendingAdmission := rfl
@[simp] theorem Event.raise_ports (e : Event) (n : Notice) : (e.raise n).ports = e.ports := rfl
@[simp] theorem Event.raise_notices (e : Event) (n : Notice) : (e.raise n).notices = e.notices ||| n.bit := rfl
@[simp] theorem Event.raise_commandBuffer (e : Event) (n : Notice) : (e.raise n).commandBuffer = e.commandBuffer := rfl
@[simp] theorem Event.raise_response (e : Event) (n : Notice) : (e.raise n).response = e.response := rfl
@[simp] theorem Event.raise_miso (e : Event) (n : Notice) : (e.raise n).miso = e.miso := rfl
@[simp] theorem Event.raise_draws (e : Event) (n : Notice) : (e.raise n).draws = e.draws := rfl
@[simp] theorem Event.raise_out (e : Event) (n : Notice) : (e.raise n).out = e.out := rfl
@[simp] theorem Event.raise_wantPairing (e : Event) (n : Notice) : (e.raise n).wantPairing = e.wantPairing := rfl
@[simp] theorem Event.raise_wantReeval (e : Event) (n : Notice) : (e.raise n).wantReeval = e.wantReeval := rfl
@[simp] theorem Event.raise_room (e : Event) (n : Notice) : (e.raise n).room = e.room := rfl
@[simp] theorem Event.raise_wantIdle (e : Event) (n : Notice) : (e.raise n).wantIdle = e.wantIdle := rfl

/-! `Event.send` makes one message. -/

@[simp] theorem Event.send_pending (e : Event) (p : Port) (m : Message) : (e.send p m).pending = e.pending := rfl
@[simp] theorem Event.send_rstLow (e : Event) (p : Port) (m : Message) : (e.send p m).rstLow = e.rstLow := rfl
@[simp] theorem Event.send_straps (e : Event) (p : Port) (m : Message) : (e.send p m).straps = e.straps := rfl
@[simp] theorem Event.send_identity (e : Event) (p : Port) (m : Message) : (e.send p m).identity = e.identity := rfl
@[simp] theorem Event.send_fallback (e : Event) (p : Port) (m : Message) : (e.send p m).fallback = e.fallback := rfl
@[simp] theorem Event.send_divisor (e : Event) (p : Port) (m : Message) : (e.send p m).divisor = e.divisor := rfl
@[simp] theorem Event.send_now (e : Event) (p : Port) (m : Message) : (e.send p m).now = e.now := rfl
@[simp] theorem Event.send_config (e : Event) (p : Port) (m : Message) : (e.send p m).config = e.config := rfl
@[simp] theorem Event.send_racks (e : Event) (p : Port) (m : Message) : (e.send p m).racks = e.racks := rfl
@[simp] theorem Event.send_windows (e : Event) (p : Port) (m : Message) : (e.send p m).windows = e.windows := rfl
@[simp] theorem Event.send_demand (e : Event) (p : Port) (m : Message) : (e.send p m).demand = e.demand := rfl
@[simp] theorem Event.send_tunnels (e : Event) (p : Port) (m : Message) : (e.send p m).tunnels = e.tunnels := rfl
@[simp] theorem Event.send_boosterHistory (e : Event) (p : Port) (m : Message) : (e.send p m).boosterHistory = e.boosterHistory := rfl
@[simp] theorem Event.send_lastAdmission (e : Event) (p : Port) (m : Message) : (e.send p m).lastAdmission = e.lastAdmission := rfl
@[simp] theorem Event.send_lastChosen (e : Event) (p : Port) (m : Message) : (e.send p m).lastChosen = e.lastChosen := rfl
@[simp] theorem Event.send_pendingAdmission (e : Event) (p : Port) (m : Message) : (e.send p m).pendingAdmission = e.pendingAdmission := rfl
@[simp] theorem Event.send_ports (e : Event) (p : Port) (m : Message) : (e.send p m).ports = e.ports := rfl
@[simp] theorem Event.send_notices (e : Event) (p : Port) (m : Message) : (e.send p m).notices = e.notices := rfl
@[simp] theorem Event.send_commandBuffer (e : Event) (p : Port) (m : Message) : (e.send p m).commandBuffer = e.commandBuffer := rfl
@[simp] theorem Event.send_response (e : Event) (p : Port) (m : Message) : (e.send p m).response = e.response := rfl
@[simp] theorem Event.send_miso (e : Event) (p : Port) (m : Message) : (e.send p m).miso = e.miso := rfl
@[simp] theorem Event.send_draws (e : Event) (p : Port) (m : Message) : (e.send p m).draws = e.draws := rfl
@[simp] theorem Event.send_out (e : Event) (p : Port) (m : Message) : (e.send p m).out = e.out ++ [(p, m)] := rfl
@[simp] theorem Event.send_wantPairing (e : Event) (p : Port) (m : Message) : (e.send p m).wantPairing = e.wantPairing := rfl
@[simp] theorem Event.send_wantReeval (e : Event) (p : Port) (m : Message) : (e.send p m).wantReeval = e.wantReeval := rfl
@[simp] theorem Event.send_room (e : Event) (p : Port) (m : Message) : (e.send p m).room = e.room := rfl
@[simp] theorem Event.send_wantIdle (e : Event) (p : Port) (m : Message) : (e.send p m).wantIdle = e.wantIdle := rfl

/-! `Event.sendRole` makes one message for every port of a role. -/

@[simp] theorem Event.sendRole_pending (e : Event) (r : Role) (m : Message) : (e.sendRole r m).pending = e.pending := rfl
@[simp] theorem Event.sendRole_rstLow (e : Event) (r : Role) (m : Message) : (e.sendRole r m).rstLow = e.rstLow := rfl
@[simp] theorem Event.sendRole_straps (e : Event) (r : Role) (m : Message) : (e.sendRole r m).straps = e.straps := rfl
@[simp] theorem Event.sendRole_identity (e : Event) (r : Role) (m : Message) : (e.sendRole r m).identity = e.identity := rfl
@[simp] theorem Event.sendRole_fallback (e : Event) (r : Role) (m : Message) : (e.sendRole r m).fallback = e.fallback := rfl
@[simp] theorem Event.sendRole_divisor (e : Event) (r : Role) (m : Message) : (e.sendRole r m).divisor = e.divisor := rfl
@[simp] theorem Event.sendRole_now (e : Event) (r : Role) (m : Message) : (e.sendRole r m).now = e.now := rfl
@[simp] theorem Event.sendRole_config (e : Event) (r : Role) (m : Message) : (e.sendRole r m).config = e.config := rfl
@[simp] theorem Event.sendRole_racks (e : Event) (r : Role) (m : Message) : (e.sendRole r m).racks = e.racks := rfl
@[simp] theorem Event.sendRole_windows (e : Event) (r : Role) (m : Message) : (e.sendRole r m).windows = e.windows := rfl
@[simp] theorem Event.sendRole_demand (e : Event) (r : Role) (m : Message) : (e.sendRole r m).demand = e.demand := rfl
@[simp] theorem Event.sendRole_tunnels (e : Event) (r : Role) (m : Message) : (e.sendRole r m).tunnels = e.tunnels := rfl
@[simp] theorem Event.sendRole_boosterHistory (e : Event) (r : Role) (m : Message) : (e.sendRole r m).boosterHistory = e.boosterHistory := rfl
@[simp] theorem Event.sendRole_lastAdmission (e : Event) (r : Role) (m : Message) : (e.sendRole r m).lastAdmission = e.lastAdmission := rfl
@[simp] theorem Event.sendRole_lastChosen (e : Event) (r : Role) (m : Message) : (e.sendRole r m).lastChosen = e.lastChosen := rfl
@[simp] theorem Event.sendRole_pendingAdmission (e : Event) (r : Role) (m : Message) : (e.sendRole r m).pendingAdmission = e.pendingAdmission := rfl
@[simp] theorem Event.sendRole_ports (e : Event) (r : Role) (m : Message) : (e.sendRole r m).ports = e.ports := rfl
@[simp] theorem Event.sendRole_notices (e : Event) (r : Role) (m : Message) : (e.sendRole r m).notices = e.notices := rfl
@[simp] theorem Event.sendRole_commandBuffer (e : Event) (r : Role) (m : Message) : (e.sendRole r m).commandBuffer = e.commandBuffer := rfl
@[simp] theorem Event.sendRole_response (e : Event) (r : Role) (m : Message) : (e.sendRole r m).response = e.response := rfl
@[simp] theorem Event.sendRole_miso (e : Event) (r : Role) (m : Message) : (e.sendRole r m).miso = e.miso := rfl
@[simp] theorem Event.sendRole_draws (e : Event) (r : Role) (m : Message) : (e.sendRole r m).draws = e.draws := rfl
@[simp] theorem Event.sendRole_out (e : Event) (r : Role) (m : Message) : (e.sendRole r m).out = e.out ++ e.toState.toRole r m := rfl
@[simp] theorem Event.sendRole_wantPairing (e : Event) (r : Role) (m : Message) : (e.sendRole r m).wantPairing = e.wantPairing := rfl
@[simp] theorem Event.sendRole_wantReeval (e : Event) (r : Role) (m : Message) : (e.sendRole r m).wantReeval = e.wantReeval := rfl
@[simp] theorem Event.sendRole_room (e : Event) (r : Role) (m : Message) : (e.sendRole r m).room = e.room := rfl
@[simp] theorem Event.sendRole_wantIdle (e : Event) (r : Role) (m : Message) : (e.sendRole r m).wantIdle = e.wantIdle := rfl

/-! `Event.setTunnel` changes one tunnel context. -/

@[simp] theorem Event.setTunnel_pending (e : Event) (t : Tunnel) (c : TunnelContext) : (e.setTunnel t c).pending = e.pending := rfl
@[simp] theorem Event.setTunnel_rstLow (e : Event) (t : Tunnel) (c : TunnelContext) : (e.setTunnel t c).rstLow = e.rstLow := rfl
@[simp] theorem Event.setTunnel_straps (e : Event) (t : Tunnel) (c : TunnelContext) : (e.setTunnel t c).straps = e.straps := rfl
@[simp] theorem Event.setTunnel_identity (e : Event) (t : Tunnel) (c : TunnelContext) : (e.setTunnel t c).identity = e.identity := rfl
@[simp] theorem Event.setTunnel_fallback (e : Event) (t : Tunnel) (c : TunnelContext) : (e.setTunnel t c).fallback = e.fallback := rfl
@[simp] theorem Event.setTunnel_divisor (e : Event) (t : Tunnel) (c : TunnelContext) : (e.setTunnel t c).divisor = e.divisor := rfl
@[simp] theorem Event.setTunnel_now (e : Event) (t : Tunnel) (c : TunnelContext) : (e.setTunnel t c).now = e.now := rfl
@[simp] theorem Event.setTunnel_config (e : Event) (t : Tunnel) (c : TunnelContext) : (e.setTunnel t c).config = e.config := rfl
@[simp] theorem Event.setTunnel_racks (e : Event) (t : Tunnel) (c : TunnelContext) : (e.setTunnel t c).racks = e.racks := rfl
@[simp] theorem Event.setTunnel_windows (e : Event) (t : Tunnel) (c : TunnelContext) : (e.setTunnel t c).windows = e.windows := rfl
@[simp] theorem Event.setTunnel_demand (e : Event) (t : Tunnel) (c : TunnelContext) : (e.setTunnel t c).demand = e.demand := rfl
@[simp] theorem Event.setTunnel_tunnels (e : Event) (t : Tunnel) (c : TunnelContext) : (e.setTunnel t c).tunnels = e.tunnels.set t c := rfl
@[simp] theorem Event.setTunnel_boosterHistory (e : Event) (t : Tunnel) (c : TunnelContext) : (e.setTunnel t c).boosterHistory = e.boosterHistory := rfl
@[simp] theorem Event.setTunnel_lastAdmission (e : Event) (t : Tunnel) (c : TunnelContext) : (e.setTunnel t c).lastAdmission = e.lastAdmission := rfl
@[simp] theorem Event.setTunnel_lastChosen (e : Event) (t : Tunnel) (c : TunnelContext) : (e.setTunnel t c).lastChosen = e.lastChosen := rfl
@[simp] theorem Event.setTunnel_pendingAdmission (e : Event) (t : Tunnel) (c : TunnelContext) : (e.setTunnel t c).pendingAdmission = e.pendingAdmission := rfl
@[simp] theorem Event.setTunnel_ports (e : Event) (t : Tunnel) (c : TunnelContext) : (e.setTunnel t c).ports = e.ports := rfl
@[simp] theorem Event.setTunnel_notices (e : Event) (t : Tunnel) (c : TunnelContext) : (e.setTunnel t c).notices = e.notices := rfl
@[simp] theorem Event.setTunnel_commandBuffer (e : Event) (t : Tunnel) (c : TunnelContext) : (e.setTunnel t c).commandBuffer = e.commandBuffer := rfl
@[simp] theorem Event.setTunnel_response (e : Event) (t : Tunnel) (c : TunnelContext) : (e.setTunnel t c).response = e.response := rfl
@[simp] theorem Event.setTunnel_miso (e : Event) (t : Tunnel) (c : TunnelContext) : (e.setTunnel t c).miso = e.miso := rfl
@[simp] theorem Event.setTunnel_draws (e : Event) (t : Tunnel) (c : TunnelContext) : (e.setTunnel t c).draws = e.draws := rfl
@[simp] theorem Event.setTunnel_out (e : Event) (t : Tunnel) (c : TunnelContext) : (e.setTunnel t c).out = e.out := rfl
@[simp] theorem Event.setTunnel_wantPairing (e : Event) (t : Tunnel) (c : TunnelContext) : (e.setTunnel t c).wantPairing = e.wantPairing := rfl
@[simp] theorem Event.setTunnel_wantReeval (e : Event) (t : Tunnel) (c : TunnelContext) : (e.setTunnel t c).wantReeval = e.wantReeval := rfl
@[simp] theorem Event.setTunnel_room (e : Event) (t : Tunnel) (c : TunnelContext) : (e.setTunnel t c).room = e.room := rfl
@[simp] theorem Event.setTunnel_wantIdle (e : Event) (t : Tunnel) (c : TunnelContext) : (e.setTunnel t c).wantIdle = e.wantIdle := rfl

/-! `Event.modifyRack` changes the record of one tag in place. -/

@[simp] theorem Event.modifyRack_pending (e : Event) (tag : Nat) (f : Rack → Rack) : (e.modifyRack tag f).pending = e.pending := rfl
@[simp] theorem Event.modifyRack_rstLow (e : Event) (tag : Nat) (f : Rack → Rack) : (e.modifyRack tag f).rstLow = e.rstLow := rfl
@[simp] theorem Event.modifyRack_straps (e : Event) (tag : Nat) (f : Rack → Rack) : (e.modifyRack tag f).straps = e.straps := rfl
@[simp] theorem Event.modifyRack_identity (e : Event) (tag : Nat) (f : Rack → Rack) : (e.modifyRack tag f).identity = e.identity := rfl
@[simp] theorem Event.modifyRack_fallback (e : Event) (tag : Nat) (f : Rack → Rack) : (e.modifyRack tag f).fallback = e.fallback := rfl
@[simp] theorem Event.modifyRack_divisor (e : Event) (tag : Nat) (f : Rack → Rack) : (e.modifyRack tag f).divisor = e.divisor := rfl
@[simp] theorem Event.modifyRack_now (e : Event) (tag : Nat) (f : Rack → Rack) : (e.modifyRack tag f).now = e.now := rfl
@[simp] theorem Event.modifyRack_config (e : Event) (tag : Nat) (f : Rack → Rack) : (e.modifyRack tag f).config = e.config := rfl
@[simp] theorem Event.modifyRack_racks (e : Event) (tag : Nat) (f : Rack → Rack) : (e.modifyRack tag f).racks = e.racks.map fun r => if r.tag = tag then f r else r := rfl
@[simp] theorem Event.modifyRack_windows (e : Event) (tag : Nat) (f : Rack → Rack) : (e.modifyRack tag f).windows = e.windows := rfl
@[simp] theorem Event.modifyRack_demand (e : Event) (tag : Nat) (f : Rack → Rack) : (e.modifyRack tag f).demand = e.demand := rfl
@[simp] theorem Event.modifyRack_tunnels (e : Event) (tag : Nat) (f : Rack → Rack) : (e.modifyRack tag f).tunnels = e.tunnels := rfl
@[simp] theorem Event.modifyRack_boosterHistory (e : Event) (tag : Nat) (f : Rack → Rack) : (e.modifyRack tag f).boosterHistory = e.boosterHistory := rfl
@[simp] theorem Event.modifyRack_lastAdmission (e : Event) (tag : Nat) (f : Rack → Rack) : (e.modifyRack tag f).lastAdmission = e.lastAdmission := rfl
@[simp] theorem Event.modifyRack_lastChosen (e : Event) (tag : Nat) (f : Rack → Rack) : (e.modifyRack tag f).lastChosen = e.lastChosen := rfl
@[simp] theorem Event.modifyRack_pendingAdmission (e : Event) (tag : Nat) (f : Rack → Rack) : (e.modifyRack tag f).pendingAdmission = e.pendingAdmission := rfl
@[simp] theorem Event.modifyRack_ports (e : Event) (tag : Nat) (f : Rack → Rack) : (e.modifyRack tag f).ports = e.ports := rfl
@[simp] theorem Event.modifyRack_notices (e : Event) (tag : Nat) (f : Rack → Rack) : (e.modifyRack tag f).notices = e.notices := rfl
@[simp] theorem Event.modifyRack_commandBuffer (e : Event) (tag : Nat) (f : Rack → Rack) : (e.modifyRack tag f).commandBuffer = e.commandBuffer := rfl
@[simp] theorem Event.modifyRack_response (e : Event) (tag : Nat) (f : Rack → Rack) : (e.modifyRack tag f).response = e.response := rfl
@[simp] theorem Event.modifyRack_miso (e : Event) (tag : Nat) (f : Rack → Rack) : (e.modifyRack tag f).miso = e.miso := rfl
@[simp] theorem Event.modifyRack_draws (e : Event) (tag : Nat) (f : Rack → Rack) : (e.modifyRack tag f).draws = e.draws := rfl
@[simp] theorem Event.modifyRack_out (e : Event) (tag : Nat) (f : Rack → Rack) : (e.modifyRack tag f).out = e.out := rfl
@[simp] theorem Event.modifyRack_wantPairing (e : Event) (tag : Nat) (f : Rack → Rack) : (e.modifyRack tag f).wantPairing = e.wantPairing := rfl
@[simp] theorem Event.modifyRack_wantReeval (e : Event) (tag : Nat) (f : Rack → Rack) : (e.modifyRack tag f).wantReeval = e.wantReeval := rfl
@[simp] theorem Event.modifyRack_room (e : Event) (tag : Nat) (f : Rack → Rack) : (e.modifyRack tag f).room = e.room := rfl
@[simp] theorem Event.modifyRack_wantIdle (e : Event) (tag : Nat) (f : Rack → Rack) : (e.modifyRack tag f).wantIdle = e.wantIdle := rfl

/-! `Event.enter` changes a tunnel state and announces it. -/

@[simp] theorem Event.enter_pending (e : Event) (t : Tunnel) (st : TunnelState) (fresh : Bool) : (e.enter t st fresh).pending = e.pending := rfl
@[simp] theorem Event.enter_rstLow (e : Event) (t : Tunnel) (st : TunnelState) (fresh : Bool) : (e.enter t st fresh).rstLow = e.rstLow := rfl
@[simp] theorem Event.enter_straps (e : Event) (t : Tunnel) (st : TunnelState) (fresh : Bool) : (e.enter t st fresh).straps = e.straps := rfl
@[simp] theorem Event.enter_identity (e : Event) (t : Tunnel) (st : TunnelState) (fresh : Bool) : (e.enter t st fresh).identity = e.identity := rfl
@[simp] theorem Event.enter_fallback (e : Event) (t : Tunnel) (st : TunnelState) (fresh : Bool) : (e.enter t st fresh).fallback = e.fallback := rfl
@[simp] theorem Event.enter_divisor (e : Event) (t : Tunnel) (st : TunnelState) (fresh : Bool) : (e.enter t st fresh).divisor = e.divisor := rfl
@[simp] theorem Event.enter_now (e : Event) (t : Tunnel) (st : TunnelState) (fresh : Bool) : (e.enter t st fresh).now = e.now := rfl
@[simp] theorem Event.enter_config (e : Event) (t : Tunnel) (st : TunnelState) (fresh : Bool) : (e.enter t st fresh).config = e.config := rfl
@[simp] theorem Event.enter_racks (e : Event) (t : Tunnel) (st : TunnelState) (fresh : Bool) : (e.enter t st fresh).racks = e.racks := rfl
@[simp] theorem Event.enter_windows (e : Event) (t : Tunnel) (st : TunnelState) (fresh : Bool) : (e.enter t st fresh).windows = e.windows := rfl
@[simp] theorem Event.enter_demand (e : Event) (t : Tunnel) (st : TunnelState) (fresh : Bool) : (e.enter t st fresh).demand = e.demand := rfl
@[simp] theorem Event.enter_tunnels (e : Event) (t : Tunnel) (st : TunnelState) (fresh : Bool) : (e.enter t st fresh).tunnels = e.tunnels.set t { e.tunnels.get t with state := st } := rfl
@[simp] theorem Event.enter_boosterHistory (e : Event) (t : Tunnel) (st : TunnelState) (fresh : Bool) : (e.enter t st fresh).boosterHistory = e.boosterHistory := rfl
@[simp] theorem Event.enter_lastAdmission (e : Event) (t : Tunnel) (st : TunnelState) (fresh : Bool) : (e.enter t st fresh).lastAdmission = e.lastAdmission := rfl
@[simp] theorem Event.enter_lastChosen (e : Event) (t : Tunnel) (st : TunnelState) (fresh : Bool) : (e.enter t st fresh).lastChosen = e.lastChosen := rfl
@[simp] theorem Event.enter_pendingAdmission (e : Event) (t : Tunnel) (st : TunnelState) (fresh : Bool) : (e.enter t st fresh).pendingAdmission = e.pendingAdmission := rfl
@[simp] theorem Event.enter_ports (e : Event) (t : Tunnel) (st : TunnelState) (fresh : Bool) : (e.enter t st fresh).ports = e.ports := rfl
@[simp] theorem Event.enter_notices (e : Event) (t : Tunnel) (st : TunnelState) (fresh : Bool) : (e.enter t st fresh).notices = e.notices := rfl
@[simp] theorem Event.enter_commandBuffer (e : Event) (t : Tunnel) (st : TunnelState) (fresh : Bool) : (e.enter t st fresh).commandBuffer = e.commandBuffer := rfl
@[simp] theorem Event.enter_response (e : Event) (t : Tunnel) (st : TunnelState) (fresh : Bool) : (e.enter t st fresh).response = e.response := rfl
@[simp] theorem Event.enter_miso (e : Event) (t : Tunnel) (st : TunnelState) (fresh : Bool) : (e.enter t st fresh).miso = e.miso := rfl
@[simp] theorem Event.enter_draws (e : Event) (t : Tunnel) (st : TunnelState) (fresh : Bool) : (e.enter t st fresh).draws = e.draws := rfl
@[simp] theorem Event.enter_out (e : Event) (t : Tunnel) (st : TunnelState) (fresh : Bool) : (e.enter t st fresh).out = e.out ++ e.toState.toRole (.tunnel t) (.tunnelState t st fresh) := rfl
@[simp] theorem Event.enter_wantPairing (e : Event) (t : Tunnel) (st : TunnelState) (fresh : Bool) : (e.enter t st fresh).wantPairing = e.wantPairing := rfl
@[simp] theorem Event.enter_wantReeval (e : Event) (t : Tunnel) (st : TunnelState) (fresh : Bool) : (e.enter t st fresh).wantReeval = true := rfl
@[simp] theorem Event.enter_room (e : Event) (t : Tunnel) (st : TunnelState) (fresh : Bool) : (e.enter t st fresh).room = e.room := rfl
@[simp] theorem Event.enter_wantIdle (e : Event) (t : Tunnel) (st : TunnelState) (fresh : Bool) : (e.enter t st fresh).wantIdle = e.wantIdle := rfl

/-! `Event.dropPending` ends the pending admission. -/

@[simp] theorem Event.dropPending_pending (e : Event) : (e.dropPending).pending = e.pending := rfl
@[simp] theorem Event.dropPending_rstLow (e : Event) : (e.dropPending).rstLow = e.rstLow := rfl
@[simp] theorem Event.dropPending_straps (e : Event) : (e.dropPending).straps = e.straps := rfl
@[simp] theorem Event.dropPending_identity (e : Event) : (e.dropPending).identity = e.identity := rfl
@[simp] theorem Event.dropPending_fallback (e : Event) : (e.dropPending).fallback = e.fallback := rfl
@[simp] theorem Event.dropPending_divisor (e : Event) : (e.dropPending).divisor = e.divisor := rfl
@[simp] theorem Event.dropPending_now (e : Event) : (e.dropPending).now = e.now := rfl
@[simp] theorem Event.dropPending_config (e : Event) : (e.dropPending).config = e.config := rfl
@[simp] theorem Event.dropPending_racks (e : Event) : (e.dropPending).racks = e.racks := rfl
@[simp] theorem Event.dropPending_windows (e : Event) : (e.dropPending).windows = e.windows := rfl
@[simp] theorem Event.dropPending_demand (e : Event) : (e.dropPending).demand = e.demand := rfl
@[simp] theorem Event.dropPending_tunnels (e : Event) : (e.dropPending).tunnels = e.tunnels := rfl
@[simp] theorem Event.dropPending_boosterHistory (e : Event) : (e.dropPending).boosterHistory = e.boosterHistory := rfl
@[simp] theorem Event.dropPending_lastAdmission (e : Event) : (e.dropPending).lastAdmission = e.lastAdmission := rfl
@[simp] theorem Event.dropPending_lastChosen (e : Event) : (e.dropPending).lastChosen = e.lastChosen := rfl
@[simp] theorem Event.dropPending_pendingAdmission (e : Event) : (e.dropPending).pendingAdmission = none := rfl
@[simp] theorem Event.dropPending_ports (e : Event) : (e.dropPending).ports = e.ports := rfl
@[simp] theorem Event.dropPending_notices (e : Event) : (e.dropPending).notices = e.notices := rfl
@[simp] theorem Event.dropPending_commandBuffer (e : Event) : (e.dropPending).commandBuffer = e.commandBuffer := rfl
@[simp] theorem Event.dropPending_response (e : Event) : (e.dropPending).response = e.response := rfl
@[simp] theorem Event.dropPending_miso (e : Event) : (e.dropPending).miso = e.miso := rfl
@[simp] theorem Event.dropPending_draws (e : Event) : (e.dropPending).draws = e.draws := rfl
@[simp] theorem Event.dropPending_out (e : Event) : (e.dropPending).out = e.out := rfl
@[simp] theorem Event.dropPending_wantPairing (e : Event) : (e.dropPending).wantPairing = e.wantPairing := rfl
@[simp] theorem Event.dropPending_wantReeval (e : Event) : (e.dropPending).wantReeval = e.wantReeval := rfl
@[simp] theorem Event.dropPending_room (e : Event) : (e.dropPending).room = e.room := rfl
@[simp] theorem Event.dropPending_wantIdle (e : Event) : (e.dropPending).wantIdle = true := rfl

/-! `Event.consumeEntry` takes a window's oldest entry. -/

@[simp] theorem Event.consumeEntry_pending (e : Event) (w : Window) : (e.consumeEntry w).pending = e.pending := rfl
@[simp] theorem Event.consumeEntry_rstLow (e : Event) (w : Window) : (e.consumeEntry w).rstLow = e.rstLow := rfl
@[simp] theorem Event.consumeEntry_straps (e : Event) (w : Window) : (e.consumeEntry w).straps = e.straps := rfl
@[simp] theorem Event.consumeEntry_identity (e : Event) (w : Window) : (e.consumeEntry w).identity = e.identity := rfl
@[simp] theorem Event.consumeEntry_fallback (e : Event) (w : Window) : (e.consumeEntry w).fallback = e.fallback := rfl
@[simp] theorem Event.consumeEntry_divisor (e : Event) (w : Window) : (e.consumeEntry w).divisor = e.divisor := rfl
@[simp] theorem Event.consumeEntry_now (e : Event) (w : Window) : (e.consumeEntry w).now = e.now := rfl
@[simp] theorem Event.consumeEntry_config (e : Event) (w : Window) : (e.consumeEntry w).config = e.config := rfl
@[simp] theorem Event.consumeEntry_racks (e : Event) (w : Window) : (e.consumeEntry w).racks = e.racks := rfl
@[simp] theorem Event.consumeEntry_windows (e : Event) (w : Window) : (e.consumeEntry w).windows = e.windows := rfl
@[simp] theorem Event.consumeEntry_demand (e : Event) (w : Window) : (e.consumeEntry w).demand = e.demand.eraseP (·.window = w) := rfl
@[simp] theorem Event.consumeEntry_tunnels (e : Event) (w : Window) : (e.consumeEntry w).tunnels = e.tunnels := rfl
@[simp] theorem Event.consumeEntry_boosterHistory (e : Event) (w : Window) : (e.consumeEntry w).boosterHistory = e.boosterHistory := rfl
@[simp] theorem Event.consumeEntry_lastAdmission (e : Event) (w : Window) : (e.consumeEntry w).lastAdmission = e.lastAdmission := rfl
@[simp] theorem Event.consumeEntry_lastChosen (e : Event) (w : Window) : (e.consumeEntry w).lastChosen = e.lastChosen := rfl
@[simp] theorem Event.consumeEntry_pendingAdmission (e : Event) (w : Window) : (e.consumeEntry w).pendingAdmission = e.pendingAdmission := rfl
@[simp] theorem Event.consumeEntry_ports (e : Event) (w : Window) : (e.consumeEntry w).ports = e.ports := rfl
@[simp] theorem Event.consumeEntry_notices (e : Event) (w : Window) : (e.consumeEntry w).notices = e.notices := rfl
@[simp] theorem Event.consumeEntry_commandBuffer (e : Event) (w : Window) : (e.consumeEntry w).commandBuffer = e.commandBuffer := rfl
@[simp] theorem Event.consumeEntry_response (e : Event) (w : Window) : (e.consumeEntry w).response = e.response := rfl
@[simp] theorem Event.consumeEntry_miso (e : Event) (w : Window) : (e.consumeEntry w).miso = e.miso := rfl
@[simp] theorem Event.consumeEntry_draws (e : Event) (w : Window) : (e.consumeEntry w).draws = e.draws := rfl
@[simp] theorem Event.consumeEntry_out (e : Event) (w : Window) : (e.consumeEntry w).out = e.out := rfl
@[simp] theorem Event.consumeEntry_wantPairing (e : Event) (w : Window) : (e.consumeEntry w).wantPairing = e.wantPairing := rfl
@[simp] theorem Event.consumeEntry_wantReeval (e : Event) (w : Window) : (e.consumeEntry w).wantReeval = e.wantReeval := rfl
@[simp] theorem Event.consumeEntry_room (e : Event) (w : Window) : (e.consumeEntry w).room = e.room := rfl
@[simp] theorem Event.consumeEntry_wantIdle (e : Event) (w : Window) : (e.consumeEntry w).wantIdle = e.wantIdle := rfl

/-! `Event.writeMode` writes one mode. -/

@[simp] theorem Event.writeMode_pending (e : Event) (w : Window) (m : WindowMode) : (e.writeMode w m).pending = e.pending := rfl
@[simp] theorem Event.writeMode_rstLow (e : Event) (w : Window) (m : WindowMode) : (e.writeMode w m).rstLow = e.rstLow := rfl
@[simp] theorem Event.writeMode_straps (e : Event) (w : Window) (m : WindowMode) : (e.writeMode w m).straps = e.straps := rfl
@[simp] theorem Event.writeMode_identity (e : Event) (w : Window) (m : WindowMode) : (e.writeMode w m).identity = e.identity := rfl
@[simp] theorem Event.writeMode_fallback (e : Event) (w : Window) (m : WindowMode) : (e.writeMode w m).fallback = e.fallback := rfl
@[simp] theorem Event.writeMode_divisor (e : Event) (w : Window) (m : WindowMode) : (e.writeMode w m).divisor = e.divisor := rfl
@[simp] theorem Event.writeMode_now (e : Event) (w : Window) (m : WindowMode) : (e.writeMode w m).now = e.now := rfl
@[simp] theorem Event.writeMode_config (e : Event) (w : Window) (m : WindowMode) : (e.writeMode w m).config = e.config := rfl
@[simp] theorem Event.writeMode_racks (e : Event) (w : Window) (m : WindowMode) : (e.writeMode w m).racks = e.racks := rfl
@[simp] theorem Event.writeMode_windows (e : Event) (w : Window) (m : WindowMode) : (e.writeMode w m).windows = e.windows.set w { e.windows[w] with mode := m } := rfl
@[simp] theorem Event.writeMode_demand (e : Event) (w : Window) (m : WindowMode) : (e.writeMode w m).demand = e.demand := rfl
@[simp] theorem Event.writeMode_tunnels (e : Event) (w : Window) (m : WindowMode) : (e.writeMode w m).tunnels = e.tunnels := rfl
@[simp] theorem Event.writeMode_boosterHistory (e : Event) (w : Window) (m : WindowMode) : (e.writeMode w m).boosterHistory = e.boosterHistory := rfl
@[simp] theorem Event.writeMode_lastAdmission (e : Event) (w : Window) (m : WindowMode) : (e.writeMode w m).lastAdmission = e.lastAdmission := rfl
@[simp] theorem Event.writeMode_lastChosen (e : Event) (w : Window) (m : WindowMode) : (e.writeMode w m).lastChosen = e.lastChosen := rfl
@[simp] theorem Event.writeMode_pendingAdmission (e : Event) (w : Window) (m : WindowMode) : (e.writeMode w m).pendingAdmission = e.pendingAdmission := rfl
@[simp] theorem Event.writeMode_ports (e : Event) (w : Window) (m : WindowMode) : (e.writeMode w m).ports = e.ports := rfl
@[simp] theorem Event.writeMode_notices (e : Event) (w : Window) (m : WindowMode) : (e.writeMode w m).notices = e.notices := rfl
@[simp] theorem Event.writeMode_commandBuffer (e : Event) (w : Window) (m : WindowMode) : (e.writeMode w m).commandBuffer = e.commandBuffer := rfl
@[simp] theorem Event.writeMode_response (e : Event) (w : Window) (m : WindowMode) : (e.writeMode w m).response = e.response := rfl
@[simp] theorem Event.writeMode_miso (e : Event) (w : Window) (m : WindowMode) : (e.writeMode w m).miso = e.miso := rfl
@[simp] theorem Event.writeMode_draws (e : Event) (w : Window) (m : WindowMode) : (e.writeMode w m).draws = e.draws := rfl
@[simp] theorem Event.writeMode_out (e : Event) (w : Window) (m : WindowMode) : (e.writeMode w m).out = e.out := rfl
@[simp] theorem Event.writeMode_wantPairing (e : Event) (w : Window) (m : WindowMode) : (e.writeMode w m).wantPairing = e.wantPairing := rfl
@[simp] theorem Event.writeMode_wantReeval (e : Event) (w : Window) (m : WindowMode) : (e.writeMode w m).wantReeval = e.wantReeval := rfl
@[simp] theorem Event.writeMode_room (e : Event) (w : Window) (m : WindowMode) : (e.writeMode w m).room = e.room := rfl
@[simp] theorem Event.writeMode_wantIdle (e : Event) (w : Window) (m : WindowMode) : (e.writeMode w m).wantIdle = e.wantIdle := rfl

/-! `State.event` has changed nothing and owes nothing. -/

@[simp] theorem State.event_pending (s : State) : (s.event).pending = s.pending := rfl
@[simp] theorem State.event_rstLow (s : State) : (s.event).rstLow = s.rstLow := rfl
@[simp] theorem State.event_straps (s : State) : (s.event).straps = s.straps := rfl
@[simp] theorem State.event_identity (s : State) : (s.event).identity = s.identity := rfl
@[simp] theorem State.event_fallback (s : State) : (s.event).fallback = s.fallback := rfl
@[simp] theorem State.event_divisor (s : State) : (s.event).divisor = s.divisor := rfl
@[simp] theorem State.event_now (s : State) : (s.event).now = s.now := rfl
@[simp] theorem State.event_config (s : State) : (s.event).config = s.config := rfl
@[simp] theorem State.event_racks (s : State) : (s.event).racks = s.racks := rfl
@[simp] theorem State.event_windows (s : State) : (s.event).windows = s.windows := rfl
@[simp] theorem State.event_demand (s : State) : (s.event).demand = s.demand := rfl
@[simp] theorem State.event_tunnels (s : State) : (s.event).tunnels = s.tunnels := rfl
@[simp] theorem State.event_boosterHistory (s : State) : (s.event).boosterHistory = s.boosterHistory := rfl
@[simp] theorem State.event_lastAdmission (s : State) : (s.event).lastAdmission = s.lastAdmission := rfl
@[simp] theorem State.event_lastChosen (s : State) : (s.event).lastChosen = s.lastChosen := rfl
@[simp] theorem State.event_pendingAdmission (s : State) : (s.event).pendingAdmission = s.pendingAdmission := rfl
@[simp] theorem State.event_ports (s : State) : (s.event).ports = s.ports := rfl
@[simp] theorem State.event_notices (s : State) : (s.event).notices = s.notices := rfl
@[simp] theorem State.event_commandBuffer (s : State) : (s.event).commandBuffer = s.commandBuffer := rfl
@[simp] theorem State.event_response (s : State) : (s.event).response = s.response := rfl
@[simp] theorem State.event_miso (s : State) : (s.event).miso = s.miso := rfl
@[simp] theorem State.event_draws (s : State) : (s.event).draws = s.draws := rfl
@[simp] theorem State.event_out (s : State) : (s.event).out = [] := rfl
@[simp] theorem State.event_wantPairing (s : State) : (s.event).wantPairing = false := rfl
@[simp] theorem State.event_wantReeval (s : State) : (s.event).wantReeval = false := rfl
@[simp] theorem State.event_room (s : State) : (s.event).room = ⟨false, false⟩ := rfl
@[simp] theorem State.event_wantIdle (s : State) : (s.event).wantIdle = false := rfl

end Machine

end Sys2Proof
end

