-- ==== Sys2Proof/Laws/Ops.lean ====
section
/-! SUPPORT. What each shared operation does, said once: looking up, the move, the end of an event, the arrival of a
request, the taking of a transaction. -/

namespace Sys2Proof.Machine

/-! ### Looking up records -/

theorem State.rack?_some {s : State} {tag : Nat} {r : Rack} (h : s.rack? tag = some r) : r ∈ s.racks ∧ r.tag = tag := by
  unfold State.rack? at h
  exact ⟨List.mem_of_find?_eq_some h, by simpa using List.find?_some h⟩

theorem State.rack?_none {s : State} {tag : Nat} (h : s.rack? tag = none) : ∀ r ∈ s.racks, r.tag ≠ tag := by
  unfold State.rack? at h
  simpa using h

/-- With no tag twice, the record with a tag is the one that a lookup finds (R1). -/
theorem State.rack?_of_mem {s : State} {r : Rack} (hn : (s.racks.map (·.tag)).Nodup) (h : r ∈ s.racks) :
    s.rack? r.tag = some r := by
  unfold State.rack?
  generalize s.racks = l at hn h
  induction l with
  | nil => cases h
  | cons x xs ih =>
    simp only [List.map_cons, List.nodup_cons] at hn
    rcases List.mem_cons.mp h with rfl | h'
    · simp
    · have hne : x.tag ≠ r.tag := fun e => hn.1 (e ▸ List.mem_map_of_mem h')
      simp [hne, ih hn.2 h']

/-- The lowest free slot is what `State.freeSlot` answers (R2). -/
theorem State.freeSlot_eq {s : State} {n : Nat} (h : s.lowestFree n) : s.freeSlot = n := by
  obtain ⟨h1, h2, h3⟩ := h
  have : (List.range Config.tableSlots).find? (fun n => s.racks.all (·.slot ≠ n)) = some n := by
    rw [List.find?_range_eq_some]
    refine ⟨by simpa using h2, by simpa [Config.tableSlots] using h1, fun j hj => ?_⟩
    obtain ⟨r, hr, hs⟩ := h3 j hj
    simp only [Bool.not_eq_true', List.all_eq_false]
    exact ⟨r, hr, by simp [hs]⟩
  rw [State.freeSlot, this]; rfl

/-! ### Reading a tag field -/

theorem natOf_tagBytes (tag : BitVec 24) : natOf (tagBytes tag.toNat) = tag.toNat := by
  have := tag.isLt
  simp only [natOf, tagBytes, bytesOf, List.foldl_cons, List.foldl_nil, BitVec.toNat_ofNat]
  omega

/-- The tag field of a request that carries `tag` (R174). -/
theorem tagField_of_bytes (tag : BitVec 24) :
    ∃ x y z, tagBytes tag.toNat = [x, y, z] ∧
      tagField x y z = if isTag tag.toNat then some tag.toNat else none := by
  refine ⟨_, _, _, rfl, ?_⟩
  have h := natOf_tagBytes tag
  simp only [tagBytes, bytesOf] at h
  simp only [tagField, h]

theorem isTag_iff (tag : BitVec 24) : isTag tag.toNat = true ↔ validTag tag := by
  simp only [isTag, validTag, Bool.and_eq_true, decide_eq_true_eq]
  rfl

/-! ### Joining and posting -/

/-- A join puts the record at the tail and can raise HOLD_FULL or ask for pairing (R46, R48). -/
theorem Event.join_cases (e : Event) (r : Rack) :
    (e.join r = { e with racks := rejoined e.racks r }) ∨
      (r.place = .hold ∧ e.join r = ({ e with racks := rejoined e.racks r } : Event).raise .holdFull) ∨
      (r.place = .returnLoop ∧ e.join r = { e with racks := rejoined e.racks r, wantPairing := true }) := by
  simp only [Event.join, rejoined]
  split
  · split
    · exact .inr (.inl ⟨‹_›, rfl⟩)
    · exact .inl rfl
  · exact .inr (.inr ⟨‹_›, rfl⟩)
  · exact .inl rfl

@[simp] theorem Event.join_racks (e : Event) (r : Rack) : (e.join r).racks = rejoined e.racks r := by
  rcases e.join_cases r with h | ⟨-, h⟩ | ⟨-, h⟩ <;> simp [h]

@[simp] theorem Event.join_tunnels (e : Event) (r : Rack) : (e.join r).tunnels = e.tunnels := by
  rcases e.join_cases r with h | ⟨-, h⟩ | ⟨-, h⟩ <;> simp [h]

@[simp] theorem Event.join_out (e : Event) (r : Rack) : (e.join r).out = e.out := by
  rcases e.join_cases r with h | ⟨-, h⟩ | ⟨-, h⟩ <;> simp [h]

@[simp] theorem Event.join_config (e : Event) (r : Rack) : (e.join r).config = e.config := by
  rcases e.join_cases r with h | ⟨-, h⟩ | ⟨-, h⟩ <;> simp [h]

/-- One entry posted, or nothing for a window in STOP (R149). -/
theorem Event.post_cases (e : Event) (w : Window) :
    (e.windows[w].mode = .stop ∧ e.post w = e) ∨
      (e.windows[w].mode ≠ .stop ∧ e.post w = { e with demand := e.demand ++ [⟨w, e.now⟩], wantPairing := true }) := by
  unfold Event.post
  split
  · exact .inl ⟨‹_›, rfl⟩
  · exact .inr ⟨‹_›, rfl⟩

theorem Event.post_owed (e : Event) (w : Window) : (e.post w).toState = e.toState.owed w := by
  unfold Event.post State.owed
  split <;> rfl

/-- A swap does nothing, or joins the rack at SPARE to FILL as FILLING (R41). -/
theorem Event.swap_cases (e : Event) (w : Window) :
    e.swap w = e ∨ ∃ r, e.toState.fillRack w = none ∧ e.toState.spareRack w = some r ∧
      e.swap w = e.join (r.moved .filling (.windowFill w) none e.now) := by
  unfold Event.swap
  split
  · exact .inr ⟨_, ‹_›, ‹_›, rfl⟩
  · exact .inl rfl

/-- STARVED is raised, or nothing changes (R150). -/
theorem Event.noteStarved_cases (e : Event) (w : Window) :
    (e.toState.starved w = true ∧ e.noteStarved w = e.raise .starved) ∨
      (e.toState.starved w = false ∧ e.noteStarved w = e) := by
  unfold Event.noteStarved
  split
  · exact .inl ⟨‹_›, rfl⟩
  · exact .inr ⟨Bool.eq_false_iff.mpr ‹_›, rfl⟩

/-- A pending admission of the tag ends with its message; any other stays (R94). -/
theorem Event.cancelPending_cases (e : Event) (tag : Nat) :
    (∃ p, e.pendingAdmission = some p ∧ p.tag = tag ∧
      e.cancelPending tag = (e.send p.port (.admitCancelled tag)).dropPending) ∨
    (e.pendingAdmission.map (·.tag) ≠ some tag ∧ e.cancelPending tag = e) := by
  unfold Event.cancelPending
  split
  · split
    · exact .inl ⟨_, ‹_›, ‹_›, rfl⟩
    · exact .inr ⟨by simp_all, rfl⟩
  · exact .inr ⟨by simp_all, rfl⟩

/-- With no admission pending of the tag there is nothing to cancel. -/
theorem Event.cancelPending_of_ne {e : Event} {tag : Nat} (h : e.pendingAdmission.map (·.tag) ≠ some tag) :
    e.cancelPending tag = e := by
  rcases e.cancelPending_cases tag with ⟨p, hp, ht, -⟩ | ⟨-, h'⟩
  · exact absurd (by simp [hp, ht]) h
  · exact h'

/-! ### The gate -/

/-- What the release test can do (R140): nothing, shut the gate, or release. -/
theorem Event.releaseTest_cases (e : Event) (t : Tunnel) (grant : Bool) :
    (e.releaseTest t grant = (e, none)) ∨
    (∃ r v, e.toState.finalRack t = some r ∧ r.sheet.bind (·.verdict) = some v ∧
      e.toState.gateDestination t v r.passes = none ∧
      e.releaseTest t grant =
        ((e.setTunnel t { e.tunnels.get t with gateShut := true }).raise (.exitBlocked t), none)) ∨
    (∃ r v d cause e', e.toState.finalRack t = some r ∧ r.sheet.bind (·.verdict) = some v ∧
      e.toState.gateDestination t v r.passes = some (d, cause) ∧
      (e' = e ∨ ∃ p, (e.tunnels.get t).deferredExit = some p ∧ grant = true ∧ e' = e.send p (.grantExit r.tag v d)) ∧
      e.releaseTest t grant = (e'.release t r v d cause, some (v, d))) := by
  unfold Event.releaseTest
  split
  · exact .inl rfl
  · rename_i r hr
    split
    · rename_i v hv _
      split
      · exact .inr (.inl ⟨r, v, hr, hv, ‹_›, rfl⟩)
      · rename_i d cause hd
        refine .inr (.inr ⟨r, v, d, cause, _, hr, hv, hd, ?_, rfl⟩)
        split
        · exact .inr ⟨_, ‹_›, rfl, rfl⟩
        · exact .inl rfl
    · exact .inl rfl

/-- The rows of R139 as the model has them and as the statements write them. -/
theorem State.gateDestination_eq (s : State) (t : Tunnel) (v : Verdict) (passes : Nat) :
    s.gateDestination t v passes = s.gateRow t v passes := by
  unfold State.gateDestination State.gateRow
  simp only [State.hasRoom, decide_eq_true_eq]
  simp only [Config.unloadCapacity, Config.collectCapacity, Config.holdCapacity]
  by_cases hv : v = .pass
  · simp only [hv, if_true]
    rfl
  · by_cases h : passes < 3 <;> simp [hv, h] <;> rfl

/-- What a readiness test can do (R134 to R136). -/
theorem Event.readinessTest_cases (e : Event) (t : Tunnel) :
    e.readinessTest t = e ∨ ∃ r p, e.toState.finalRack t = some r ∧ r.sheet = some p ∧ p.verdict = none ∧
      p.ready e.config e.now = true ∧
      (let e' := e.modifySheet r.tag fun p => p.judged e.config e.now
       e.readinessTest t = if p.exitRequested then (e'.releaseTest t true).1 else e') := by
  unfold Event.readinessTest
  split
  · exact .inl rfl
  · split
    · exact .inl rfl
    · rename_i r hr _ p hp
      split
      · rename_i h
        simp only [Bool.and_eq_true, Option.isNone_iff_eq_none] at h
        exact .inr ⟨r, p, hr, hp, h.1, h.2, rfl⟩
      · exact .inl rfl

/-! ### The end of an event -/

/-- An event that owes nothing is settled already. -/
theorem Event.settle_of_nothing_owed {e : Event} (hp : e.wantPairing = false) (hr : e.wantReeval = false)
    (hroom : e.room = ⟨false, false⟩) (hi : e.wantIdle = false) : e.settle = e := by
  have hpass : e.pass = e := by
    simp [Event.pass, Event.roomReports, Event.roomReport, Event.reevaluate, hr, hroom, PerTunnel.get]
  simp [Event.settle, Event.pairIfWanted, Event.idleIfWanted, hp, hpass, hi]

theorem Event.pairAll_nil (e : Event) : e.pairAll [] = e := rfl

/-- Room that is reported to gates that are not shut changes nothing but the report. -/
theorem Event.roomReports_open {e : Event} (ha : e.tunnels.a.gateShut = false) (hb : e.tunnels.b.gateShut = false) :
    e.roomReports = { e with room := ⟨false, false⟩ } := by
  have hroom : e.room = ⟨e.room.a, e.room.b⟩ := rfl
  cases h1 : e.room.a <;> cases h2 : e.room.b <;>
    simp [Event.roomReports, Event.roomReport, PerTunnel.get, PerTunnel.set, h1, h2, ha, hb] <;>
    (rw [h1, h2] at hroom; cases e; simp_all)

/-- With nothing that waits for it, an event's end leaves the state and the messages as they are. -/
theorem Event.settle_quiet {e : Event} (hq : e.toState.quiet) (hi : e.wantIdle = false) :
    e.settle.toState = e.toState ∧ e.settle.out = e.out := by
  obtain ⟨hpend, hun, ha, hb⟩ := hq
  have pass : ∀ e : Event, e.pendingAdmission = none → e.tunnels.a.gateShut = false → e.tunnels.b.gateShut = false →
      e.pass = { e with room := ⟨false, false⟩, wantReeval := false } := by
    intro e hp ha hb
    rw [Event.pass, Event.roomReports_open ha hb, Event.reevaluate]
    cases hr : e.wantReeval
    · cases e; simp_all
    · simp [hp]
  have hpair : e.pairIfWanted = { e with wantPairing := false } := by
    unfold Event.pairIfWanted
    cases h : e.wantPairing
    · cases e; simp_all
    · simp [Event.pair, hun, Event.pairAll_nil]
  have h1 := pass { e with wantPairing := false } hpend ha hb
  have h2 := pass { e with wantPairing := false, room := ⟨false, false⟩, wantReeval := false } hpend ha hb
  rw [Event.settle, hpair, h1, h2, h2, h2]
  simp [Event.idleIfWanted, hi]

/-- The end of such an event: its answer, then its messages. -/
theorem Event.finish_quiet {e : Event} (hq : e.toState.quiet) (hi : e.wantIdle = false)
    (reply : Option (Port × Answer)) :
    e.finish reply = (match reply with
      | some (p, a) => e.toState.pushAnswer p .head a
      | none => e.toState).deliver (inOrder e.out) := by
  obtain ⟨hs, ho⟩ := Event.settle_quiet hq hi
  cases reply <;> simp only [Event.finish, hs, ho]

/-- The end of an event that owes nothing. -/
theorem Event.finish_of_nothing_owed {e : Event} (hp : e.wantPairing = false) (hr : e.wantReeval = false)
    (hroom : e.room = ⟨false, false⟩) (hi : e.wantIdle = false) (reply : Option (Port × Answer)) :
    e.finish reply = (match reply with
      | some (p, a) => e.toState.pushAnswer p .head a
      | none => e.toState).deliver (inOrder e.out) := by
  cases reply <;> simp only [Event.finish, Event.settle_of_nothing_owed hp hr hroom hi]

theorem inOrder_nil : inOrder [] = [] := rfl

/-- Messages of one rank are in their order already (R170). -/
theorem inOrder_of_rank {out : List (Port × Message)} {k : Nat} (h : ∀ x ∈ out, x.2.rank = k) (hk : k ≤ 3) :
    inOrder out = out := by
  have hf : ∀ j, out.filter (fun x => decide (x.2.rank = j)) = if j = k then out else [] := by
    intro j
    split
    · rename_i hj
      exact List.filter_eq_self.mpr fun x hx => by simp [h x hx, hj]
    · rename_i hj
      exact List.filter_eq_nil_iff.mpr fun x hx => by simp [h x hx, Ne.symm hj]
  have : k = 0 ∨ k = 1 ∨ k = 2 ∨ k = 3 := by omega
  rcases this with rfl | rfl | rfl | rfl <;> simp [inOrder, hf]

/-- One message for every port of a role is in order. -/
theorem inOrder_toRole (s : State) (role : Role) (m : Message) : inOrder (s.toRole role m) = s.toRole role m := by
  refine inOrder_of_rank (k := m.rank) ?_ (by cases m <;> simp [Message.rank]; rename_i w; cases w <;> simp)
  intro x hx
  simp only [State.toRole, List.mem_map] at hx
  obtain ⟨p, -, rfl⟩ := hx
  rfl

@[simp] theorem State.deliver_nil (s : State) : s.deliver [] = s := rfl

theorem State.deliver_append (s : State) (ms ns : List (Port × Message)) :
    s.deliver (ms ++ ns) = (s.deliver ms).deliver ns := by
  induction ms generalizing s with
  | nil => rfl
  | cons x xs ih => exact ih _

/-! Messages change the ports alone. -/

@[simp] theorem State.deliver_pending (s : State) (ms : List (Port × Message)) : (s.deliver ms).pending = s.pending := by
  induction ms generalizing s with
  | nil => rfl
  | cons x xs ih => exact ih (s.pushMessage x.1 x.2)

@[simp] theorem State.deliver_rstLow (s : State) (ms : List (Port × Message)) : (s.deliver ms).rstLow = s.rstLow := by
  induction ms generalizing s with
  | nil => rfl
  | cons x xs ih => exact ih (s.pushMessage x.1 x.2)

@[simp] theorem State.deliver_straps (s : State) (ms : List (Port × Message)) : (s.deliver ms).straps = s.straps := by
  induction ms generalizing s with
  | nil => rfl
  | cons x xs ih => exact ih (s.pushMessage x.1 x.2)

@[simp] theorem State.deliver_identity (s : State) (ms : List (Port × Message)) : (s.deliver ms).identity = s.identity := by
  induction ms generalizing s with
  | nil => rfl
  | cons x xs ih => exact ih (s.pushMessage x.1 x.2)

@[simp] theorem State.deliver_fallback (s : State) (ms : List (Port × Message)) : (s.deliver ms).fallback = s.fallback := by
  induction ms generalizing s with
  | nil => rfl
  | cons x xs ih => exact ih (s.pushMessage x.1 x.2)

@[simp] theorem State.deliver_divisor (s : State) (ms : List (Port × Message)) : (s.deliver ms).divisor = s.divisor := by
  induction ms generalizing s with
  | nil => rfl
  | cons x xs ih => exact ih (s.pushMessage x.1 x.2)

@[simp] theorem State.deliver_now (s : State) (ms : List (Port × Message)) : (s.deliver ms).now = s.now := by
  induction ms generalizing s with
  | nil => rfl
  | cons x xs ih => exact ih (s.pushMessage x.1 x.2)

@[simp] theorem State.deliver_config (s : State) (ms : List (Port × Message)) : (s.deliver ms).config = s.config := by
  induction ms generalizing s with
  | nil => rfl
  | cons x xs ih => exact ih (s.pushMessage x.1 x.2)

@[simp] theorem State.deliver_racks (s : State) (ms : List (Port × Message)) : (s.deliver ms).racks = s.racks := by
  induction ms generalizing s with
  | nil => rfl
  | cons x xs ih => exact ih (s.pushMessage x.1 x.2)

@[simp] theorem State.deliver_windows (s : State) (ms : List (Port × Message)) : (s.deliver ms).windows = s.windows := by
  induction ms generalizing s with
  | nil => rfl
  | cons x xs ih => exact ih (s.pushMessage x.1 x.2)

@[simp] theorem State.deliver_demand (s : State) (ms : List (Port × Message)) : (s.deliver ms).demand = s.demand := by
  induction ms generalizing s with
  | nil => rfl
  | cons x xs ih => exact ih (s.pushMessage x.1 x.2)

@[simp] theorem State.deliver_tunnels (s : State) (ms : List (Port × Message)) : (s.deliver ms).tunnels = s.tunnels := by
  induction ms generalizing s with
  | nil => rfl
  | cons x xs ih => exact ih (s.pushMessage x.1 x.2)

@[simp] theorem State.deliver_boosterHistory (s : State) (ms : List (Port × Message)) : (s.deliver ms).boosterHistory = s.boosterHistory := by
  induction ms generalizing s with
  | nil => rfl
  | cons x xs ih => exact ih (s.pushMessage x.1 x.2)

@[simp] theorem State.deliver_lastAdmission (s : State) (ms : List (Port × Message)) : (s.deliver ms).lastAdmission = s.lastAdmission := by
  induction ms generalizing s with
  | nil => rfl
  | cons x xs ih => exact ih (s.pushMessage x.1 x.2)

@[simp] theorem State.deliver_lastChosen (s : State) (ms : List (Port × Message)) : (s.deliver ms).lastChosen = s.lastChosen := by
  induction ms generalizing s with
  | nil => rfl
  | cons x xs ih => exact ih (s.pushMessage x.1 x.2)

@[simp] theorem State.deliver_pendingAdmission (s : State) (ms : List (Port × Message)) : (s.deliver ms).pendingAdmission = s.pendingAdmission := by
  induction ms generalizing s with
  | nil => rfl
  | cons x xs ih => exact ih (s.pushMessage x.1 x.2)

@[simp] theorem State.deliver_notices (s : State) (ms : List (Port × Message)) : (s.deliver ms).notices = s.notices := by
  induction ms generalizing s with
  | nil => rfl
  | cons x xs ih => exact ih (s.pushMessage x.1 x.2)

@[simp] theorem State.deliver_commandBuffer (s : State) (ms : List (Port × Message)) : (s.deliver ms).commandBuffer = s.commandBuffer := by
  induction ms generalizing s with
  | nil => rfl
  | cons x xs ih => exact ih (s.pushMessage x.1 x.2)

@[simp] theorem State.deliver_response (s : State) (ms : List (Port × Message)) : (s.deliver ms).response = s.response := by
  induction ms generalizing s with
  | nil => rfl
  | cons x xs ih => exact ih (s.pushMessage x.1 x.2)

@[simp] theorem State.deliver_miso (s : State) (ms : List (Port × Message)) : (s.deliver ms).miso = s.miso := by
  induction ms generalizing s with
  | nil => rfl
  | cons x xs ih => exact ih (s.pushMessage x.1 x.2)

@[simp] theorem State.deliver_draws (s : State) (ms : List (Port × Message)) : (s.deliver ms).draws = s.draws := by
  induction ms generalizing s with
  | nil => rfl
  | cons x xs ih => exact ih (s.pushMessage x.1 x.2)

/-! ### Requests and transactions -/

/-- A command that RST lets through. -/
theorem unlessReset_of_high {s : State} (h : s.rstLow = false) (f : State → State) : unlessReset s f = .next (f s) := by
  simp [unlessReset, h]

/-- A request that arrives at an empty queue becomes the head and is served (R167). -/
theorem State.arrive_empty {s : State} {p : Port} (h : s.ports[p].queue = []) (r : RawRequest) :
    s.arrive p r = (s.modifyPort p fun x => { x with queue := x.queue ++ [r] }).serve p r := by
  unfold State.arrive
  simp only [h, Config.queueLimit, List.length_nil]
  rfl

/-- What an arrival does (R167). -/
theorem State.arrive_cases (s : State) (p : Port) (r : RawRequest) :
    (s.ports[p].queue = [] ∧
      s.arrive p r = (s.modifyPort p fun x => { x with queue := x.queue ++ [r] }).serve p r) ∨
    (s.ports[p].queue.length = 1 ∧ s.arrive p r = s.modifyPort p fun x => { x with queue := x.queue ++ [r] }) ∨
    (2 ≤ s.ports[p].queue.length ∧ s.ports[p].busyPending = true ∧ s.arrive p r = s) ∨
    (2 ≤ s.ports[p].queue.length ∧ s.ports[p].busyPending = false ∧
      s.arrive p r = (s.modifyPort p fun x => { x with busyPending := true }).pushAnswer p .busy
        ⟨answerCode r.kind, .busy, .alone⟩) := by
  by_cases h0 : s.ports[p].queue = []
  · exact .inl ⟨h0, State.arrive_empty h0 r⟩
  · have hpos : 0 < s.ports[p].queue.length := List.length_pos_iff.mpr h0
    have he : s.ports[p].queue.isEmpty = false := List.isEmpty_eq_false_iff.mpr h0
    by_cases h2 : s.ports[p].queue.length < 2
    · refine .inr (.inl ⟨by omega, ?_⟩)
      simp only [State.arrive, Config.queueLimit, if_pos h2, he]
      rfl
    · have hge : 2 ≤ s.ports[p].queue.length := by omega
      cases hb : s.ports[p].busyPending
      · refine .inr (.inr (.inr ⟨hge, rfl, ?_⟩))
        simp only [State.arrive, Config.queueLimit, if_neg h2, hb]
        rfl
      · refine .inr (.inr (.inl ⟨hge, rfl, ?_⟩))
        simp only [State.arrive, Config.queueLimit, if_neg h2, hb, if_true]

/-- What the end of a transaction does (R179). -/
theorem State.take_cases (s : State) (x : Transfer) (fits : Bool) (act : State → Taken) :
    ((s.rstLow = true ∨ x.clocked = 0) ∧ s.take x fits act = s) ∨
    (s.rstLow = false ∧ x.clocked ≠ 0 ∧ fits = true ∧
      s.take x fits act = ((act s).event.finish none).respond x ⟨(act s).status, (act s).body⟩) ∨
    (s.rstLow = false ∧ x.clocked ≠ 0 ∧ fits = false ∧ s.take x fits act = s.respond x ⟨.badValue, .alone⟩) := by
  unfold State.take
  by_cases h : s.rstLow = true ∨ x.clocked = 0
  · exact .inl ⟨h, by simp [h]⟩
  · have h' : s.rstLow = false ∧ x.clocked ≠ 0 := by simpa using h
    cases fits
    · exact .inr (.inr ⟨h'.1, h'.2, rfl, by simp [h'.1, h'.2]⟩)
    · exact .inr (.inl ⟨h'.1, h'.2, rfl, by simp [h'.1, h'.2]⟩)

/-- A whole transaction of the length its command allows is taken. -/
theorem lengthFits_of_whole {x : Transfer} {n : Nat} (h : x.isWhole n) : lengthFits x n true = true := by
  obtain ⟨h1, h2, h3⟩ := h
  simp [lengthFits, h1, h2, h3]

/-- A whole transaction while RST is high is carried out. -/
theorem State.take_whole {s : State} {x : Transfer} {n : Nat} (hr : s.rstLow = false) (h : x.isWhole n)
    (act : State → Taken) :
    s.take x (lengthFits x n true) act = ((act s).event.finish none).respond x ⟨(act s).status, (act s).body⟩ := by
  rw [lengthFits_of_whole h]
  rcases s.take_cases x true act with ⟨hc, -⟩ | ⟨-, -, -, h'⟩ | ⟨-, -, hf, -⟩
  · rcases hc with hc | hc
    · rw [hr] at hc; cases hc
    · have := h.1; omega
  · exact h'
  · cases hf

/-- An event that has changed nothing ends with the state it began with. -/
theorem State.event_finish_none (s : State) : s.event.finish none = s :=
  Event.finish_of_nothing_owed rfl rfl rfl rfl none

/-- A request that changes nothing leaves its answer alone. -/
theorem State.event_finish_answer (s : State) (p : Port) (a : Answer) :
    s.event.finish (some (p, a)) = s.pushAnswer p .head a :=
  Event.finish_of_nothing_owed rfl rfl rfl rfl (some (p, a))

/-- A request row on a free port: its answer, after what its service does (R167, R168). -/
theorem request_free {s : State} {p : Port} {role : Role} (h : s.free p role) (k : ReqKind) (payload : List Byte) :
    request p k payload s =
      .next ((s.modifyPort p fun x => { x with queue := x.queue ++ [⟨k.code, payload⟩] }).serve p ⟨k.code, payload⟩) := by
  rw [request, unlessReset_of_high h.1, State.arrive_empty h.2.2]

/-- The kind code of a request is its own, and so is its answer's. -/
theorem requestKindOf_code (k : ReqKind) : requestKindOf k.code = some k := by cases k <;> rfl

theorem answerCode_code (k : ReqKind) : answerCode k.code = k.code + 0x80 := by cases k <;> rfl

/-- An answer pushed to a port whose request has just joined is what the statements call answered. -/
theorem State.pushAnswer_answered (s : State) (p : Port) (k : ReqKind) (payload : List Byte) (st : Status)
    (f : Fields) :
    (s.modifyPort p fun x => { x with queue := x.queue ++ [⟨k.code, payload⟩] }).pushAnswer p .head
      ⟨answerCode k.code, st, f⟩ = s.answered p k payload st f := by
  simp [State.pushAnswer, State.answered, State.modifyPort, PortState.withFrame, answerCode_code]

end Sys2Proof.Machine
end

