-- ==== Sys2Proof/Laws/End.lean ====
section
/-! SUPPORT. The operations at the end of an event do what the words of Safety.lean say: pairing, idle expiry, the
departure from a lane, and re-evaluation where nothing is pending. Each is said once, as what it makes of the state and
the messages it adds. -/

namespace Sys2Proof.Machine

/-- The event `e'` is `e` with the change `f` made: its state is what `f` makes of the state of `e`, and the messages of
`f` follow those of `e`. -/
abbrev Event.carries (e e' : Event) (f : State → Made) : Prop :=
  e'.toState = (f e.toState).1 ∧ e'.out = e.out ++ (f e.toState).2

/-- One change after another. -/
theorem Event.carries.followed {e e' e'' : Event} {f g : State → Made} (h : e.carries e' f) (h' : e'.carries e'' g) :
    e.carries e'' fun s => followed (f s) g := by
  obtain ⟨hs, ho⟩ := h
  obtain ⟨hs', ho'⟩ := h'
  simp only [Event.carries, Machine.followed]
  rw [← hs, hs', ho', ho, List.append_assoc]
  exact ⟨rfl, rfl⟩

/-! ### Pairing (R154) -/

theorem Event.pairOne_carries (e : Event) (r : Rack) : e.carries (e.pairOne r) (·.offered r) := by
  unfold Event.carries Event.pairOne State.offered
  cases h : e.toState.pairingEntry r <;> simp [h, Event.sendRole, Event.modifyRack, State.toRole]

/-- Pairing owes nothing that the event did not owe. -/
theorem Event.pairOne_owes (e : Event) (r : Rack) : (e.pairOne r).wantReeval = e.wantReeval ∧
    (e.pairOne r).room = e.room ∧ (e.pairOne r).wantIdle = e.wantIdle := by
  unfold Event.pairOne
  cases e.toState.pairingEntry r <;> simp [Event.sendRole, Event.modifyRack]

theorem Event.pairAll_carries (rs : List Rack) : ∀ e : Event, e.carries (e.pairAll rs) (·.offeredAll rs) := by
  induction rs with
  | nil => intro e; simp [Event.carries, Event.pairAll, State.offeredAll]
  | cons r rs ih => exact fun e => (e.pairOne_carries r).followed (ih _)

theorem Event.pairAll_owes (rs : List Rack) : ∀ e : Event, (e.pairAll rs).wantReeval = e.wantReeval ∧
    (e.pairAll rs).room = e.room ∧ (e.pairAll rs).wantIdle = e.wantIdle := by
  induction rs with
  | nil => exact fun e => ⟨rfl, rfl, rfl⟩
  | cons r rs ih =>
    intro e
    obtain ⟨h1, h2, h3⟩ := ih (e.pairOne r)
    obtain ⟨g1, g2, g3⟩ := e.pairOne_owes r
    exact ⟨h1.trans g1, h2.trans g2, h3.trans g3⟩

/-- A run of pairing pairs every unassigned rack, in the order of joining. -/
theorem Event.pair_carries (e : Event) : e.carries e.pair (·.paired) := e.pairAll_carries _

/-- With no eligible entry for any of them, pairing makes nothing of these racks. -/
theorem State.offeredAll_of_none (s : State) (rs : List Rack) (h : ∀ r ∈ rs, s.pairingEntry r = none) :
    s.offeredAll rs = (s, []) := by
  induction rs with
  | nil => rfl
  | cons r rs ih =>
    have h1 : s.offered r = (s, []) := by simp [State.offered, h r List.mem_cons_self]
    rw [State.offeredAll, h1, followed, ih fun x hx => h x (List.mem_cons_of_mem _ hx)]
    rfl

theorem State.paired_of_pairedLaw {s : State} (h : s.pairedLaw) : s.paired = (s, []) :=
  s.offeredAll_of_none _ h.2

/-- Pairing, whether the event owes a run or not, where the state is paired if it does not. -/
theorem Event.pairIfWanted_carries (e : Event)
    (h : e.wantPairing = false → ∀ r ∈ e.toState.unassigned, e.toState.pairingEntry r = none) :
    e.carries e.pairIfWanted (·.paired) := by
  unfold Event.pairIfWanted
  cases hw : e.wantPairing
  · have := e.toState.offeredAll_of_none _ (h hw)
    simp [Event.carries, State.paired, this]
  · simpa using e.pair_carries

/-! ### Idle expiry (R69) -/

theorem Event.idleExpire_carries (e : Event) (t : Tunnel) : e.carries (e.idleExpire t) (·.idled t) := by
  have hc : e.toState.idleDue t = true ↔
      ((e.tunnels.get t).state = .ready ∨ (e.tunnels.get t).state = .running) ∧ e.config.idleTime ≠ 0 ∧
      ((e.tunnels.get t).idleStart.any fun x => decide (e.config.idleTime ≤ (e.now - x).toNat)) = true ∧
      e.toState.lane t = [] ∧ e.pendingAdmission = none := by
    cases hi : (e.tunnels.get t).idleStart with
    | none => simp [State.idleDue, hi]
    | some x =>
      simp only [State.idleDue, elapsed, hi, Bool.and_eq_true, Bool.or_eq_true, decide_eq_true_eq, Option.any_some,
        List.isEmpty_iff, Option.isNone_iff_eq_none, and_assoc, ne_eq]
      exact and_congr_right fun _ => and_congr_right fun _ => and_congr_left fun _ => (decide_eq_true_iff (p := _))
  unfold Event.carries Event.idleExpire State.idled
  by_cases h : e.toState.idleDue t = true
  · rw [if_pos h]
    simp only
    rw [if_pos (hc.mp h)]
    simp [Event.enter, Event.setTunnel, Event.sendRole, State.toRole]
  · rw [if_neg h]
    simp only
    rw [if_neg (mt hc.mpr h)]
    simp

theorem Event.idleIfWanted_carries (e : Event) (h : e.wantIdle = true) : e.carries e.idleIfWanted (·.idledBoth) := by
  unfold Event.idleIfWanted
  rw [if_pos h]
  exact (Event.idleExpire_carries ({ e with wantIdle := false } : Event) .a).followed (Event.idleExpire_carries _ .b)

/-! ### The gate (R140, R141) -/

/-- The lane of `t` is empty once `r` has been put elsewhere exactly when `r` was alone in it. -/
theorem State.lane_isEmpty_of_rejoined {s s' : State} {t : Tunnel} {r r' : Rack} (h : s'.racks = rejoined s.racks r')
    (ht : r'.tag = r.tag) (hp : r'.place ≠ .tunnel t) : (s'.lane t).isEmpty = s.lastInLane t r := by
  have hl : s'.lane t = (s.lane t).filter (·.tag ≠ r.tag) := by
    simp only [State.lane, State.members, h, rejoined, List.filter_append, ht]
    simp [hp, List.filter_filter, Bool.and_comm]
  rw [hl, State.lastInLane, Bool.eq_iff_iff]
  simp [List.isEmpty_iff, List.filter_eq_nil_iff]

/-- The record of a rack released is what its move out of the lane makes of it. -/
theorem Rack.moved_of_release (r : Rack) (t : Tunnel) (v : Verdict) (d : Destination) (cause : Option HoldCause)
    (now : Tick) (hr : r.place = .tunnel t) :
    ({ r with lastOutcome := some (.verdict v) } : Rack).moved d.rackState d.place cause now =
      r.released v d cause now := by
  cases cause <;> simp [Rack.moved, Rack.released, hr]

/-- What a lane departure leaves, `b` saying whether the lane is empty after it (R69, R72). -/
theorem Event.laneDeparted_carries (e : Event) (t : Tunnel) (b : Bool) (hb : (e.toState.lane t).isEmpty = b) :
    e.carries (e.laneDeparted t) fun s =>
      let c := s.tunnels.get t
      ({ s with tunnels := s.tunnels.set t (if b then
          match c.state with
          | .closing => { c with state := .off }
          | .ready | .running => { c with idleStart := some s.now }
          | _ => c
        else c) },
        if b = true ∧ c.state = .closing then s.toRole (.tunnel t) (.tunnelState t .off false) else []) := by
  cases b
  · simp [Event.carries, Event.laneDeparted, hb]
  · cases hst : (e.tunnels.get t).state <;>
      simp [Event.carries, Event.laneDeparted, hb, hst, Event.enter, Event.setTunnel, Event.sendRole, State.toRole]
    rfl

theorem Destination.place_ne_tunnel (d : Destination) (t : Tunnel) : d.place ≠ .tunnel t := by cases d <;> nofun

/-- What a join leaves: the record at the tail of its place, and HOLD_FULL at the eighth rack of HOLD (R48). -/
theorem Event.join_toState (e : Event) (r : Rack) : (e.join r).toState =
    if r.place = .hold then ({ e.toState with racks := rejoined e.racks r } : State).holdNoted
    else { e.toState with racks := rejoined e.racks r } := by
  unfold Event.join
  cases h : r.place
  case hold =>
    by_cases hc : ((rejoined e.racks r).filter (·.place = .hold)).length = 8 <;>
      simp_all [State.holdNoted, State.count, State.members, rejoined, Event.raise, State.raise, Config.holdCapacity]
  all_goals rfl

/-! ### Re-evaluation (R92) -/

/-- A change that makes nothing adds nothing. -/
theorem followed_nothing {x : Made} {f : State → Made} (h : f x.1 = (x.1, [])) : followed x f = x := by
  simp [followed, h]

theorem State.reconsidered_of_none {s : State} (h : s.pendingAdmission = none) : s.reconsidered = (s, []) := by
  simp [State.reconsidered, h]

/-- With nothing pending a tunnel's change of state is that change and TUNNEL_STATE. -/
theorem State.turned_of_none {s : State} (h : s.pendingAdmission = none) (t : Tunnel) (c : TunnelContext)
    (fresh : Bool) : s.turned t c fresh =
      ({ s with tunnels := s.tunnels.set t c }, s.toRole (.tunnel t) (.tunnelState t c.state fresh)) :=
  followed_nothing (State.reconsidered_of_none h)

/-- A gate that is not shut makes no test when it is told of room. -/
theorem State.retested_of_open {s : State} {t : Tunnel} (h : (s.tunnels.get t).gateShut = false) :
    s.retested t = (s, []) := by
  simp [State.retested, h]

end Sys2Proof.Machine
end

