-- ==== Sys2Proof/Laws/PerInstr.lean ====
section
/-! SUPPORT. A statement for every command, proved command by command. -/

namespace Sys2Proof.Laws.RowGroups

open Machine

/-- A row is of at most one group: a reset, a station request, a supervisor transaction; and the request frame of a
station row has a payload of at most 20 bytes (R165). -/
def Statement (c : Instr) : Prop :=
  (∀ w, c.wire = some w → w.2.2.length ≤ 20 ∧ c.isReset = false ∧ c.isTransaction = false) ∧
    (c.isReset && c.isTransaction) = false

theorem of_wire {c : Instr} {w : Port × ReqKind × List Byte} (h : c.wire = some w) (hl : Nat.ble w.2.2.length 20 = true)
    (hr : c.isReset = false) (ht : c.isTransaction = false) : Statement c := by
  refine ⟨fun w' h' => ?_, by rw [hr]; rfl⟩
  rw [h] at h'
  cases h'
  exact ⟨Nat.le_of_ble_eq_true hl, hr, ht⟩

theorem of_none {c : Instr} (h : c.wire = none) (hd : (c.isReset && c.isTransaction) = false) : Statement c :=
  ⟨fun w' h' => (by rw [h] at h'; cases h'), hd⟩

theorem powerOn (straps : Straps) : Statement (.powerOn straps) := of_none rfl rfl
theorem rstAssert : Statement (.rstAssert) := of_none rfl rfl
theorem rstRelease (straps : Straps) : Statement (.rstRelease straps) := of_none rfl rfl
theorem tick : Statement (.tick) := of_none rfl rfl
theorem frameArrival (p : Port) (identity : Byte) (kind : Byte) (payload : List Byte) (check : Byte) : Statement (.frameArrival p identity kind payload check) := of_none rfl rfl
theorem partialFrameTimeout (p : Port) : Statement (.partialFrameTimeout p) := of_none rfl rfl
theorem lineBreak (p : Port) : Statement (.lineBreak p) := of_none rfl rfl
theorem frameSent (p : Port) : Statement (.frameSent p) := of_none rfl rfl
theorem sight (p : Port) (w : Byte) (tag : BitVec 24) : Statement (.sight p w tag) := of_wire rfl rfl rfl rfl
theorem dispatch (p : Port) (w : Byte) (load : Byte) : Statement (.dispatch p w load) := of_wire rfl rfl rfl rfl
theorem mode (p : Port) (w : Byte) (m : Byte) : Statement (.mode p w m) := of_wire rfl rfl rfl rfl
theorem withdraw (p : Port) (tag : BitVec 24) : Statement (.withdraw p tag) := of_wire rfl rfl rfl rfl
theorem query (p : Port) (tag : BitVec 24) : Statement (.query p tag) := of_wire rfl rfl rfl rfl
theorem admitRequest (p : Port) (tag : BitVec 24) : Statement (.admitRequest p tag) := of_wire rfl rfl rfl rfl
theorem sectionReport (p : Port) (stage : Byte) (seq : Byte) (measurement : BitVec 16) (fault : Byte) : Statement (.sectionReport p stage seq measurement fault) := of_wire rfl rfl rfl rfl
theorem sample (p : Port) (temperature : BitVec 16) : Statement (.sample p temperature) := of_wire rfl rfl rfl rfl
theorem exit (p : Port) (tag : BitVec 24) : Statement (.exit p tag) := of_wire rfl rfl rfl rfl
theorem tankReady (p : Port) : Statement (.tankReady p) := of_wire rfl rfl rfl rfl
theorem tankCold (p : Port) : Statement (.tankCold p) := of_wire rfl rfl rfl rfl
theorem tankFlushDone (p : Port) : Statement (.tankFlushDone p) := of_wire rfl rfl rfl rfl
theorem tankFault (p : Port) : Statement (.tankFault p) := of_wire rfl rfl rfl rfl
theorem emptied (p : Port) (tag : BitVec 24) : Statement (.emptied p tag) := of_wire rfl rfl rfl rfl
theorem relocate (p : Port) (tag : BitVec 24) (target : Byte) : Statement (.relocate p tag target) := of_wire rfl rfl rfl rfl
theorem nop (x : Transfer) : Statement (.nop x) := of_none rfl rfl
theorem readRecord (x : Transfer) (key : RecordKey) : Statement (.readRecord x key) := of_none rfl rfl
theorem readPlace (x : Transfer) (place : Byte) (index : Byte) : Statement (.readPlace x place index) := of_none rfl rfl
theorem readTunnel (x : Transfer) (t : Byte) : Statement (.readTunnel x t) := of_none rfl rfl
theorem readWindows (x : Transfer) : Statement (.readWindows x) := of_none rfl rfl
theorem readConfig (x : Transfer) (items : List (BitVec 16)) : Statement (.readConfig x items) := of_none rfl rfl
theorem writeConfig (x : Transfer) (pairs : List (BitVec 16 × BitVec 32)) : Statement (.writeConfig x pairs) := of_none rfl rfl
theorem retire (x : Transfer) (tag : BitVec 24) : Statement (.retire x tag) := of_none rfl rfl
theorem supervisorRelocate (x : Transfer) (tag : BitVec 24) (target : Byte) : Statement (.supervisorRelocate x tag target) := of_none rfl rfl
theorem tunnelStart (x : Transfer) (t : Byte) : Statement (.tunnelStart x t) := of_none rfl rfl
theorem tunnelStop (x : Transfer) (t : Byte) : Statement (.tunnelStop x t) := of_none rfl rfl
theorem tunnelFlush (x : Transfer) (t : Byte) : Statement (.tunnelFlush x t) := of_none rfl rfl
theorem tunnelClearFault (x : Transfer) (t : Byte) : Statement (.tunnelClearFault x t) := of_none rfl rfl
theorem windowMode (x : Transfer) (w : Byte) (m : Byte) : Statement (.windowMode x w m) := of_none rfl rfl
theorem windowClass (x : Transfer) (w : Byte) (c : Byte) : Statement (.windowClass x w c) := of_none rfl rfl
theorem readNotices (x : Transfer) : Statement (.readNotices x) := of_none rfl rfl
theorem clearNotices (x : Transfer) (named : BitVec 16) : Statement (.clearNotices x named) := of_none rfl rfl
theorem lineRestart (x : Transfer) : Statement (.lineRestart x) := of_none rfl rfl
theorem readTick (x : Transfer) : Statement (.readTick x) := of_none rfl rfl
theorem fetch (clocked : Nat) : Statement (.fetch clocked) := of_none rfl rfl
theorem lostRecordExpiry (tag : BitVec 24) : Statement (.lostRecordExpiry tag) := of_none rfl rfl
theorem idleTimerExpiry (t : Tunnel) : Statement (.idleTimerExpiry t) := of_none rfl rfl
theorem restartTimerExpiry (t : Tunnel) : Statement (.restartTimerExpiry t) := of_none rfl rfl
theorem flushTimerExpiry (t : Tunnel) : Statement (.flushTimerExpiry t) := of_none rfl rfl
theorem spacingExpiry (t : Tunnel) : Statement (.spacingExpiry t) := of_none rfl rfl
theorem lastAdmissionAgeOut (t : Tunnel) : Statement (.lastAdmissionAgeOut t) := of_none rfl rfl
theorem boosterAgeing : Statement (.boosterAgeing) := of_none rfl rfl
theorem boosterEntryRemoval : Statement (.boosterEntryRemoval) := of_none rfl rfl
theorem minimumDwellExpiry (t : Tunnel) : Statement (.minimumDwellExpiry t) := of_none rfl rfl
theorem maximumDwellExpiry (t : Tunnel) : Statement (.maximumDwellExpiry t) := of_none rfl rfl
theorem characterReceived (p : Port) (c : Byte) : Statement (.characterReceived p c) := of_none rfl rfl
theorem unknownCommandCode (x : Transfer) (code : Byte) : Statement (.unknownCommandCode x code) := of_none rfl rfl

end Sys2Proof.Laws.RowGroups
end

