-- ==== Sys2Proof/WellFormed.lean ====
section
/-! DEFINITION. Which terms of `Instr` stand for something that can reach the part's pins. The machine runs every
term; an ill-formed one describes no frame and no transaction. -/

namespace Sys2Proof

/-- The bytes clocked are the command code, the length field and as many bytes as the length field says (R179). -/
def Transfer.whole (x : Transfer) : Bool := decide (x.clocked = 3 + x.length.toNat)

/-- A list of `count` entries of `width` bytes is the payload of a whole transaction whose length is a multiple of
the width. -/
def Transfer.carries (x : Transfer) (width count : Nat) : Bool :=
  !x.whole || decide (x.length.toNat % width ≠ 0) || decide (x.length.toNat = width * count)

/-- A code that opens a transaction of the row UNKNOWN_COMMAND_CODE: none of the command table and not FETCH, or
TUNNEL's, for a TUNNEL whose action is above 3 (R180; log entry 7). -/
def namesNoRow (code : Byte) : Bool := (decide (0x0F < code.toNat) && decide (code ≠ 0xFF)) || decide (code = 0x09)

/-- The term describes a frame or a transaction: a complete frame has at most 20 payload bytes (R165), a bad
selector is above 1 (R180), a list of items is the whole payload, a code outside the table is outside it. -/
def Instr.wf : Instr → Bool
  | .frameArrival _ _ _ payload _ => decide (payload.length ≤ 20)
  | .readRecord _ (.badSelector selector) => decide (1 < selector.toNat)
  | .readConfig x items => x.carries 2 items.length
  | .writeConfig x pairs => x.carries 6 pairs.length
  | .unknownCommandCode _ code => namesNoRow code
  | .powerOn _ | .rstAssert | .rstRelease _ | .tick | .partialFrameTimeout _ | .lineBreak _ | .frameSent _
  | .characterReceived _ _ => true
  | .sight _ _ _ | .dispatch _ _ _ | .mode _ _ _ | .withdraw _ _ | .query _ _ | .admitRequest _ _
  | .sectionReport _ _ _ _ _ | .sample _ _ | .exit _ _ | .tankReady _ | .tankCold _ | .tankFlushDone _ | .tankFault _
  | .emptied _ _ | .relocate _ _ _ => true
  | .nop _ | .readRecord _ (.byTag _) | .readRecord _ (.bySlot _) | .readPlace _ _ _ | .readTunnel _ _
  | .readWindows _ | .retire _ _ | .supervisorRelocate _ _ _ | .tunnelStart _ _ | .tunnelStop _ _
  | .tunnelFlush _ _ | .tunnelClearFault _ _ | .windowMode _ _ _ | .windowClass _ _ _ | .readNotices _
  | .clearNotices _ _ | .lineRestart _ | .readTick _ | .fetch _ => true
  | .lostRecordExpiry _ | .idleTimerExpiry _ | .restartTimerExpiry _ | .flushTimerExpiry _ | .spacingExpiry _
  | .lastAdmissionAgeOut _ | .boosterAgeing | .boosterEntryRemoval | .minimumDwellExpiry _
  | .maximumDwellExpiry _ => true

end Sys2Proof
end

