-- ==== Sys2Proof/Tests/Slice0.lean ====
section
/-! SUPPORT. Our own tests: the ill-formed terms that WellFormed refuses, the spec's worked values, one step of the
commands, and for every statement with hypotheses a state and operands that meet them, clause by clause. -/

namespace Sys2Proof.Tests

open Sys2Proof Sys2Proof.Machine

set_option maxRecDepth 20000

/-! ### Small states -/

/-- The state after a command. -/
def after (c : Instr) (s : State) : State :=
  match exec c s with
  | .next t => t
  | .fault _ | .refused _ => s

/-- A PLATE record of base level 1. -/
def rk (tag slot : Nat) (st : RackState) (pl : Place) : Rack := newRack tag slot ⟨.plate, 1, false⟩ st pl 0

/-- A HELD record with its cause. -/
def heldRack (tag slot : Nat) (pl : Place) (c : HoldCause) : Rack :=
  { rk tag slot .held pl with lastOutcome := some (.hold c) }

/-- A pass sheet in a section, every section required. -/
def passIn (st : Stage) : PassSheet where
  tunnel := .a
  admissionSeq := 0
  requiredLevel := 1
  required := ⟨true, true, true⟩
  stage := st
  preFragment := none
  washFragment := none
  rinseFragment := none
  finalEntry := if st = .final then some 0 else none
  reference := if st = .final then some 0 else none
  credit := 0
  gap := false
  orderFault := false
  verdict := none
  exitRequested := false

/-- A rack in tunnel A's lane. -/
def washing (tag slot : Nat) (p : PassSheet) : Rack :=
  { rk tag slot .washing (.tunnel .a) with sheet := some p, passes := 1 }

/-- Racks 100 on, in slots 0 on, in one place. -/
def racks (n : Nat) (st : RackState) (pl : Place) : List Rack := (List.range n).map fun i => rk (100 + i) i st pl

/-- Racks 100 on, in slots 0 on, in HOLD. -/
def holdRacks (n : Nat) : List Rack := (List.range n).map fun i => heldRack (100 + i) i .hold .manual

/-- The reset state with these records. -/
def line (l : List Rack) : State := { State.reset with racks := l }

/-- A state with tunnel A's context changed. -/
def inA (s : State) (f : TunnelContext → TunnelContext) : State :=
  { s with tunnels := s.tunnels.set .a (f s.tunnels.a) }

/-- These records, with both tunnels RUNNING. -/
def running (l : List Rack) : State :=
  let c := { State.reset.tunnels.a with state := .running }
  { line l with tunnels := ⟨c, c⟩ }

/-- Tunnel A with a rack in FINAL and one in WASH. -/
def demo : State :=
  let c := { State.reset.tunnels.a with state := .running }
  { line [washing 7 1 (passIn .final), washing 8 2 (passIn .wash)] with
    tunnels := ⟨c, State.reset.tunnels.b⟩ }

/-- These records, and no demand. -/
def noDemand (l : List Rack) : State := { line l with demand := [] }

/-- A deferred enrolment of tag 5, which ADMIT of port 1 asked for, waits. -/
def waiting (s : State) : State := { s with pendingAdmission := some ⟨5, 1, some ⟨.plate, 1, false⟩⟩ }

/-- At this tick, after admissions into A at 0 and into B at 30, with this admission pending. -/
def aged (s : State) (now : Tick) (q : Option PendingAdmission) : State :=
  { s with now := now, lastAdmission := ⟨some 0, some 30⟩, boosterHistory := [0, 30], pendingAdmission := q }

/-- With this spacing and this booster window. -/
def timed (s : State) (spacing window : Nat) : State :=
  { s with config := { s.config with spacing := spacing, boosterWindow := window } }

/-- The sheet of a rack that has been read in FINAL and has failed. -/
def readAt (t : Tunnel) : PassSheet :=
  { passIn .final with tunnel := t, verdict := some .creditShort, exitRequested := true }

/-- The rack of that sheet: 7 in tunnel A, 8 in tunnel B. -/
def readRack (t : Tunnel) : Rack :=
  match t with
  | .a => washing 7 0 (readAt .a)
  | .b => { washing 8 1 (readAt .b) with place := .tunnel .b }

/-- Both gates shut on such a rack, and one more record. -/
def bothShut (y : Rack) : State :=
  let c := { State.reset.tunnels.a with state := .running, gateShut := true, deferredExit := some 2 }
  { line [readRack .a, readRack .b, y] with tunnels := ⟨c, { c with deferredExit := some 3 }⟩ }

/-- A state with one command in its queue. -/
def queued (s : State) (c : Instr) : State := { s with pending := [c] }

/-- A whole transaction with a payload of `n` bytes. -/
def whole (n : Nat) : Transfer := ⟨BitVec.ofNat 16 n, 3 + n⟩

/-- The answers and messages on a port after a command, without what their sending brings about. -/
def sent (p : Port) (c : Instr) (s : State) : List Frame := (after c s).ports[p].transmit.map (·.frame)

/-- An answer with its fields. -/
def answer (kind : Byte) (st : Status) (f : Fields := .alone) : Frame := .answer ⟨kind, st, f⟩

/-! ### Ill-formed terms (WellFormed) -/

theorem test_wf_refuses_long_payload : (Instr.frameArrival 0 0 0x14 (List.replicate 21 0) 0).wf = false := by decide
theorem test_wf_takes_longest_payload : (Instr.frameArrival 0 0 0x14 (List.replicate 20 0) 0).wf = true := by decide
theorem test_wf_refuses_selector_one_as_bad : (Instr.readRecord (whole 2) (.badSelector 1)).wf = false := by decide
theorem test_wf_takes_selector_two_as_bad : (Instr.readRecord (whole 2) (.badSelector 2)).wf = true := by decide
theorem test_wf_refuses_missing_items : (Instr.readConfig (whole 4) [1]).wf = false := by decide
theorem test_wf_takes_its_items : (Instr.readConfig (whole 4) [1, 2]).wf = true := by decide
theorem test_wf_refuses_missing_pairs : (Instr.writeConfig (whole 12) [(1, 5)]).wf = false := by decide
theorem test_wf_takes_a_broken_transaction : (Instr.writeConfig ⟨12, 4⟩ []).wf = true := by decide
theorem test_wf_refuses_known_code : (Instr.unknownCommandCode (whole 0) 0x0F).wf = false := by decide
theorem test_wf_refuses_fetch_code : (Instr.unknownCommandCode (whole 0) 0xFF).wf = false := by decide
theorem test_wf_takes_unknown_code : (Instr.unknownCommandCode (whole 0) 0x10).wf = true := by decide
theorem test_wf_takes_tunnel_code : (Instr.unknownCommandCode (whole 2) 0x09).wf = true := by decide

/-! ### The spec's worked values -/

/-- R166: TANK READY of a station with identity 5 is C5 05 33 01 00 and its check byte; CRC-8 with the polynomial
2F worked by hand is CB. -/
theorem test_check_byte : checkByte [0x05, 0x33, 0x01, 0x00] = 0xCB := by decide

/-- 7.3, the reference table of weights. -/
theorem test_weights : [709, 710, 760, 800, 812, 820, 825, 850, 900, 959, 960, 1000, 1200].map weight =
    [0, 16, 64, 192, 272, 336, 384, 768, 3072, 15872, 16384, 16384, 16384] := by decide

/-- 2.7, with the power-on tag windows: the class, base level and protected field of three tags. -/
theorem test_classification : [100010, 262200, 900000].map (fun n =>
      (State.reset.config.classify n).map fun w => (w.cls, w.baseLevel, w.enrol, w.protect)) =
    [some (.plate, 1, true, false), some (.cup, 1, true, false), some (.tray, 0, true, false)] := by decide

/-- R184: CLEAR_NOTICES clears only what it names. -/
theorem test_clear_notices_names :
    (after (.clearNotices (whole 2) 0x0003) { State.reset with notices := 0x0007 }).notices = 0x0004 := by decide

/-- R185: the counter wraps. -/
theorem test_tick_wraps : (after .tick { State.reset with now := 4294967295 }).now = 0 := by decide

/-- R186: identity 5 (two straps high) with IDP low is even parity: identity 31 and IDENTITY_FALLBACK. -/
theorem test_even_parity_falls_back :
    let t := after (.powerOn ⟨5, false, true, false⟩) State.reset
    (t.identity, t.notices, t.divisor) = (31, 0x8000, 1200000) := by decide

/-- R186: identity 5 with IDP high is odd parity. -/
theorem test_odd_parity_takes_identity :
    let t := after (.rstRelease ⟨5, true, false, true⟩) State.reset
    (t.identity, t.notices, t.divisor) = (5, 0, 800000) := by decide

/-- R187: RST low holds everything at rest. -/
theorem test_rst_low_ignores : (after .tick (after .rstAssert State.reset)).now = 0 := by decide

/-- R166: a frame for another identity raises WRONG_LINE and is not answered. -/
theorem test_wrong_line :
    let t := after (.frameArrival 2 0x05 0x33 [0x00] 0xCB) State.reset
    (t.notices, t.ports[(2 : Port)].transmit) = (0x4000, []) := by decide

/-- R165: the sixth character ends a frame of one payload byte. -/
theorem test_last_character_completes :
    let s := { State.reset with
      identity := 5
      ports := State.reset.ports.set 2 { State.reset.ports[(2 : Port)] with
        assembly := [0xC5, 0x05, 0x33, 0x01, 0x00] } }
    sent 2 (.characterReceived 2 0xCB) s = [answer 0xB3 .done (.tank .off)] := by decide

/-- 10.8: the third request is answered BUSY, the fourth is discarded. -/
theorem test_busy_once :
    let s := after (.sight 0 2 262777) (after (.query 0 10001) State.reset)
    let t := after (.dispatch 0 1 0xFF) s
    sent 0 (.dispatch 0 1 0xFF) s = [answer 0x94 .unknownTag, answer 0x91 .busy] ∧
      sent 0 (.mode 0 9 1) t = [answer 0x94 .unknownTag, answer 0x91 .busy] := by decide

/-- 10.8: when the QUERY answer is sent, the waiting SIGHT is served behind the BUSY. -/
theorem test_waiting_request_is_served :
    let s := after (.sight 0 2 262777) (after (.query 0 10001) State.reset)
    sent 0 (.frameSent 0) (after (.dispatch 0 1 0xFF) s) =
      [answer 0x91 .busy, answer 0x90 .done (.position false)] := by decide

/-- 10.8: MODE(9, …) names a window above 5. -/
theorem test_mode_malformed : sent 0 (.mode 0 9 1) State.reset = [answer 0x92 .malformed] := by decide

/-- 9.10 at 10,000: DISPATCH(1, 3) swaps 10,012 to FILL and posts an entry. -/
theorem test_dispatch_swaps :
    let s := { line [rk 10011 1 .filling (.windowFill 1), rk 10012 2 .empty (.windowSpare 1)] with
      demand := [⟨0, 9800⟩], now := 10000 }
    let t := after (.dispatch 0 1 3) s
    sent 0 (.dispatch 0 1 3) s = [answer 0x91 .done (.dispatched 10011 (some 10012))] ∧
      t.demand = [⟨0, 9800⟩, ⟨1, 10000⟩] ∧ t.notices = 0 ∧
      t.racks.map (fun r => (r.tag, r.place, r.state)) =
        [(10011, .collect, .soiled), (10012, .windowFill 1, .filling)] := by decide

/-- 9.10 at 10,020: the second DISPATCH leaves W1 starved. -/
theorem test_dispatch_starves :
    let s := { line [rk 10012 2 .filling (.windowFill 1)] with demand := [⟨0, 9800⟩, ⟨1, 10000⟩], now := 10020 }
    (after (.dispatch 0 1 0xFF) s).notices = 0x2000 := by decide

/-- 9.10 at 10,050: the starved window's entry is served before W0's older one. -/
theorem test_pairing_starved_first :
    let s := { line [rk 10001 0 .filling (.windowFill 0), rk 30500 1 .clean (.unload .a)] with
      demand := [⟨0, 9800⟩, ⟨1, 10000⟩, ⟨1, 10020⟩], now := 10050 }
    let t := after (.emptied 4 30500) s
    t.demand = [⟨0, 9800⟩, ⟨1, 10020⟩] ∧
      t.ports[(0 : Port)].transmit = [⟨.loose, .message (.route 30500 (some 1))⟩] := by decide

/-- 9.10 at 10,070: STOP clears both routes, and 30,500 is paired with W0's entry. -/
theorem test_stop_repairs :
    let s := { line [rk 10001 0 .filling (.windowFill 0), { rk 30500 1 .empty .returnLoop with destination := some 1 },
        { rk 30777 2 .empty .returnLoop with destination := some 1 }] with demand := [⟨0, 9800⟩], now := 10070 }
    sent 0 (.mode 0 1 2) s = [answer 0x92 .done (.mode .stop), .message (.route 30500 none),
      .message (.route 30777 none), .message (.route 30500 (some 0))] := by decide

/-- 9.10 at 10,120: ACCEPT posts two entries, and the waiting rack is routed to the starved window. -/
theorem test_accept_posts_two :
    let s := { line [{ rk 30777 2 .empty .returnLoop with destination := none }] with
      demand := [], now := 10120, windows := State.reset.windows.set 1 ⟨.plate, .stop⟩ }
    let t := after (.windowMode (whole 2) 1 0) s
    t.demand = [⟨1, 10120⟩] ∧ t.racks.map (·.destination) = [some 1] := by decide

/-- 9.11 at 20,020: with RETURN full a rack not due is refused and keeps its count. -/
theorem test_return_full_keeps_cycles :
    let s := line ({ rk 30500 90 .clean (.unload .b) with cls := .tray, cycles := 100 } :: racks 32 .empty .returnLoop)
    let t := after (.emptied 5 30500) s
    sent 5 (.emptied 5 30500) s = [answer 0xC0 .returnFull] ∧ (t.rack? 30500).map (·.cycles) = some 100 := by decide

/-- 9.11 at 20,000: the 4,000th cycle of a CUP rack takes it to HOLD, the eighth there. -/
theorem test_service_due_to_hold :
    let s := line ({ rk 262900 90 .clean (.unload .b) with cls := .cup, cycles := 3999 } :: holdRacks 7)
    sent 5 (.emptied 5 262900) s = [answer 0xC0 .done (.emptied .hold 4000 true)] ∧
      (after (.emptied 5 262900) s).notices = 0x1400 := by decide

/-- 6.10 at 2,210: RINSE is full; the refusal names the rack and the section and raises TRACK_FAULT_A. -/
theorem test_section_full :
    let s := running [washing 100001 1 (passIn .rinse), washing 100002 2 (passIn .wash)]
    sent 2 (.sectionReport 2 1 1 1350 0) s = [answer 0xB0 .sectionFull (.noRoom 100002 .rinse)] ∧
      (after (.sectionReport 2 1 1 1350 0) s).notices = 0x0010 := by decide

/-- 6.10 at 2,230: the report out of RINSE sets both ticks and stores the fragment. -/
theorem test_section_into_final :
    let s := { running [washing 100001 1 (passIn .rinse)] with now := 2230 }
    ((after (.sectionReport 2 2 0 712 0) s).racks.map (·.sheet)) = [some { passIn .final with
      rinseFragment := some ⟨0, some 712, 0, false⟩, finalEntry := some 2230, reference := some 2230 }] := by decide

/-- 7.8 at 1,005: T = 812 over 5 ticks earns 1,360. -/
theorem test_sample_accrues :
    let p := { passIn .final with finalEntry := some 1000, reference := some 1000 }
    let s := { running [washing 262500 1 p] with now := 1005 }
    sent 2 (.sample 2 812) s = [answer 0xB1 .done (.sampled none (some ⟨262500, 5, 1360, 1360, false⟩))] := by decide

/-- 7.9 at 1,045: 30 ticks are taken as 20, and the gap is set. -/
theorem test_sample_gap :
    let p := { passIn .final with finalEntry := some 1000, reference := some 1015, credit := 5120 }
    let s := inA { running [washing 262500 1 p] with now := 1045 } fun c => { c with lastSample := some 1015 }
    sent 2 (.sample 2 825) s = [answer 0xB1 .done (.sampled (some 30) (some ⟨262500, 20, 7680, 12800, true⟩))] := by
  decide

/-- 7.8 at 1,080 with the rack read: the sample makes it ready, and GRANT(EXIT) follows its answer. A sheet without
fragments fails MISSING_SECTION. -/
theorem test_sample_releases :
    let p := { passIn .final with
      finalEntry := some 1000, reference := some 1075, credit := 28160, exitRequested := true }
    let s := inA { running [washing 262500 1 p] with now := 1080 } fun c => { c with deferredExit := some 2 }
    sent 2 (.sample 2 825) s = [answer 0xB1 .done (.sampled none (some ⟨262500, 5, 1920, 30080, false⟩)),
      .message (.grantExit 262500 .missingSection .collect)] := by decide

/-- 8.8 at 40,110: the out-of-order rack gets ORDER_FAULT at its minimum dwell and goes to COLLECT as SOILED. -/
theorem test_order_fault_to_collect :
    let p := { passIn .final with
      finalEntry := some 40050, reference := some 40105, credit := 46080, orderFault := true, exitRequested := true }
    let s := inA { running [washing 790311 1 p] with now := 40110 } fun c => { c with deferredExit := some 2 }
    let t := after (.minimumDwellExpiry .a) s
    t.ports[(2 : Port)].transmit = [⟨.loose, .message (.grantExit 790311 .orderFault .collect)⟩] ∧
      t.racks.map (fun r => (r.state, r.place, r.lastOutcome)) =
        [(.soiled, .collect, some (.verdict .orderFault))] := by decide

/-- 8.8 at 40,050: EXIT of a rack behind the one in FINAL. -/
theorem test_exit_out_of_order :
    let s := { running [washing 205010 0 (passIn .final), washing 205044 1 (passIn .rinse),
      washing 790311 2 (passIn .wash), washing 40907 3 (passIn .pre)] with now := 40050 }
    let t := after (.exit 2 790311) s
    sent 2 (.exit 2 790311) s = [answer 0xB2 .wait (.atGate 790311 false)] ∧ t.notices = 0x0010 ∧
      t.racks.map (fun r => (r.tag, r.place, r.stage?)) = [(790311, .tunnel .a, some .final),
        (40907, .tunnel .a, some .pre), (205010, .unknown, none), (205044, .unknown, none)] := by decide

/-- 8.9 at 70,300: a third failing pass goes to HOLD, the eighth there. -/
theorem test_third_fail_to_hold :
    let p := { passIn .final with
      required := ⟨false, false, false⟩, requiredLevel := 2, finalEntry := some 70000, reference := some 70295
      credit := 14160, exitRequested := true }
    let s := inA { running ({ washing 560100 90 p with passes := 3 } :: holdRacks 7) with now := 70300 } fun c =>
      { c with deferredExit := some 2 }
    let t := after (.maximumDwellExpiry .a) s
    t.ports[(2 : Port)].transmit = [⟨.loose, .message (.grantExit 560100 .creditShort .hold)⟩] ∧
      t.notices = 0x0C00 ∧ (t.rack? 560100).map (·.lastOutcome) = some (some (.hold .repeatFail)) := by decide

/-- 4.8: the frames of a TANK FAULT with an EXIT outstanding, in their order. -/
theorem test_tank_fault_frames :
    let s := inA (running [washing 205010 0 { passIn .final with exitRequested := true }]) fun c =>
      { c with deferredExit := some 2 }
    sent 2 (.tankFault 2) s = [answer 0xB3 .done (.tank .fault), .message (.exitAbandoned 205010),
      .message (.tunnelState .a .fault false)] := by decide

/-- 4.8 at 40,650: START makes an OFF tunnel WARMING with seq 0 and says so with fresh. -/
theorem test_start_is_fresh :
    let s := inA State.reset fun c => { c with admissionSeq := 17 }
    let t := after (.tunnelStart (whole 2) 0) s
    t.tunnels.a.state = .warming ∧ t.tunnels.a.admissionSeq = 0 ∧
      t.ports[(2 : Port)].transmit = [⟨.loose, .message (.tunnelState .a .warming true)⟩] := by decide

/-- 5.11 at 9,000: ADMIT waits and wakes A, 4,000 ticks being below the cool time. -/
theorem test_admit_wakes :
    let c := { State.reset.tunnels.a with state := .economy }
    let s := { line [heldRack 205044 1 .unknown .tunnelFault] with
      now := 9000, tunnels := ⟨{ c with economyStart := some 5000 }, { c with economyStart := some 5200 }⟩ }
    let t := after (.admitRequest 1 205044) s
    sent 1 (.admitRequest 1 205044) s = [answer 0xA0 .wait] ∧ t.tunnels.a.state = .restarting ∧
      t.tunnels.a.restartTimer = some 9050 ∧ t.tunnels.b.state = .economy := by decide

/-- 5.11 at 9,050: the restart expiry makes A RUNNING and grants; passes stays 3. -/
theorem test_restart_grants :
    let s := inA { line [{ heldRack 205044 1 .unknown .tunnelFault with passes := 3 }] with
        now := 9050, pendingAdmission := some ⟨205044, 1, none⟩ } fun c =>
      { c with state := .restarting, restartTimer := some 9050 }
    let t := after (.restartTimerExpiry .a) s
    t.tunnels.a.state = .running ∧ t.ports[(1 : Port)].transmit = [⟨.loose, .message (.grantAdmit 205044 .a)⟩] ∧
      t.racks.map (fun r => (r.state, r.place, r.passes)) = [(.washing, .tunnel .a, 3)] := by decide

/-- 5.10 at 1,000 and 1,010: the first admission goes to A with seq 0, the next to B. -/
theorem test_admissions_alternate :
    let s := { running [rk 11 1 .soiled .collect, rk 12 2 .soiled .collect] with now := 1000 }
    let t := { after (.admitRequest 1 11) s with now := 1010, ports := State.reset.ports }
    sent 1 (.admitRequest 1 11) s = [answer 0xA0 .done (.admitted .a)] ∧ t.tunnels.a.admissionSeq = 1 ∧
      sent 1 (.admitRequest 1 12) t = [answer 0xA0 .done (.admitted .b)] ∧
      (after (.admitRequest 1 12) t).boosterHistory = [1000, 1010] := by decide

/-- 2.8 at 20,010: SIGHT enrols a TRAY rack at W5 in the lowest free slot. -/
theorem test_sight_enrols :
    let s := line [rk 30500 0 .empty .store]
    let t := after (.sight 0 5 800500) s
    sent 0 (.sight 0 5 800500) s = [answer 0x90 .done (.position false)] ∧
      t.racks.map (fun r => (r.tag, r.slot, r.cls, r.baseLevel)) = [(30500, 0, .plate, 1), (800500, 1, .tray, 0)] := by
  decide

/-- R19: the lost timeout, 36,000 ticks, retires a rack in UNKNOWN and raises LOST_RETIRED. -/
theorem test_lost_record_expires :
    let s := { line [heldRack 205010 0 .unknown .lostTrack] with now := 36000 }
    let t := after (.lostRecordExpiry 205010) s
    t.racks = [] ∧ t.notices = 0x0008 := by decide

/-- R55: a rack in a lane is not relocated. -/
theorem test_relocate_in_tunnel : sent 6 (.relocate 6 7 0) demo = [answer 0xD0 .inTunnel] := by decide

/-- R182: a value above its range is stored at the bound, and a bad enumerated value writes nothing. -/
theorem test_write_config_clamps :
    (after (.writeConfig (whole 6) [(0x06, 99)]) State.reset).config.recircReserve = 8 ∧
      (after (.writeConfig (whole 12) [(0x06, 3), (0x28, 9)]) State.reset).config.recircReserve = 2 := by decide

/-- R179: FETCH from an empty buffer gives 0x00, NO_RESPONSE and a zero length. -/
theorem test_fetch_empty : (after (.fetch 5) State.reset).miso = [0, 0x0F, 0, 0, 0] := by decide

/-- R179: a NOP's response is DONE with a zero length. -/
theorem test_fetch_nop : (after (.fetch 4) (after (.nop (whole 0)) State.reset)).miso = [0, 0, 0, 0] := by decide

/-- R178: a frame that one LINE_RESTART kept because it had begun is kept by the next. -/
theorem test_begun_frame_outlasts_restarts :
    let f : QueuedFrame := ⟨.begun, .answer ⟨0xB3, .done, .tank .off⟩⟩
    let s := State.reset.modifyPort 2 fun x => { x with transmit := [f] }
    (after (.lineRestart (whole 0)) (after (.lineRestart (whole 0)) s)).ports[(2 : Port)].transmit = [f] := by decide

/-- R87: with spacing 200 the spacing has passed when last admission ages out, and the pending admission is granted. -/
theorem test_age_out_grants :
    let s := aged { running [rk 5 0 .soiled .collect] with
      config := { State.reset.config with spacing := 200 }
      tunnels := ⟨{ State.reset.tunnels.a with state := .running }, State.reset.tunnels.b⟩ } 200 (some ⟨5, 1, none⟩)
    (after (.lastAdmissionAgeOut .a) s).ports[(1 : Port)].transmit =
      [⟨.loose, .message (.grantAdmit 5 .a)⟩] := by decide

/-- R92: with a smaller spacing the age-out is no re-evaluation, and the pending admission still waits. -/
theorem test_age_out_alone_grants_nothing :
    let s := timed (aged (running [rk 5 0 .soiled .collect]) 200 (some ⟨5, 1, none⟩)) 199 0
    after (.lastAdmissionAgeOut .a) s = { s with lastAdmission := ⟨none, some 30⟩ } := by decide

/-- R88: with W 1,200 the entry that leaves the history at 1,200 ticks has stopped counting, and the pending admission
is granted. -/
theorem test_entry_removal_grants :
    let s := aged { running [rk 5 0 .soiled .collect] with
      config := { State.reset.config with boosterWindow := 1200, boosterCount := 2 } } 1200 (some ⟨5, 1, none⟩)
    (after .boosterEntryRemoval s).ports[(1 : Port)].transmit = [⟨.loose, .message (.grantAdmit 5 .a)⟩] := by decide

/-- R94, R69: RELOCATE of the pending admission's rack cancels it, and an idle time that it held up expires. -/
theorem test_cancelling_frees_the_idle_time :
    let ready := inA (line [heldRack 5 0 .unknown .lostTrack]) fun c => { c with state := .ready, idleStart := some 0 }
    let s := { ready with
      pendingAdmission := some ⟨5, 1, none⟩, now := 1200 }
    let t := after (.relocate 6 5 0) s
    t.pendingAdmission = none ∧ t.tunnels.a.state = .economy ∧
      t.ports[(1 : Port)].transmit = [⟨.loose, .message (.admitCancelled 5)⟩] := by decide

/-- No row of the table gives bits, so no word spells a command. -/
theorem test_decode_none : decodeTableWord 16 0xC505 = none := by decide

/-! ### Hypotheses that are met -/

theorem meets_step_runs_front_command :
    ∃ (c : Instr) (rest : List Instr) (s : State), s.pending = c :: rest :=
  ⟨.tick, [.nop ⟨0, 3⟩], { State.reset with pending := [.tick, .nop ⟨0, 3⟩] }, by decide⟩

theorem meets_only_their_rows_change_the_registers :
    (∃ (c : Instr) (s : State) (t : State), exec c s = .next t) ∧
    (∃ (c : Instr) (s : State) (t : State), exec c s = .next t ∧ c.isReset = false) ∧
    (∃ (c : Instr) (s : State) (t : State), exec c s = .next t ∧ c.isReset = false ∧ c ≠ .tick) ∧
    (∃ (c : Instr) (s : State) (t : State), exec c s = .next t ∧ c.isReset = false ∧
      (∀ x pairs, c ≠ .writeConfig x pairs)) ∧
    (∃ (c : Instr) (s : State) (t : State), exec c s = .next t ∧ c.isReset = false ∧ c.servesRequests = false ∧
      (∀ x w m, c ≠ .windowMode x w m) ∧ (∀ x w k, c ≠ .windowClass x w k)) ∧
    (∃ (c : Instr) (s : State) (t : State), exec c s = .next t ∧ c.isReset = false ∧ c.isTransaction = false) :=
  ⟨⟨.query 1 5, State.reset, after (.query 1 5) State.reset, rfl⟩,
   ⟨.query 1 5, State.reset, after (.query 1 5) State.reset, rfl, by decide⟩,
   ⟨.query 1 5, State.reset, after (.query 1 5) State.reset, rfl, by decide, by decide⟩,
   ⟨.query 1 5, State.reset, after (.query 1 5) State.reset, rfl, by decide, by intros; nofun⟩,
   ⟨.tick, State.reset, after .tick State.reset, rfl, by decide, by decide, by intros; nofun, by intros; nofun⟩,
   ⟨.query 1 5, State.reset, after (.query 1 5) State.reset, rfl, by decide, by decide⟩⟩

theorem meets_rst_low_takes_nothing :
    ∃ (c : Instr) (s : State), s.rstLow = true ∧ c.isReset = false :=
  ⟨.tick, { State.reset with rstLow := true }, by decide⟩

theorem meets_tick_counts_and_wraps :
    (∃ (s : State), s.rstLow = false) ∧
    (∃ (s : State), s.rstLow = false ∧ s.now.toNat ≠ 4294967295) ∧
    (∃ (s : State), s.rstLow = false ∧ s.now.toNat = 4294967295) :=
  ⟨⟨State.reset, by decide⟩,
   ⟨{ State.reset with now := 4294967294 }, by decide⟩,
   ⟨{ State.reset with now := 4294967295 }, by decide⟩⟩

theorem meets_every_step_keeps_the_record_law :
    ∃ (s : State) (t : State), s.recordLaw ∧ step s = .next t :=
  ⟨queued demo (.exit 2 7), after (.exit 2 7) demo, by decide, rfl⟩

theorem meets_every_step_keeps_the_demand_law :
    ∃ (s : State) (t : State), s.demandLaw ∧ step s = .next t :=
  ⟨queued demo (.exit 2 7), after (.exit 2 7) demo, by decide, rfl⟩

theorem meets_every_step_leaves_nothing_to_pair :
    ∃ (s : State) (t : State), s.pairedLaw ∧ step s = .next t :=
  ⟨queued demo (.exit 2 7), after (.exit 2 7) demo, by decide, rfl⟩

theorem meets_every_step_keeps_the_tunnel_law :
    ∃ (s : State) (t : State), s.tunnelLaw ∧ step s = .next t :=
  ⟨queued demo (.exit 2 7), after (.exit 2 7) demo, by decide, rfl⟩

theorem meets_every_step_keeps_the_port_law :
    ∃ (s : State) (t : State), s.portLaw ∧ step s = .next t :=
  ⟨queued demo (.exit 2 7), after (.exit 2 7) demo, by decide, rfl⟩

theorem meets_notices_stay_until_cleared :
    ∃ (c : Instr) (s : State) (t : State), exec c s = .next t ∧ c.clearsNotices = false :=
  ⟨.exit 2 9, demo, after (.exit 2 9) demo, rfl, by decide⟩

theorem meets_enrolled_fields_are_fixed :
    ∃ (c : Instr) (s : State) (t : State) (r : Rack) (r' : Rack), s.recordLaw ∧ exec c s = .next t ∧ r ∈ s.racks ∧
      r' ∈ t.racks ∧ r'.tag = r.tag :=
  ⟨.exit 2 7, demo, after (.exit 2 7) demo, washing 7 1 (passIn .final),
    washing 7 1 { passIn .final with exitRequested := true }, by decide, rfl, by decide, by decide, by decide⟩

theorem meets_booster_bounds_admissions :
    ∃ (c : Instr) (s : State) (t : State), exec c s = .next t ∧ c.isReset = false ∧ (∀ x, c ≠ .lineRestart x) ∧
      (c = .boosterEntryRemoval → s.now ∉ s.boosterHistory ∧ s.now ∈ t.boosterHistory) ∧
      t.boosterHistory ≠ s.boosterHistory ∧ t.config.boosterWindow ≠ 0 :=
  ⟨.admitRequest 1 5, running [rk 5 0 .soiled .collect],
    after (.admitRequest 1 5) (running [rk 5 0 .soiled .collect]), rfl, by decide, by intros; nofun, by decide,
    by decide, by decide⟩

theorem meets_frame_check_in_order :
    (∃ (identity : Byte) (kind : Byte) (check : Byte) (payload : List Byte) (s : State), s.rstLow = false ∧
      payload.length ≤ 20 ∧ checkByte (identity :: kind :: BitVec.ofNat 8 payload.length :: payload) ≠ check) ∧
    (∃ (identity : Byte) (kind : Byte) (check : Byte) (payload : List Byte) (s : State), s.rstLow = false ∧
      payload.length ≤ 20 ∧ checkByte (identity :: kind :: BitVec.ofNat 8 payload.length :: payload) = check ∧
      identity.toNat ≠ s.identity.toNat) ∧
    (∃ (p : Port) (identity : Byte) (kind : Byte) (check : Byte) (payload : List Byte) (s : State),
      s.rstLow = false ∧ payload.length ≤ 20 ∧ checkByte (identity :: kind :: BitVec.ofNat 8 payload.length ::
      payload) = check ∧ identity.toNat = s.identity.toNat ∧ s.ports[p].queue.length < 2) :=
  ⟨⟨0, 0x14, 0, List.replicate 20 0, State.reset, by decide⟩,
   ⟨31, 0x14, checkByte (31 :: 0x14 :: 3 :: [0, 0, 5]), [0, 0, 5], State.reset, by decide⟩,
   ⟨7, 0, 0x14, checkByte (0 :: 0x14 :: 3 :: [0, 0, 5]), [0, 0, 5], State.reset, by decide⟩⟩

theorem meets_good_frame_is_its_request_row :
    ∃ (c : Instr) (p : Port) (k : ReqKind) (payload : List Byte) (s : State), s.rstLow = false ∧
      c.wire = some (p, k, payload) ∧ s.ports[p].assembly = [] :=
  ⟨.sectionReport 2 0 0 400 0, 2, .sectionReport, [0, 0, 1, 144, 0], State.reset, by decide⟩

theorem meets_characters_make_the_frame :
    ∃ (p : Port) (identity : Byte) (kind : Byte) (check : Byte) (payload : List Byte) (s : State) (t : State),
      s.rstLow = false ∧ s.ports[p].assembly = [] ∧ payload.length ≤ 20 ∧
      exec (.frameArrival p identity kind payload check) s = .next t :=
  ⟨7, 0, 0x14, 0, List.replicate 20 0, State.reset,
    after (.frameArrival 7 0 0x14 (List.replicate 20 0) 0) State.reset, by decide, by decide, by decide, rfl⟩

theorem meets_assembly_discards_and_hunts :
    (∃ (s : State), s.rstLow = false) ∧
    (∃ (p : Port) (b : Byte) (s : State), s.rstLow = false ∧ s.ports[p].assembly.length = 3 ∧ 20 < b.toNat) ∧
    (∃ (p : Port) (b : Byte) (s : State), s.rstLow = false ∧ s.ports[p].assembly = [] ∧ b ≠ 0xC5) ∧
    (∃ (p : Port) (b : Byte) (s : State), s.rstLow = false ∧ s.ports[p].assembly = [] ∧ b = 0xC5) :=
  ⟨⟨State.reset, by decide⟩,
   ⟨0, 21, State.reset.modifyPort 0 fun x => { x with assembly := [0xC5, 0, 0x10] }, by decide⟩,
   ⟨0, 0xC4, State.reset, by decide⟩,
   ⟨0, 0xC5, State.reset, by decide⟩⟩

theorem meets_second_waits_third_is_busy_once :
    (∃ (c : Instr) (p : Port) (k : ReqKind) (payload : List Byte) (s : State), s.rstLow = false ∧
      c.wire = some (p, k, payload) ∧ s.ports[p].queue.length = 1) ∧
    (∃ (c : Instr) (p : Port) (k : ReqKind) (payload : List Byte) (s : State), s.rstLow = false ∧
      c.wire = some (p, k, payload) ∧ s.ports[p].queue.length = 2 ∧ s.ports[p].busyPending = false) ∧
    (∃ (c : Instr) (p : Port) (k : ReqKind) (payload : List Byte) (s : State), s.rstLow = false ∧
      c.wire = some (p, k, payload) ∧ s.ports[p].queue.length = 2 ∧ s.ports[p].busyPending = true) :=
  ⟨⟨.query 1 5, 1, .query, [0, 0, 5], State.reset.modifyPort 1 fun x =>
    { x with queue := [⟨0x14, [0, 0, 6]⟩], busyPending := false }, by decide⟩,
   ⟨.query 1 5, 1, .query, [0, 0, 5], State.reset.modifyPort 1 fun x =>
     { x with queue := [⟨0x14, [0, 0, 6]⟩, ⟨0x14, []⟩], busyPending := false }, by decide⟩,
   ⟨.query 1 5, 1, .query, [0, 0, 5], State.reset.modifyPort 1 fun x =>
     { x with queue := [⟨0x14, [0, 0, 6]⟩, ⟨0x14, []⟩], busyPending := true }, by decide⟩⟩

theorem meets_port_tests_come_first :
    (∃ (p : Port) (role : Role) (payload : List Byte) (kind : Byte) (s : State), s.free p role ∧
      payload.length ≤ 20 ∧ s.ports[p].assembly = [] ∧ (∀ k' : ReqKind, kind ≠ k'.code)) ∧
    (∃ (p : Port) (role : Role) (k : ReqKind) (payload : List Byte) (kind : Byte) (s : State), s.free p role ∧
      payload.length ≤ 20 ∧ s.ports[p].assembly = [] ∧ kind = k.code ∧ k ∉ role.kinds) ∧
    (∃ (p : Port) (role : Role) (k : ReqKind) (payload : List Byte) (kind : Byte) (s : State), s.free p role ∧
      payload.length ≤ 20 ∧ s.ports[p].assembly = [] ∧ kind = k.code ∧ k ∈ role.kinds ∧ payload.length ≠ k.size) ∧
    (∃ (p : Port) (role : Role) (k : ReqKind) (payload : List Byte) (kind : Byte) (s : State), s.free p role ∧
      payload.length ≤ 20 ∧ s.ports[p].assembly = [] ∧ kind = k.code ∧ k ∈ role.kinds ∧ k = .tank ∧
      (∃ b : Byte, payload = [b] ∧ 3 < b.toNat)) ∧
    (∃ (c : Instr) (p : Port) (role : Role) (k : ReqKind) (payload : List Byte) (s : State), s.free p role ∧
      c.wire = some (p, k, payload) ∧ k ∉ role.kinds) ∧
    (∃ (c : Instr) (p : Port) (role : Role) (k : ReqKind) (payload : List Byte) (s : State), s.free p role ∧
      c.wire = some (p, k, payload) ∧ k ∈ role.kinds ∧ ¬ c.inRange) ∧
    (∃ (c : Instr) (p : Port) (role : Role) (k : ReqKind) (payload : List Byte) (s : State), s.free p role ∧
      c.wire = some (p, k, payload) ∧ k ∈ role.kinds ∧ c.inRange ∧ k = .admitRequest ∧
      s.pendingAdmission.map (·.port) = some p) ∧
    (∃ (c : Instr) (p : Port) (role : Role) (k : ReqKind) (payload : List Byte) (s : State), s.free p role ∧
      c.wire = some (p, k, payload) ∧ k ∈ role.kinds ∧ c.inRange ∧ k = .exit ∧
      (s.tunnels.a.deferredExit = some p ∨ s.tunnels.b.deferredExit = some p)) :=
  ⟨⟨1, .infeed, List.replicate 20 0, 0x9F, State.reset, by decide, by decide, by decide,
    by intro k; cases k <;> decide⟩,
   ⟨1, .infeed, .exit, [], 0x32, State.reset, by decide⟩,
   ⟨1, .infeed, .admitRequest, [0, 5], 0x20, State.reset, by decide⟩,
   ⟨2, .tunnel .a, .tank, [4], 0x33, State.reset, by decide, by decide, by decide, rfl, by decide, rfl, 4, rfl,
     by decide⟩,
   ⟨.exit 1 5, 1, .infeed, .exit, [0, 0, 5], State.reset, by decide⟩,
   ⟨.admitRequest 1 1048576, 1, .infeed, .admitRequest, [16, 0, 0], State.reset, by decide⟩,
   ⟨.admitRequest 1 5, 1, .infeed, .admitRequest, [0, 0, 5],
     { State.reset with pendingAdmission := some ⟨6, 1, some ⟨.plate, 1, false⟩⟩ }, by decide⟩,
   ⟨.exit 2 5, 2, .tunnel .a, .exit, [0, 0, 5], inA State.reset fun c => { c with deferredExit := some 2 },
     by decide⟩⟩

theorem meets_frame_sent_frees_the_head :
    (∃ (p : Port) (s : State), s.rstLow = false ∧ s.ports[p].transmit = []) ∧
    (∃ (p : Port) (f : QueuedFrame) (rest : List QueuedFrame) (s : State), s.rstLow = false ∧
      s.ports[p].transmit = f :: rest ∧ (f.use = .loose ∨ f.use = .begun)) ∧
    (∃ (p : Port) (f : QueuedFrame) (rest : List QueuedFrame) (s : State), s.rstLow = false ∧
      s.ports[p].transmit = f :: rest ∧ f.use = .busy) ∧
    (∃ (p : Port) (f : QueuedFrame) (rest : List QueuedFrame) (a : RawRequest) (s : State), s.rstLow = false ∧
      s.ports[p].transmit = f :: rest ∧ f.use = .head ∧ s.ports[p].queue = [a]) ∧
    (∃ (p : Port) (f : QueuedFrame) (rest : List QueuedFrame) (a : RawRequest) (b : RawRequest) (s : State),
      s.rstLow = false ∧ s.ports[p].transmit = f :: rest ∧ f.use = .head ∧ s.ports[p].queue = [a, b]) :=
  ⟨⟨1, State.reset, by decide⟩,
   ⟨1, ⟨.begun, .answer ⟨0x94, .malformed, .alone⟩⟩, [],
     State.reset.modifyPort 1 fun x => { x with transmit := [⟨.begun, .answer ⟨0x94, .malformed, .alone⟩⟩] },
     by decide⟩,
   ⟨1, ⟨.busy, .answer ⟨0x94, .malformed, .alone⟩⟩, [],
     State.reset.modifyPort 1 fun x =>
     { x with queue := [], transmit := [⟨.busy, .answer ⟨0x94, .malformed, .alone⟩⟩] }, by decide⟩,
   ⟨1, ⟨.head, .answer ⟨0x94, .malformed, .alone⟩⟩, [], ⟨0x14, []⟩,
     State.reset.modifyPort 1 fun x =>
     { x with queue := [⟨0x14, []⟩], transmit := [⟨.head, .answer ⟨0x94, .malformed, .alone⟩⟩] }, by decide⟩,
   ⟨1, ⟨.head, .answer ⟨0x94, .malformed, .alone⟩⟩, [], ⟨0x14, []⟩, ⟨0x14, [0, 0, 5]⟩,
     State.reset.modifyPort 1 fun x =>
     { x with queue := [⟨0x14, []⟩, ⟨0x14, [0, 0, 5]⟩], transmit := [⟨.head, .answer ⟨0x94, .malformed, .alone⟩⟩] },
     by decide⟩⟩

theorem meets_query_answers_the_record :
    (∃ (p : Port) (role : Role) (tag : BitVec 24) (s : State), s.free p role ∧ role ≠ .unused ∧ validTag tag ∧
      s.rack? tag.toNat = none) ∧
    (∃ (p : Port) (role : Role) (tag : BitVec 24) (r : Rack) (s : State), s.free p role ∧ role ≠ .unused ∧
      validTag tag ∧ s.rack? tag.toNat = some r) :=
  ⟨⟨1, .infeed, 1048575, State.reset, by decide⟩,
   ⟨1, .infeed, 7, washing 7 1 (passIn .final), demo, by decide⟩⟩

theorem meets_retirement_by_the_table :
    (∃ (p : Port) (role : Role) (tag : BitVec 24) (x : Transfer) (s : State), s.free p role ∧
      (role = .windows ∨ role = .handheld) ∧ x.isWhole 3 ∧ validTag tag ∧ s.rack? tag.toNat = none) ∧
    (∃ (p : Port) (role : Role) (tag : BitVec 24) (x : Transfer) (s : State), s.free p role ∧
      (role = .windows ∨ role = .handheld) ∧ x.isWhole 3 ∧ ¬ validTag tag) ∧
    (∃ (p : Port) (role : Role) (tag : BitVec 24) (x : Transfer) (r : Rack) (s : State), s.free p role ∧
      (role = .windows ∨ role = .handheld) ∧ x.isWhole 3 ∧ validTag tag ∧ s.rack? tag.toNat = some r ∧
      r.isProtected = true) ∧
    (∃ (p : Port) (role : Role) (tag : BitVec 24) (x : Transfer) (r : Rack) (s : State), s.free p role ∧
      (role = .windows ∨ role = .handheld) ∧ x.isWhole 3 ∧ validTag tag ∧ s.rack? tag.toNat = some r ∧
      r.isProtected = false ∧ r.state = .washing) ∧
    (∃ (p : Port) (role : Role) (tag : BitVec 24) (x : Transfer) (r : Rack) (s : State), s.free p role ∧
      (role = .windows ∨ role = .handheld) ∧ x.isWhole 3 ∧ validTag tag ∧ s.rack? tag.toNat = some r ∧
      r.state = .washing) ∧
    (∃ (p : Port) (role : Role) (tag : BitVec 24) (x : Transfer) (r : Rack) (s : State), s.free p role ∧
      (role = .windows ∨ role = .handheld) ∧ x.isWhole 3 ∧ validTag tag ∧ s.rack? tag.toNat = some r ∧
      r.isProtected = false ∧ r.state ≠ .washing ∧ s.pairedLaw ∧ s.pendingAdmission.map (·.tag) ≠ some tag.toNat) ∧
    (∃ (p : Port) (role : Role) (tag : BitVec 24) (x : Transfer) (r : Rack) (s : State), s.free p role ∧
      (role = .windows ∨ role = .handheld) ∧ x.isWhole 3 ∧ validTag tag ∧ s.rack? tag.toNat = some r ∧
      r.state ≠ .washing ∧ s.pairedLaw ∧ s.pendingAdmission.map (·.tag) ≠ some tag.toNat) ∧
    (∃ (p : Port) (role : Role) (tag : BitVec 24) (x : Transfer) (r : Rack) (s : State), s.free p role ∧
      (role = .windows ∨ role = .handheld) ∧ x.isWhole 3 ∧ s.rack? tag.toNat = some r ∧
      (r.place ≠ .unknown ∨ r.isProtected = true ∨ s.config.lostTimeout = 0 ∨
      (s.now - r.since).toNat < s.config.lostTimeout)) ∧
    (∃ (p : Port) (role : Role) (tag : BitVec 24) (x : Transfer) (r : Rack) (s : State), s.free p role ∧
      (role = .windows ∨ role = .handheld) ∧ x.isWhole 3 ∧ s.rack? tag.toNat = some r ∧ r.place = .unknown ∧
      r.isProtected = false ∧ s.config.lostTimeout ≠ 0 ∧ s.config.lostTimeout ≤ (s.now - r.since).toNat ∧
      s.pendingAdmission.map (·.tag) ≠ some tag.toNat) :=
  ⟨⟨6, .handheld, 5, ⟨3, 6⟩, State.reset, by decide⟩,
   ⟨6, .handheld, 0, ⟨3, 6⟩, line [rk 5 0 .empty .store], by decide⟩,
   ⟨6, .handheld, 5, ⟨3, 6⟩, { rk 5 0 .empty .store with isProtected := true },
     line [{ rk 5 0 .empty .store with isProtected := true }], by decide⟩,
   ⟨6, .handheld, 7, ⟨3, 6⟩, washing 7 1 (passIn .final), demo, by decide⟩,
   ⟨6, .handheld, 7, ⟨3, 6⟩, washing 7 1 (passIn .final), demo, by decide⟩,
   ⟨6, .handheld, 5, ⟨3, 6⟩, { rk 5 0 .empty .returnLoop with destination := some 0 },
     noDemand [{ rk 5 0 .empty .returnLoop with destination := some 0 }, rk 6 1 .empty .returnLoop], by decide⟩,
   ⟨6, .handheld, 5, ⟨3, 6⟩, { rk 5 0 .empty .returnLoop with destination := some 0 },
     noDemand [{ rk 5 0 .empty .returnLoop with destination := some 0 }, rk 6 1 .empty .returnLoop], by decide⟩,
   ⟨6, .handheld, 5, ⟨3, 6⟩, heldRack 5 0 .unknown .lostTrack,
     { line [heldRack 5 0 .unknown .lostTrack] with now := 35999 }, by decide⟩,
   ⟨6, .handheld, 5, ⟨3, 6⟩, heldRack 5 0 .unknown .lostTrack,
     { line [heldRack 5 0 .unknown .lostTrack] with now := 36000 }, by decide⟩⟩

theorem meets_losing_its_rack_cancels_the_admission :
    (∃ (p : Port) (role : Role) (tag : BitVec 24) (x : Transfer) (r : Rack) (q : PendingAdmission) (s : State),
      s.free p role ∧ s.pendingAdmission = some q ∧ q.tag = tag.toNat ∧ s.recordLaw ∧
      s.rack? tag.toNat = some r ∧ x.isWhole 3 ∧ s.pairedLaw) ∧
    (∃ (p : Port) (role : Role) (tag : BitVec 24) (r : Rack) (q : PendingAdmission) (s : State),
      s.free p role ∧ s.pendingAdmission = some q ∧ q.tag = tag.toNat ∧ s.recordLaw ∧
      s.rack? tag.toNat = some r ∧ (role = .windows ∨ role = .handheld) ∧
      r.isProtected = false ∧ s.pairedLaw) ∧
    (∃ (p : Port) (role : Role) (tag : BitVec 24) (r : Rack) (q : PendingAdmission) (s : State) (s' : State),
      s.free p role ∧ s.pendingAdmission = some q ∧ q.tag = tag.toNat ∧ s.recordLaw ∧
      s.rack? tag.toNat = some r ∧ r.place = .unknown ∧ r.isProtected = false ∧
      s.config.lostTimeout ≠ 0 ∧ s.config.lostTimeout ≤ (s.now - r.since).toNat ∧
      s' = { s with racks := s.racks.filter (·.tag ≠ r.tag), notices := s.notices ||| 8 }) ∧
    (∃ (p : Port) (role : Role) (tag : BitVec 24) (target : Byte) (g : Target) (r : Rack)
      (q : PendingAdmission) (s : State),
      s.free p role ∧ s.pendingAdmission = some q ∧ q.tag = tag.toNat ∧ s.recordLaw ∧
      s.rack? tag.toNat = some r ∧ role = .handheld ∧ target.toNat = targetNumber g ∧ r.mayGo g ∧
      ¬ s.fullTarget g ∧ s.pairedLaw) ∧
    (∃ (p : Port) (role : Role) (tag : BitVec 24) (target : Byte) (g : Target) (x : Transfer)
      (r : Rack) (q : PendingAdmission) (s : State),
      s.free p role ∧ s.pendingAdmission = some q ∧ q.tag = tag.toNat ∧ s.recordLaw ∧
      s.rack? tag.toNat = some r ∧ x.isWhole 4 ∧ target.toNat = targetNumber g ∧ r.mayGo g ∧
      ¬ s.fullTarget g ∧ s.pairedLaw) ∧
    (∃ (p : Port) (role : Role) (w : Window) (i : Fin 8) (n : Nat) (spare : Bool) (tag : BitVec 24)
      (a : EnrolAttributes) (q : PendingAdmission) (s s' : State),
      s.free p role ∧ s.pendingAdmission = some q ∧ q.tag = tag.toNat ∧ s.recordLaw ∧
      s.rack? tag.toNat = none ∧ s.matchedBy tag.toNat i ∧ s.config.tagWindows[i].enrol = true ∧ s.load < 160 ∧
      s.lowestFree n ∧
      a = ⟨s.config.tagWindows[i].cls, s.config.tagWindows[i].baseLevel, s.config.tagWindows[i].protect⟩ ∧
      role = .windows ∧ s.config.tagWindows[i].cls = s.windows[w].cls ∧ s.windows[w].mode ≠ .stop ∧
      s.entriesOf w ≠ [] ∧ (spare = false → s.count (.windowFill w) = 0) ∧
      (spare = true → s.count (.windowFill w) ≠ 0 ∧ s.count (.windowSpare w) = 0) ∧
      s' = { s with
        demand := s.demand.eraseP (·.window = w)
        racks := s.racks ++ [newRack tag.toNat n a (if spare then .empty else .filling)
          (if spare then .windowSpare w else .windowFill w) s.now] }) ∧
    (∃ (p : Port) (role : Role) (u : Tunnel) (i : Fin 8) (n : Nat) (tag : BitVec 24) (a : EnrolAttributes)
      (q : PendingAdmission) (s s' : State),
      s.free p role ∧ s.pendingAdmission = some q ∧ q.tag = tag.toNat ∧ s.recordLaw ∧
      s.rack? tag.toNat = none ∧ s.matchedBy tag.toNat i ∧ s.config.tagWindows[i].enrol = true ∧ s.load < 160 ∧
      s.lowestFree n ∧
      a = ⟨s.config.tagWindows[i].cls, s.config.tagWindows[i].baseLevel, s.config.tagWindows[i].protect⟩ ∧
      role = .unload u ∧ s.count .returnLoop < 32 ∧ s.pairedLaw ∧
      s' = { s with
        racks := s.racks ++ [newRack tag.toNat n a .empty .returnLoop s.now], notices := s.notices ||| 4 }) :=
  let s : State :=
    { line [heldRack 5 0 .unknown .lostTrack] with pendingAdmission := some ⟨5, 1, none⟩, now := 36000 }
  ⟨⟨6, .handheld, 5, ⟨3, 6⟩, heldRack 5 0 .unknown .lostTrack, ⟨5, 1, none⟩, s, by decide⟩,
   ⟨6, .handheld, 5, heldRack 5 0 .unknown .lostTrack, ⟨5, 1, none⟩, s, by decide⟩,
   ⟨6, .handheld, 5, heldRack 5 0 .unknown .lostTrack, ⟨5, 1, none⟩, s, { s with racks := [], notices := 8 },
     by decide⟩,
   ⟨6, .handheld, 5, 0, .hold, heldRack 5 0 .unknown .lostTrack, ⟨5, 1, none⟩, s, by decide⟩,
   ⟨6, .handheld, 5, 0, .hold, ⟨4, 7⟩, heldRack 5 0 .unknown .lostTrack, ⟨5, 1, none⟩, s, by decide⟩,
   ⟨0, .windows, 0, 0, 0, false, 5, ⟨.plate, 1, false⟩, ⟨5, 1, some ⟨.plate, 1, false⟩⟩, waiting State.reset,
     { waiting State.reset with
       demand := State.reset.demand.drop 1, racks := [rk 5 0 .filling (.windowFill 0)] }, by decide⟩,
   ⟨4, .unload .a, .a, 0, 0, 5, ⟨.plate, 1, false⟩, ⟨5, 1, some ⟨.plate, 1, false⟩⟩, waiting State.reset,
     { waiting State.reset with racks := [rk 5 0 .empty .returnLoop], notices := 4 }, by decide⟩⟩

theorem meets_enrolment_refusals_in_order :
    (∃ (c : Instr) (p : Port) (role : Role) (k : ReqKind) (payload : List Byte) (w : Window) (tag : BitVec 24) (s :
      State), s.free p role ∧ c.wire = some (p, k, payload) ∧ validTag tag ∧ s.rack? tag.toNat = none ∧
      ((c = .sight p (BitVec.ofNat 8 w.val) tag ∧ role = .windows) ∨ (c = .admitRequest p tag ∧ role = .infeed ∧
      s.pendingAdmission = none) ∨ (c = .emptied p tag ∧ (role = .unload .a ∨ role = .unload .b))) ∧
      (∀ j : Fin 8, ¬ s.config.tagWindows[j].covers tag.toNat)) ∧
    (∃ (c : Instr) (p : Port) (role : Role) (k : ReqKind) (payload : List Byte) (w : Window) (tag : BitVec 24) (i :
      Fin 8) (s : State), s.free p role ∧ c.wire = some (p, k, payload) ∧ validTag tag ∧ s.rack? tag.toNat = none ∧
      ((c = .sight p (BitVec.ofNat 8 w.val) tag ∧ role = .windows) ∨ (c = .admitRequest p tag ∧ role = .infeed ∧
      s.pendingAdmission = none) ∨ (c = .emptied p tag ∧ (role = .unload .a ∨ role = .unload .b))) ∧
      s.matchedBy tag.toNat i ∧ s.config.tagWindows[i].enrol = false) ∧
    (∃ (c : Instr) (p : Port) (role : Role) (k : ReqKind) (payload : List Byte) (w : Window) (tag : BitVec 24) (i :
      Fin 8) (s : State), s.free p role ∧ c.wire = some (p, k, payload) ∧ validTag tag ∧ s.rack? tag.toNat = none ∧
      ((c = .sight p (BitVec.ofNat 8 w.val) tag ∧ role = .windows) ∨ (c = .admitRequest p tag ∧ role = .infeed ∧
      s.pendingAdmission = none) ∨ (c = .emptied p tag ∧ (role = .unload .a ∨ role = .unload .b))) ∧
      s.matchedBy tag.toNat i ∧ s.config.tagWindows[i].enrol = true ∧ k = .sight ∧
      s.config.tagWindows[i].cls ≠ s.windows[w].cls) ∧
    (∃ (c : Instr) (p : Port) (role : Role) (k : ReqKind) (payload : List Byte) (w : Window) (tag : BitVec 24) (i :
      Fin 8) (s : State), s.free p role ∧ c.wire = some (p, k, payload) ∧ validTag tag ∧ s.rack? tag.toNat = none ∧
      ((c = .sight p (BitVec.ofNat 8 w.val) tag ∧ role = .windows) ∨ (c = .admitRequest p tag ∧ role = .infeed ∧
      s.pendingAdmission = none) ∨ (c = .emptied p tag ∧ (role = .unload .a ∨ role = .unload .b))) ∧
      s.matchedBy tag.toNat i ∧ s.config.tagWindows[i].enrol = true ∧ k = .sight ∧
      s.config.tagWindows[i].cls = s.windows[w].cls ∧ (s.windows[w].mode = .stop ∨ s.entriesOf w = [])) ∧
    (∃ (c : Instr) (p : Port) (role : Role) (k : ReqKind) (payload : List Byte) (w : Window) (tag : BitVec 24) (i :
      Fin 8) (s : State), s.free p role ∧ c.wire = some (p, k, payload) ∧ validTag tag ∧ s.rack? tag.toNat = none ∧
      ((c = .sight p (BitVec.ofNat 8 w.val) tag ∧ role = .windows) ∨ (c = .admitRequest p tag ∧ role = .infeed ∧
      s.pendingAdmission = none) ∨ (c = .emptied p tag ∧ (role = .unload .a ∨ role = .unload .b))) ∧
      s.matchedBy tag.toNat i ∧ s.config.tagWindows[i].enrol = true ∧ k = .emptied ∧ 32 ≤ s.count .returnLoop) ∧
    (∃ (c : Instr) (p : Port) (role : Role) (k : ReqKind) (payload : List Byte) (w : Window) (tag : BitVec 24) (i :
      Fin 8) (s : State), s.free p role ∧ c.wire = some (p, k, payload) ∧ validTag tag ∧ s.rack? tag.toNat = none ∧
      ((c = .sight p (BitVec.ofNat 8 w.val) tag ∧ role = .windows) ∨ (c = .admitRequest p tag ∧ role = .infeed ∧
      s.pendingAdmission = none) ∨ (c = .emptied p tag ∧ (role = .unload .a ∨ role = .unload .b))) ∧
      s.matchedBy tag.toNat i ∧ s.config.tagWindows[i].enrol = true ∧
      (k = .sight → s.config.tagWindows[i].cls = s.windows[w].cls ∧ s.windows[w].mode ≠ .stop ∧
      s.entriesOf w ≠ []) ∧ (k = .emptied → s.count .returnLoop < 32) ∧ 160 ≤ s.load) :=
  ⟨⟨.sight 0 0 5, 0, .windows, .sight, [0, 0, 0, 5], 0, 5,
    { State.reset with config := { State.reset.config with tagWindows := Vector.replicate 8 ⟨false, 1, 1048575, .plate, 0, true, false⟩ } },
    by decide⟩,
   ⟨.admitRequest 1 5, 1, .infeed, .admitRequest, [0, 0, 5], 0, 5, 0,
     { State.reset with config := { State.reset.config with tagWindows := Vector.replicate 8 ⟨true, 1, 1048575, .plate, 0, false, false⟩ } },
     by decide⟩,
   ⟨.sight 0 2 5, 0, .windows, .sight, [2, 0, 0, 5], 2, 5, 0, State.reset, by decide⟩,
   ⟨.sight 0 0 5, 0, .windows, .sight, [0, 0, 0, 5], 0, 5, 0, { State.reset with demand := [] }, by decide⟩,
   ⟨.emptied 4 5, 4, .unload .a, .emptied, [0, 0, 5], 0, 5, 0, line (racks 32 .empty .returnLoop), by decide⟩,
   ⟨.sight 0 0 5, 0, .windows, .sight, [0, 0, 0, 5], 0, 5, 0, line (racks 160 .empty .store), by decide⟩⟩

theorem meets_sight_enrols :
    ∃ (p : Port) (w : Window) (tag : BitVec 24) (i : Fin 8) (n : Nat) (spare : Bool) (s : State),
      s.free p .windows ∧ validTag tag ∧ s.rack? tag.toNat = none ∧ s.matchedBy tag.toNat i ∧
      s.config.tagWindows[i].enrol = true ∧ s.config.tagWindows[i].cls = s.windows[w].cls ∧
      s.windows[w].mode ≠ .stop ∧ s.entriesOf w ≠ [] ∧ s.load < 160 ∧ s.lowestFree n ∧
      s.pendingAdmission.map (·.tag) ≠ some tag.toNat ∧ (spare = false → s.count (.windowFill w) = 0) ∧
      (spare = true → s.count (.windowFill w) ≠ 0 ∧ s.count (.windowSpare w) = 0) :=
  ⟨0, 0, 262143, 0, 0, false, State.reset, by decide⟩

theorem meets_emptied_enrols :
    ∃ (p : Port) (u : Tunnel) (tag : BitVec 24) (i : Fin 8) (n : Nat) (s : State), s.free p (.unload u) ∧
      validTag tag ∧ s.rack? tag.toNat = none ∧ s.matchedBy tag.toNat i ∧ s.config.tagWindows[i].enrol = true ∧
      s.count .returnLoop < 32 ∧ s.load < 160 ∧ s.lowestFree n ∧ s.pendingAdmission.map (·.tag) ≠ some tag.toNat ∧
      s.pairedLaw :=
  ⟨5, .b, 1, 0, 3, noDemand (racks 3 .empty .returnLoop), by decide⟩

theorem meets_relocate_by_the_table :
    (∃ (p : Port) (tag : BitVec 24) (target : Byte) (g : Target) (x : Transfer) (s : State), s.free p .handheld ∧
      x.isWhole 4 ∧ target.toNat = targetNumber g ∧ ¬ validTag tag) ∧
    (∃ (p : Port) (target : Byte) (g : Target) (x : Transfer) (s : State), s.free p .handheld ∧ x.isWhole 4 ∧
      target.toNat = targetNumber g) ∧
    (∃ (p : Port) (tag : BitVec 24) (target : Byte) (g : Target) (x : Transfer) (s : State), s.free p .handheld ∧
      x.isWhole 4 ∧ target.toNat = targetNumber g ∧ validTag tag ∧ s.rack? tag.toNat = none) ∧
    (∃ (p : Port) (tag : BitVec 24) (target : Byte) (g : Target) (x : Transfer) (r : Rack) (s : State),
      s.free p .handheld ∧ x.isWhole 4 ∧ target.toNat = targetNumber g ∧ validTag tag ∧
      s.rack? tag.toNat = some r ∧ r.state = .washing) ∧
    (∃ (p : Port) (tag : BitVec 24) (target : Byte) (g : Target) (x : Transfer) (r : Rack) (s : State),
      s.free p .handheld ∧ x.isWhole 4 ∧ target.toNat = targetNumber g ∧ validTag tag ∧
      s.rack? tag.toNat = some r ∧ r.state ≠ .washing ∧ ¬ r.mayGo g) ∧
    (∃ (p : Port) (tag : BitVec 24) (target : Byte) (g : Target) (x : Transfer) (r : Rack) (s : State),
      s.free p .handheld ∧ x.isWhole 4 ∧ target.toNat = targetNumber g ∧ validTag tag ∧
      s.rack? tag.toNat = some r ∧ r.state ≠ .washing ∧ r.mayGo g ∧ s.fullTarget g) ∧
    (∃ (p : Port) (tag : BitVec 24) (target : Byte) (g : Target) (x : Transfer) (r : Rack) (s : State),
      s.free p .handheld ∧ x.isWhole 4 ∧ target.toNat = targetNumber g ∧ validTag tag ∧
      s.rack? tag.toNat = some r ∧ r.state ≠ .washing ∧ r.mayGo g ∧ ¬ s.fullTarget g ∧ s.pairedLaw ∧
      s.pendingAdmission.map (·.tag) ≠ some tag.toNat) :=
  ⟨⟨6, 1048576, 2, .store, ⟨4, 7⟩, line [{ rk 5 0 .empty .returnLoop with destination := some 0 }], by decide⟩,
   ⟨6, 2, .store, ⟨4, 7⟩, line [{ rk 5 0 .empty .returnLoop with destination := some 0 }], by decide⟩,
   ⟨6, 5, 2, .store, ⟨4, 7⟩, State.reset, by decide⟩,
   ⟨6, 7, 2, .store, ⟨4, 7⟩, washing 7 1 (passIn .final), demo, by decide⟩,
   ⟨6, 5, 2, .store, ⟨4, 7⟩, rk 5 0 .empty .store, line [rk 5 0 .empty .store], by decide⟩,
   ⟨6, 500, 0, .hold, ⟨4, 7⟩, rk 500 8 .empty .store, line (holdRacks 8 ++ [rk 500 8 .empty .store]), by decide⟩,
   ⟨6, 5, 2, .store, ⟨4, 7⟩, rk 5 0 .empty .returnLoop, noDemand [rk 5 0 .empty .returnLoop,
     rk 6 1 .empty .returnLoop], by decide⟩⟩

theorem meets_reads_answer_the_state :
    (∃ (x : Transfer) (s : State), s.rstLow = false ∧ x.isWhole 0) ∧
    (∃ (x : Transfer) (tag : BitVec 24) (r : Rack) (s : State), s.rstLow = false ∧ x.isWhole 4 ∧ validTag tag ∧
      s.rack? tag.toNat = some r) ∧
    (∃ (x : Transfer) (tag : BitVec 24) (s : State), s.rstLow = false ∧ x.isWhole 4 ∧ validTag tag ∧
      s.rack? tag.toNat = none) ∧
    (∃ (x : Transfer) (tag : BitVec 24) (s : State), s.rstLow = false ∧ x.isWhole 4 ∧ ¬ validTag tag) ∧
    (∃ (x : Transfer) (slot : Byte) (r : Rack) (s : State), s.rstLow = false ∧ x.isWhole 2 ∧ slot.toNat < 160 ∧
      s.recordLaw ∧ r ∈ s.racks ∧ r.slot = slot.toNat) ∧
    (∃ (x : Transfer) (slot : Byte) (s : State), s.rstLow = false ∧ x.isWhole 2 ∧ slot.toNat < 160 ∧
      (∀ y ∈ s.racks, y.slot ≠ slot.toNat)) ∧
    (∃ (x : Transfer) (slot : Byte) (s : State), s.rstLow = false ∧ x.isWhole 2 ∧ 160 ≤ slot.toNat) ∧
    (∃ (x : Transfer) (s : State), s.rstLow = false ∧ x.clocked ≠ 0) ∧
    (∃ (x : Transfer) (tb : Byte) (t : Tunnel) (s : State), s.rstLow = false ∧ x.isWhole 1 ∧
      tb.toNat = tunnelNumber t) ∧
    (∃ (x : Transfer) (tb : Byte) (s : State), s.rstLow = false ∧ x.isWhole 1 ∧ 1 < tb.toNat) :=
  ⟨⟨⟨0, 3⟩, line [rk 5 159 .empty .store], by decide⟩,
   ⟨⟨4, 7⟩, 5, rk 5 159 .empty .store, line [rk 5 159 .empty .store], by decide⟩,
   ⟨⟨4, 7⟩, 6, line [rk 5 159 .empty .store], by decide⟩,
   ⟨⟨4, 7⟩, 0, line [rk 5 159 .empty .store], by decide⟩,
   ⟨⟨2, 5⟩, 159, rk 5 159 .empty .store, line [rk 5 159 .empty .store], by decide⟩,
   ⟨⟨2, 5⟩, 0, line [rk 5 159 .empty .store], by decide⟩,
   ⟨⟨2, 5⟩, 160, line [rk 5 159 .empty .store], by decide⟩,
   ⟨⟨0, 3⟩, line [rk 5 159 .empty .store], by decide⟩,
   ⟨⟨1, 4⟩, 0, .a, line [rk 5 159 .empty .store], by decide⟩,
   ⟨⟨1, 4⟩, 2, line [rk 5 159 .empty .store], by decide⟩⟩

theorem meets_read_place_lists_its_members :
    (∃ (x : Transfer) (code : Byte) (index : Byte) (pl : Place) (s : State), s.rstLow = false ∧ x.isWhole 2 ∧
      (∀ t ∈ [Tunnel.a, .b], pl ≠ .tunnel t) ∧ code.toNat = pl.code ∧ index.toNat = pl.index) ∧
    (∃ (x : Transfer) (code : Byte) (index : Byte) (s : State), s.rstLow = false ∧ x.isWhole 2 ∧
      (code.toNat = 3 ∨ 8 < code.toNat ∨ (code.toNat ≤ 1 ∧ 5 < index.toNat) ∨ (code.toNat = 4 ∧
      1 < index.toNat) ∨ (code.toNat ∉ [0, 1, 3, 4] ∧ index ≠ 0))) :=
  ⟨⟨⟨2, 5⟩, 1, 5, .windowSpare 5, line [rk 5 159 .empty .store], by decide⟩,
   ⟨⟨2, 5⟩, 4, 2, line [rk 5 159 .empty .store], by decide⟩⟩

theorem meets_tunnel_commands_by_the_table :
    (∃ (x : Transfer) (tb : Byte) (s : State), s.rstLow = false ∧ x.isWhole 2 ∧ s.pendingSound = true ∧
      1 < tb.toNat) ∧
    (∃ (x : Transfer) (tb : Byte) (t : Tunnel) (s : State), s.rstLow = false ∧ x.isWhole 2 ∧
      s.pendingSound = true ∧ tb.toNat = tunnelNumber t ∧ (s.tunnels.get t : TunnelContext).state = .off) ∧
    (∃ (x : Transfer) (tb : Byte) (t : Tunnel) (s : State), s.rstLow = false ∧ x.isWhole 2 ∧
      s.pendingSound = true ∧ tb.toNat = tunnelNumber t ∧ (s.tunnels.get t : TunnelContext).state ≠ .off) ∧
    (∃ (x : Transfer) (tb : Byte) (t : Tunnel) (s : State), s.rstLow = false ∧ x.isWhole 2 ∧
      s.pendingSound = true ∧ tb.toNat = tunnelNumber t ∧
      (s.tunnels.get t : TunnelContext).state ∈ [.warming, .ready, .running, .economy, .restarting]) ∧
    (∃ (x : Transfer) (tb : Byte) (t : Tunnel) (s : State), s.rstLow = false ∧ x.isWhole 2 ∧
      s.pendingSound = true ∧ tb.toNat = tunnelNumber t ∧ (s.tunnels.get t : TunnelContext).state = .closing) ∧
    (∃ (x : Transfer) (tb : Byte) (t : Tunnel) (s : State), s.rstLow = false ∧ x.isWhole 2 ∧
      s.pendingSound = true ∧ tb.toNat = tunnelNumber t ∧ (s.tunnels.get t : TunnelContext).state = .flushing) ∧
    (∃ (x : Transfer) (tb : Byte) (t : Tunnel) (s : State), s.rstLow = false ∧ x.isWhole 2 ∧
      s.pendingSound = true ∧ tb.toNat = tunnelNumber t ∧
      ((s.tunnels.get t : TunnelContext).state = .off ∨ (s.tunnels.get t : TunnelContext).state = .fault)) ∧
    (∃ (x : Transfer) (tb : Byte) (t : Tunnel) (s : State), s.rstLow = false ∧ x.isWhole 2 ∧
      s.pendingSound = true ∧ tb.toNat = tunnelNumber t ∧ (s.tunnels.get t.other).state = .flushing) ∧
    (∃ (x : Transfer) (tb : Byte) (t : Tunnel) (s : State), s.rstLow = false ∧ x.isWhole 2 ∧
      s.pendingSound = true ∧ tb.toNat = tunnelNumber t ∧ (s.tunnels.get t.other).state ≠ .flushing ∧
      ((s.tunnels.get t : TunnelContext).state = .ready ∨ (s.tunnels.get t : TunnelContext).state = .economy) ∧
      s.lane t = []) ∧
    (∃ (x : Transfer) (tb : Byte) (t : Tunnel) (s : State), s.rstLow = false ∧ x.isWhole 2 ∧
      s.pendingSound = true ∧ tb.toNat = tunnelNumber t ∧ (s.tunnels.get t.other).state ≠ .flushing ∧
      (((s.tunnels.get t : TunnelContext).state ≠ .ready ∧
      (s.tunnels.get t : TunnelContext).state ≠ .economy) ∨ s.lane t ≠ [])) ∧
    (∃ (x : Transfer) (tb : Byte) (t : Tunnel) (s : State), s.rstLow = false ∧ x.isWhole 2 ∧
      s.pendingSound = true ∧ tb.toNat = tunnelNumber t ∧ (s.tunnels.get t : TunnelContext).state = .fault) ∧
    (∃ (x : Transfer) (tb : Byte) (t : Tunnel) (s : State), s.rstLow = false ∧ x.isWhole 2 ∧
      s.pendingSound = true ∧ tb.toNat = tunnelNumber t ∧ (s.tunnels.get t : TunnelContext).state ≠ .fault) :=
  ⟨⟨⟨2, 5⟩, 2, inA State.reset fun c => { c with state := .off }, by decide⟩,
   ⟨⟨2, 5⟩, 0, .a, waiting State.reset, by decide⟩,
   ⟨⟨2, 5⟩, 0, .a, inA State.reset fun c => { c with state := .ready }, by decide⟩,
   ⟨⟨2, 5⟩, 0, .a, waiting (inA State.reset fun c => { c with state := .ready }), by decide⟩,
   ⟨⟨2, 5⟩, 0, .a, inA State.reset fun c => { c with state := .closing }, by decide⟩,
   ⟨⟨2, 5⟩, 0, .a, inA State.reset fun c => { c with state := .flushing }, by decide⟩,
   ⟨⟨2, 5⟩, 0, .a, inA State.reset fun c => { c with state := .fault }, by decide⟩,
   ⟨⟨2, 5⟩, 1, .b, inA State.reset fun c => { c with state := .flushing }, by decide⟩,
   ⟨⟨2, 5⟩, 0, .a, inA State.reset fun c => { c with state := .economy }, by decide⟩,
   ⟨⟨2, 5⟩, 0, .a, inA State.reset fun c => { c with state := .closing }, by decide⟩,
   ⟨⟨2, 5⟩, 0, .a, inA State.reset fun c => { c with state := .fault }, by decide⟩,
   ⟨⟨2, 5⟩, 0, .a, inA State.reset fun c => { c with state := .closing }, by decide⟩⟩

theorem meets_tank_reports_by_the_table :
    (∃ (p : Port) (t : Tunnel) (s : State), s.free p (.tunnel t) ∧ s.pendingSound = true ∧
      (s.tunnels.get t : TunnelContext).state = .warming) ∧
    (∃ (p : Port) (t : Tunnel) (s : State), s.free p (.tunnel t) ∧ s.pendingSound = true ∧
      (s.tunnels.get t : TunnelContext).state ≠ .warming) ∧
    (∃ (p : Port) (t : Tunnel) (s : State), s.free p (.tunnel t) ∧ s.pendingSound = true ∧
      (s.tunnels.get t : TunnelContext).state ∈ [.ready, .running, .restarting]) ∧
    (∃ (p : Port) (t : Tunnel) (s : State), s.free p (.tunnel t) ∧ s.pendingSound = true ∧
      (s.tunnels.get t : TunnelContext).state ∉ [.ready, .running, .restarting]) ∧
    (∃ (p : Port) (t : Tunnel) (s : State), s.free p (.tunnel t) ∧ s.pendingSound = true ∧
      (s.tunnels.get t : TunnelContext).state = .flushing) ∧
    (∃ (p : Port) (t : Tunnel) (s : State), s.free p (.tunnel t) ∧ s.pendingSound = true ∧
      (s.tunnels.get t : TunnelContext).state ≠ .flushing) ∧
    (∃ (p : Port) (t : Tunnel) (s : State), s.free p (.tunnel t) ∧ s.pendingSound = true ∧
      ((s.tunnels.get t : TunnelContext).state = .off ∨ (s.tunnels.get t : TunnelContext).state = .fault)) :=
  ⟨⟨2, .a, waiting (inA State.reset fun c => { c with state := .warming }), by decide⟩,
   ⟨2, .a, inA State.reset fun c => { c with state := .ready }, by decide⟩,
   ⟨2, .a, waiting (inA State.reset fun c => { c with state := .restarting }), by decide⟩,
   ⟨2, .a, inA State.reset fun c => { c with state := .economy }, by decide⟩,
   ⟨2, .a, inA State.reset fun c => { c with state := .flushing }, by decide⟩,
   ⟨2, .a, inA State.reset fun c => { c with state := .ready }, by decide⟩,
   ⟨2, .a, inA State.reset fun c => { c with state := .fault }, by decide⟩⟩

theorem meets_fault_tears_the_lane_down :
    (∃ (p : Port) (t : Tunnel) (s : State), s.recordLaw ∧ s.free p (.tunnel t) ∧ (s.tunnels.get t).state ≠ .off ∧
      (s.tunnels.get t).state ≠ .fault) ∧
    (∃ (t : Tunnel) (expiry : Tick) (s : State), s.recordLaw ∧ s.rstLow = false ∧
      (s.tunnels.get t).state = .flushing ∧ (s.tunnels.get t).flushTimer = some expiry ∧
      (s.now - expiry).toNat < 2147483648) ∧
    (∃ (t : Tunnel) (expiry : Tick) (s : State), s.recordLaw ∧ s.rstLow = false ∧
      (s.tunnels.get t).flushTimer = some expiry ∧ 2147483648 ≤ (s.now - expiry).toNat) ∧
    (∃ (t : Tunnel) (s : State), s.recordLaw ∧ s.rstLow = false ∧
      ((s.tunnels.get t).state ≠ .flushing ∨ (s.tunnels.get t).flushTimer = none)) :=
  ⟨⟨2, .a, waiting demo, by decide⟩,
   ⟨.a, 3000, { (inA State.reset fun c => { c with state := .flushing, flushTimer := some 3000 }) with now := 3000 },
     by decide⟩,
   ⟨.a, 3000, { (inA State.reset fun c => { c with state := .flushing, flushTimer := some 3000 }) with now := 2999 },
     by decide⟩,
   ⟨.a, demo, by decide⟩⟩

theorem meets_idle_and_restart_timers :
    (∃ (t : Tunnel) (start : Tick) (s : State), s.rstLow = false ∧
      ((s.tunnels.get t : TunnelContext).state = .ready ∨ (s.tunnels.get t : TunnelContext).state = .running) ∧
      s.config.idleTime ≠ 0 ∧ (s.tunnels.get t : TunnelContext).idleStart = some start ∧
      s.config.idleTime ≤ (s.now - start).toNat ∧ s.lane t = [] ∧ s.pendingAdmission = none) ∧
    (∃ (t : Tunnel) (start : Tick) (s : State), s.rstLow = false ∧
      (((s.tunnels.get t : TunnelContext).state ≠ .ready ∧
      (s.tunnels.get t : TunnelContext).state ≠ .running) ∨ s.config.idleTime = 0 ∨
      (s.tunnels.get t : TunnelContext).idleStart = none ∨
      ((s.tunnels.get t : TunnelContext).idleStart = some start ∧
      (s.now - start).toNat < s.config.idleTime) ∨ s.lane t ≠ [] ∨ s.pendingAdmission ≠ none)) ∧
    (∃ (t : Tunnel) (start : Tick) (s : State), s.rstLow = false ∧
      (s.tunnels.get t : TunnelContext).state = .restarting ∧
      (s.tunnels.get t : TunnelContext).restartTimer = some start ∧ (s.now - start).toNat < 2147483648 ∧
      s.pendingSound = true) ∧
    (∃ (t : Tunnel) (start : Tick) (s : State), s.rstLow = false ∧
      ((s.tunnels.get t : TunnelContext).state ≠ .restarting ∨
      (s.tunnels.get t : TunnelContext).restartTimer = none ∨
      ((s.tunnels.get t : TunnelContext).restartTimer = some start ∧ 2147483648 ≤ (s.now - start).toNat))) :=
  ⟨⟨.a, 0, { (inA State.reset fun c => { c with state := .ready, idleStart := some 0 }) with now := 1200 },
    by decide⟩,
   ⟨.a, 0, { (inA State.reset fun c => { c with state := .ready, idleStart := some 0 }) with now := 1199 },
     by decide⟩,
   ⟨.a, 50, waiting ({ (inA State.reset fun c => { c with state := .restarting, restartTimer := some 50 }) with now := 50 }),
     by decide⟩,
   ⟨.a, 50, { (inA State.reset fun c => { c with state := .restarting, restartTimer := some 50 }) with now := 49 },
     by decide⟩⟩

theorem meets_tunnel_choice :
    (∃ (t : Tunnel) (s : State), s.eligible t = false ∧ s.eligible t.other = false) ∧
    (∃ (t : Tunnel) (s : State), s.eligible t = true ∧ s.eligible t.other = false) ∧
    (∃ (t : Tunnel) (s : State), s.eligible t = true ∧ s.eligible t.other = true ∧
      (s.lane t).length < (s.lane t.other).length) ∧
    (∃ (t : Tunnel) (s : State), s.eligible t = true ∧ s.eligible t.other = true ∧
      (s.lane t).length = (s.lane t.other).length ∧ (s.lastChosen = some t.other ∨ (s.lastChosen = none ∧ t = .a))) :=
  ⟨⟨.a, State.reset, by decide⟩,
   ⟨.a, inA State.reset fun c => { c with state := .ready }, by decide⟩,
   ⟨.b, running [washing 7 0 (passIn .wash)], by decide⟩,
   ⟨.a, running [], by decide⟩⟩

theorem meets_admit_by_its_tests :
    (∃ (p : Port) (tag : BitVec 24) (s : State), s.free p .infeed ∧ validTag tag ∧ s.pendingAdmission ≠ none) ∧
    (∃ (p : Port) (tag : BitVec 24) (r : Rack) (s : State), s.free p .infeed ∧ validTag tag ∧
      s.pendingAdmission = none ∧ s.rack? tag.toNat = some r ∧ ¬ (r.state = .soiled ∧ r.place = .collect) ∧
      ¬ (r.state = .held ∧ r.place = .unknown)) ∧
    (∃ (p : Port) (tag : BitVec 24) (t : Tunnel) (r : Rack) (s : State), s.free p .infeed ∧ validTag tag ∧
      s.rack? tag.toNat = some r ∧ ((r.state = .soiled ∧ r.place = .collect) ∨ (r.state = .held ∧
      r.place = .unknown)) ∧ s.chosenTunnel = some t ∧ s.recordLaw ∧ s.pendingAdmission = none) ∧
    (∃ (p : Port) (tag : BitVec 24) (t : Tunnel) (i : Fin 8) (n : Nat) (r : Rack) (s : State), s.free p .infeed ∧
      validTag tag ∧ s.rack? tag.toNat = none ∧ s.matchedBy tag.toNat i ∧ s.config.tagWindows[i].enrol = true ∧
      s.load < 160 ∧ s.lowestFree n ∧ s.chosenTunnel = some t ∧ s.pendingAdmission = none ∧
      r = newRack tag.toNat n ⟨s.config.tagWindows[i].cls, s.config.tagWindows[i].baseLevel,
      s.config.tagWindows[i].protect⟩ .washing (.tunnel t) s.now) :=
  ⟨⟨1, 5, { State.reset with pendingAdmission := some ⟨6, 1, some ⟨.plate, 1, false⟩⟩ }, by decide⟩,
   ⟨1, 5, rk 5 0 .empty .store, running [rk 5 0 .empty .store], by decide⟩,
   ⟨1, 5, .a, rk 5 0 .soiled .collect, running [rk 5 0 .soiled .collect], by decide⟩,
   ⟨1, 5, .a, 0, 0, rk 5 0 .washing (.tunnel .a), running [], by decide⟩⟩

theorem meets_admit_waits_and_wakes :
    (∃ (p : Port) (tag : BitVec 24) (r : Rack) (s : State), s.free p .infeed ∧ validTag tag ∧
      s.pendingAdmission = none ∧ s.chosenTunnel = none ∧ s.rack? tag.toNat = some r ∧ ((r.state = .soiled ∧
      r.place = .collect) ∨ (r.state = .held ∧ r.place = .unknown))) ∧
    (∃ (p : Port) (tag : BitVec 24) (i : Fin 8) (s : State), s.free p .infeed ∧ validTag tag ∧
      s.pendingAdmission = none ∧ s.chosenTunnel = none ∧ s.rack? tag.toNat = none ∧ s.matchedBy tag.toNat i ∧
      s.config.tagWindows[i].enrol = true ∧ s.load < 160) :=
  ⟨⟨1, 5, rk 5 0 .soiled .collect, inA (line [rk 5 0 .soiled .collect]) fun c =>
    { c with state := .economy, economyStart := some 0 }, by decide⟩,
   ⟨1, 5, 0, inA State.reset fun c => { c with state := .economy, economyStart := some 0 }, by decide⟩⟩

theorem meets_admission_timers :
    (∃ (c : Instr) (u : Tunnel) (x : Tick) (s : State) (b : State), s.rstLow = false ∧ ((c = .spacingExpiry u ∧
      s.lastAdmission.get u = some x ∧ s.config.spacing ≤ (s.now - x).toNat ∧ b = s) ∨ (c = .boosterAgeing ∧
      s.config.boosterWindow ≠ 0 ∧ x ∈ s.boosterHistory ∧ s.config.boosterWindow ≤ (s.now - x).toNat ∧
      b = s) ∨ (c = .lastAdmissionAgeOut u ∧ s.lastAdmission.get u = some x ∧ 200 ≤ (s.now - x).toNat ∧
      200 ≤ s.config.spacing ∧ b = { s with lastAdmission := s.lastAdmission.set u none }) ∨ (c = .boosterEntryRemoval ∧
      1200 ≤ s.config.boosterWindow ∧ x ∈ s.boosterHistory ∧ 1200 ≤ (s.now - x).toNat ∧
      b = { s with boosterHistory := s.boosterHistory.filter fun y => decide ((s.now - y).toNat < 1200) })) ∧
      s.pendingAdmission = none) ∧
    (∃ (c : Instr) (u : Tunnel) (x : Tick) (q : PendingAdmission) (s : State) (b : State), s.rstLow = false ∧
      ((c = .spacingExpiry u ∧ s.lastAdmission.get u = some x ∧ s.config.spacing ≤ (s.now - x).toNat ∧
      b = s) ∨ (c = .boosterAgeing ∧ s.config.boosterWindow ≠ 0 ∧ x ∈ s.boosterHistory ∧
      s.config.boosterWindow ≤ (s.now - x).toNat ∧ b = s) ∨ (c = .lastAdmissionAgeOut u ∧
      s.lastAdmission.get u = some x ∧ 200 ≤ (s.now - x).toNat ∧
      200 ≤ s.config.spacing ∧ b = { s with lastAdmission := s.lastAdmission.set u none }) ∨ (c = .boosterEntryRemoval ∧
      1200 ≤ s.config.boosterWindow ∧ x ∈ s.boosterHistory ∧ 1200 ≤ (s.now - x).toNat ∧
      b = { s with boosterHistory := s.boosterHistory.filter fun y => decide ((s.now - y).toNat < 1200) })) ∧
      s.pendingAdmission = some q ∧ b.chosenTunnel = none) ∧
    (∃ (c : Instr) (u : Tunnel) (t : Tunnel) (x : Tick) (q : PendingAdmission) (r : Rack) (s : State) (b : State),
      s.rstLow = false ∧ ((c = .spacingExpiry u ∧ s.lastAdmission.get u = some x ∧
      s.config.spacing ≤ (s.now - x).toNat ∧ b = s) ∨ (c = .boosterAgeing ∧ s.config.boosterWindow ≠ 0 ∧
      x ∈ s.boosterHistory ∧ s.config.boosterWindow ≤ (s.now - x).toNat ∧ b = s) ∨ (c = .lastAdmissionAgeOut u ∧
      s.lastAdmission.get u = some x ∧ 200 ≤ (s.now - x).toNat ∧
      200 ≤ s.config.spacing ∧ b = { s with lastAdmission := s.lastAdmission.set u none }) ∨ (c = .boosterEntryRemoval ∧
      1200 ≤ s.config.boosterWindow ∧ x ∈ s.boosterHistory ∧ 1200 ≤ (s.now - x).toNat ∧
      b = { s with boosterHistory := s.boosterHistory.filter fun y => decide ((s.now - y).toNat < 1200) })) ∧
      s.pendingAdmission = some q ∧ b.chosenTunnel = some t ∧ s.recordLaw ∧ q.enrol = none ∧ s.rack? q.tag = some r) ∧
    (∃ (c : Instr) (u : Tunnel) (t : Tunnel) (x : Tick) (n : Nat) (q : PendingAdmission) (a : EnrolAttributes) (r :
      Rack) (s : State) (b : State), s.rstLow = false ∧ ((c = .spacingExpiry u ∧ s.lastAdmission.get u = some x ∧
      s.config.spacing ≤ (s.now - x).toNat ∧ b = s) ∨ (c = .boosterAgeing ∧ s.config.boosterWindow ≠ 0 ∧
      x ∈ s.boosterHistory ∧ s.config.boosterWindow ≤ (s.now - x).toNat ∧ b = s) ∨ (c = .lastAdmissionAgeOut u ∧
      s.lastAdmission.get u = some x ∧ 200 ≤ (s.now - x).toNat ∧
      200 ≤ s.config.spacing ∧ b = { s with lastAdmission := s.lastAdmission.set u none }) ∨ (c = .boosterEntryRemoval ∧
      1200 ≤ s.config.boosterWindow ∧ x ∈ s.boosterHistory ∧ 1200 ≤ (s.now - x).toNat ∧
      b = { s with boosterHistory := s.boosterHistory.filter fun y => decide ((s.now - y).toNat < 1200) })) ∧
      s.pendingAdmission = some q ∧ b.chosenTunnel = some t ∧ s.recordLaw ∧ q.enrol = some a ∧ s.lowestFree n ∧
      r = newRack q.tag n a .washing (.tunnel t) s.now) ∧
    (∃ (u : Tunnel) (x : Tick) (s : State), s.rstLow = false ∧
      (s.lastAdmission.get u = none ∨ (s.lastAdmission.get u = some x ∧ (s.now - x).toNat < s.config.spacing))) ∧
    (∃ (s : State), s.rstLow = false ∧ (s.config.boosterWindow = 0 ∨
      ∀ y ∈ s.boosterHistory, (s.now - y).toNat < s.config.boosterWindow)) ∧
    (∃ (u : Tunnel) (x : Tick) (s : State), s.rstLow = false ∧
      (s.lastAdmission.get u = none ∨ (s.lastAdmission.get u = some x ∧ (s.now - x).toNat < 200))) ∧
    (∃ (u : Tunnel) (x : Tick) (s : State), s.rstLow = false ∧ s.lastAdmission.get u = some x ∧
      200 ≤ (s.now - x).toNat ∧ s.config.spacing < 200) ∧
    (∃ (s : State), s.rstLow = false ∧ (s.config.boosterWindow < 1200 ∨
      ∀ y ∈ s.boosterHistory, (s.now - y).toNat < 1200)) :=
  ⟨⟨.lastAdmissionAgeOut .a, .a, 0, timed (aged (running []) 200 none) 200 240,
    { timed (aged (running []) 200 none) 200 240 with lastAdmission := ⟨none, some 30⟩ }, by decide⟩,
   ⟨.boosterEntryRemoval, .a, 0, ⟨5, 1, none⟩, timed (aged (line [rk 5 0 .soiled .collect]) 1200 (some ⟨5, 1, none⟩)) 40 1200,
     { timed (aged (line [rk 5 0 .soiled .collect]) 1200 (some ⟨5, 1, none⟩)) 40 1200 with boosterHistory := [30] }, by decide⟩,
   ⟨.boosterAgeing, .a, .a, 0, ⟨5, 1, none⟩, rk 5 0 .soiled .collect,
     aged (running [rk 5 0 .soiled .collect]) 240 (some ⟨5, 1, none⟩),
     aged (running [rk 5 0 .soiled .collect]) 240 (some ⟨5, 1, none⟩), by decide⟩,
   ⟨.spacingExpiry .a, .a, .a, 0, 0, ⟨5, 1, some ⟨.plate, 1, false⟩⟩, ⟨.plate, 1, false⟩,
     { rk 5 0 .washing (.tunnel .a) with since := 40 }, aged (running []) 40 (some ⟨5, 1, some ⟨.plate, 1, false⟩⟩),
     aged (running []) 40 (some ⟨5, 1, some ⟨.plate, 1, false⟩⟩), by decide⟩,
   ⟨.a, 0, { running [] with now := 39, lastAdmission := ⟨some 0, none⟩ }, by decide⟩,
   ⟨{ running [] with now := 239, boosterHistory := [0] }, by decide,
     .inr (by intro y hy; cases hy with | head => decide | tail _ h => cases h)⟩,
   ⟨.a, 0, { running [] with now := 199, lastAdmission := ⟨some 0, none⟩ }, by decide⟩,
   ⟨.a, 0, timed (aged (running []) 200 none) 199 240, by decide⟩,
   ⟨{ timed (running []) 40 1200 with now := 1199, boosterHistory := [0] }, by decide,
     .inr (by intro y hy; cases hy with | head => decide | tail _ h => cases h)⟩⟩

theorem meets_section_reports :
    (∃ (p : Port) (t : Tunnel) (stage : Byte) (fault : Byte) (st : Stage) (s : State), s.free p (.tunnel t) ∧
      fault.toNat ≤ 15 ∧ st ≠ .final ∧ stage.toNat = st.code ∧ (∀ y ∈ s.lane t, y.stage? ≠ some st)) ∧
    (∃ (p : Port) (t : Tunnel) (stage : Byte) (fault : Byte) (st : Stage) (next : Stage) (older : List Rack) (younger
      : List Rack) (r : Rack) (sh : PassSheet) (s : State), s.free p (.tunnel t) ∧ fault.toNat ≤ 15 ∧ st ≠ .final ∧
      stage.toNat = st.code ∧ s.recordLaw ∧ s.lane t = older ++ r :: younger ∧ (∀ y ∈ older, y.stage? ≠ some st) ∧
      r.sheet = some sh ∧ sh.stage = st ∧ st.code < next.code ∧ sh.required.has next = true ∧
      (∀ z ∈ [Stage.wash, .rinse], st.code < z.code → z.code < next.code → sh.required.has z = false) ∧
      (((s.lane t).filter fun y => decide (y.stage? = some next)).length < (if next = .pre ∨
      next = .wash then 2 else 1) ∧ ∀ y ∈ older, ∀ z ∈ [Stage.pre, .wash, .rinse, .final], y.stage? = some z →
      next.code ≤ z.code)) ∧
    (∃ (p : Port) (t : Tunnel) (stage : Byte) (fault : Byte) (st : Stage) (next : Stage) (older : List Rack) (younger
      : List Rack) (r : Rack) (sh : PassSheet) (s : State), s.free p (.tunnel t) ∧ fault.toNat ≤ 15 ∧ st ≠ .final ∧
      stage.toNat = st.code ∧ s.recordLaw ∧ s.lane t = older ++ r :: younger ∧ (∀ y ∈ older, y.stage? ≠ some st) ∧
      r.sheet = some sh ∧ sh.stage = st ∧ st.code < next.code ∧ sh.required.has next = true ∧
      (∀ z ∈ [Stage.wash, .rinse], st.code < z.code → z.code < next.code → sh.required.has z = false) ∧
      ((if next = .pre ∨ next = .wash then 2 else 1) ≤ ((s.lane t).filter fun y => decide (y.stage? = some
      next)).length ∨ (∃ y ∈ older, ∃ z ∈ [Stage.pre, .wash, .rinse, .final], y.stage? = some z ∧
      z.code < next.code))) :=
  ⟨⟨2, .a, 0, 15, .pre, running [], by decide⟩,
   ⟨2, .a, 0, 15, .pre, .wash, [washing 7 0 (passIn .wash)], [], washing 8 1 (passIn .pre), passIn .pre,
     waiting (running [washing 7 0 (passIn .wash), washing 8 1 (passIn .pre)]), by decide⟩,
   ⟨2, .a, 0, 15, .pre, .wash, [washing 6 2 (passIn .wash), washing 7 0 (passIn .wash)], [],
     washing 8 1 (passIn .pre), passIn .pre, running [washing 6 2 (passIn .wash), washing 7 0 (passIn .wash),
     washing 8 1 (passIn .pre)], by decide⟩⟩

theorem meets_sample_accrues_and_tests :
    (∃ (p : Port) (t : Tunnel) (s : State), s.free p (.tunnel t) ∧ s.finalRack t = none) ∧
    (∃ (p : Port) (t : Tunnel) (x : BitVec 16) (r : Rack) (sh : PassSheet) (ref : Tick) (s : State),
      s.free p (.tunnel t) ∧ s.recordLaw ∧ s.finalRack t = some r ∧ r.sheet = some sh ∧ sh.reference = some ref ∧
      (sh.verdict ≠ none ∨ ¬
      ({ sh with credit := min (sh.credit + ((if 1200 < x.toNat then 0 else weight x.toNat * (min (s.now - ref).toNat 20 : Nat)) : Nat)) 16777215, gap := sh.gap || decide (20 < (s.now - ref).toNat) || decide (1200 < x.toNat), reference := some s.now }
      : PassSheet).isReady s.config s.now)) ∧
    (∃ (p : Port) (t : Tunnel) (x : BitVec 16) (r : Rack) (sh : PassSheet) (ref : Tick) (s : State),
      s.free p (.tunnel t) ∧ s.recordLaw ∧ s.finalRack t = some r ∧ r.sheet = some sh ∧ sh.reference = some ref ∧
      sh.verdict = none ∧
      ({ sh with credit := min (sh.credit + ((if 1200 < x.toNat then 0 else weight x.toNat * (min (s.now - ref).toNat 20 : Nat)) : Nat)) 16777215, gap := sh.gap || decide (20 < (s.now - ref).toNat) || decide (1200 < x.toNat), reference := some s.now }
      : PassSheet).isReady s.config s.now) :=
  ⟨⟨2, .a, running [], by decide⟩,
   ⟨2, .a, 1200, washing 7 0 (passIn .final), passIn .final, 0,
     { running [washing 7 0 (passIn .final)] with now := 20 }, by decide⟩,
   ⟨2, .a, 850, washing 7 0 { passIn .final with credit := 29232, reference := some 40 },
     { passIn .final with credit := 29232, reference := some 40 }, 40,
     { running [washing 7 0 { passIn .final with credit := 29232, reference := some 40 }] with now := 60 },
     by decide⟩⟩

theorem meets_weight_is_the_table :
    (∃ (x : Nat), x ≤ 1200 ∧ x < 710) ∧
    (∃ (x : Nat), x ≤ 1200 ∧ 710 ≤ x) ∧
    (∃ (x : Nat), x ≤ 1200) ∧
    (∃ (x : Nat), x ≤ 1200 ∧ ((min x 960 - 710 : Nat) % 25 : Nat) ≤ 24) ∧
    (∃ (x : Nat), x ≤ 1200 ∧ 710 ≤ x ∧ x + 25 ≤ 960) ∧
    (∃ (x : Nat), x ≤ 1200 ∧ 960 ≤ x) :=
  ⟨⟨709, by decide⟩,
   ⟨1200, by decide⟩,
   ⟨709, by decide⟩,
   ⟨734, by decide⟩,
   ⟨935, by decide⟩,
   ⟨960, by decide⟩⟩

theorem meets_verdict_is_the_first_failing_check :
    ∃ (sh : PassSheet) (level : Fin 4), sh.requiredLevel = level.val :=
  ⟨passIn .final, 1, by decide⟩

theorem meets_only_a_pass_reaches_unload :
    ∃ (c : Instr) (t : Tunnel) (s : State) (s' : State) (r' : Rack), s.recordLaw ∧ exec c s = .next s' ∧
      r' ∈ s'.racks ∧ r'.place = .unload t ∧ (∀ r ∈ s.racks, r.tag = r'.tag → r.place ≠ .unload t) :=
  ⟨.exit 2 7, .a, running [washing 7 0 { passIn .final with verdict := some .pass }],
    after (.exit 2 7) (running [washing 7 0 { passIn .final with verdict := some .pass }]),
    { rk 7 0 .clean (.unload .a) with passes := 1, lastOutcome := some (.verdict .pass) }, by decide, rfl,
    by decide, by decide, by decide⟩

theorem meets_exit_at_the_gate :
    (∃ (p : Port) (t : Tunnel) (tag : BitVec 24) (s : State), s.free p (.tunnel t) ∧ validTag tag ∧ s.recordLaw ∧
      s.tunnels.a.deferredExit ≠ some p ∧ s.tunnels.b.deferredExit ≠ some p ∧ s.rack? tag.toNat = none) ∧
    (∃ (p : Port) (t : Tunnel) (tag : BitVec 24) (y : Rack) (s : State), s.free p (.tunnel t) ∧ validTag tag ∧
      s.recordLaw ∧ s.tunnels.a.deferredExit ≠ some p ∧ s.tunnels.b.deferredExit ≠ some p ∧
      s.rack? tag.toNat = some y ∧ s.finalRack t = none) ∧
    (∃ (p : Port) (t : Tunnel) (tag : BitVec 24) (y : Rack) (r : Rack) (s : State), s.free p (.tunnel t) ∧
      validTag tag ∧ s.recordLaw ∧ s.tunnels.a.deferredExit ≠ some p ∧ s.tunnels.b.deferredExit ≠ some p ∧
      s.rack? tag.toNat = some y ∧ y.place ≠ .tunnel t ∧ s.finalRack t = some r) ∧
    (∃ (p : Port) (t : Tunnel) (tag : BitVec 24) (r : Rack) (sh : PassSheet) (s : State), s.free p (.tunnel t) ∧
      validTag tag ∧ s.recordLaw ∧ s.tunnels.a.deferredExit ≠ some p ∧ s.tunnels.b.deferredExit ≠ some p ∧
      s.finalRack t = some r ∧ r.tag = tag.toNat ∧ r.sheet = some sh ∧ sh.exitRequested = true) ∧
    (∃ (p : Port) (t : Tunnel) (tag : BitVec 24) (r : Rack) (sh : PassSheet) (s : State), s.free p (.tunnel t) ∧
      validTag tag ∧ s.recordLaw ∧ s.tunnels.a.deferredExit ≠ some p ∧ s.tunnels.b.deferredExit ≠ some p ∧
      s.finalRack t = some r ∧ r.tag = tag.toNat ∧ r.sheet = some sh ∧ sh.exitRequested = false ∧ sh.verdict = none) ∧
    (∃ (p : Port) (t : Tunnel) (tag : BitVec 24) (r : Rack) (sh : PassSheet) (v : Verdict) (s : State),
      s.free p (.tunnel t) ∧ validTag tag ∧ s.recordLaw ∧ s.tunnels.a.deferredExit ≠ some p ∧
      s.tunnels.b.deferredExit ≠ some p ∧ s.finalRack t = some r ∧ r.tag = tag.toNat ∧ r.sheet = some sh ∧
      sh.exitRequested = false ∧ sh.verdict = some v ∧ s.gateRow t v r.passes = none) ∧
    (∃ (p : Port) (t : Tunnel) (tag : BitVec 24) (r : Rack) (sh : PassSheet) (v : Verdict) (d : Destination) (cause :
      Option HoldCause) (s : State), s.free p (.tunnel t) ∧ validTag tag ∧ s.recordLaw ∧
      s.tunnels.a.deferredExit ≠ some p ∧ s.tunnels.b.deferredExit ≠ some p ∧ s.finalRack t = some r ∧
      r.tag = tag.toNat ∧ r.sheet = some sh ∧ sh.exitRequested = false ∧ sh.verdict = some v ∧
      s.gateRow t v r.passes = some (d, cause)) :=
  ⟨⟨2, .a, 7, running [], by decide⟩,
   ⟨2, .a, 7, washing 7 0 (passIn .pre), running [washing 7 0 (passIn .pre)], by decide⟩,
   ⟨2, .a, 5, rk 5 1 .empty .store, washing 7 0 (passIn .final), running [washing 7 0 (passIn .final),
     rk 5 1 .empty .store], by decide⟩,
   ⟨2, .a, 7, washing 7 0 ({ passIn .final with exitRequested := true }),
     { passIn .final with exitRequested := true },
     inA (running [washing 7 0 ({ passIn .final with exitRequested := true })]) fun c =>
     { c with deferredExit := some 7 }, by decide⟩,
   ⟨2, .a, 7, washing 7 0 (passIn .final), passIn .final, running [washing 7 0 (passIn .final)], by decide⟩,
   ⟨2, .a, 7, washing 7 20 ({ passIn .final with verdict := some .pass }),
     { passIn .final with verdict := some .pass }, .pass,
     running (racks 3 .clean (.unload .a) ++ [washing 7 20 ({ passIn .final with verdict := some .pass })]),
     by decide⟩,
   ⟨2, .a, 7, washing 7 20 ({ passIn .final with verdict := some .pass }),
     { passIn .final with verdict := some .pass }, .pass, .unload .a, none,
     running (racks 2 .clean (.unload .a) ++ [washing 7 20 ({ passIn .final with verdict := some .pass })]),
     by decide⟩⟩

theorem meets_exit_out_of_order :
    ∃ (p : Port) (t : Tunnel) (tag : BitVec 24) (older : List Rack) (younger : List Rack) (f : Rack) (r : Rack) (sh :
      PassSheet) (s : State), s.free p (.tunnel t) ∧ validTag tag ∧ s.recordLaw ∧
      s.tunnels.a.deferredExit ≠ some p ∧ s.tunnels.b.deferredExit ≠ some p ∧ s.lane t = older ++ r :: younger ∧
      r.tag = tag.toNat ∧ r.sheet = some sh ∧ s.finalRack t = some f ∧ f.tag ≠ r.tag :=
  ⟨2, .a, 8, [washing 7 0 (passIn .final)], [washing 9 2 (passIn .pre)], washing 7 0 (passIn .final),
    washing 8 1 (passIn .rinse), passIn .rinse, running [washing 7 0 (passIn .final), washing 8 1 (passIn .rinse),
    washing 9 2 (passIn .pre)], by decide⟩

theorem meets_dwell_expiries :
    (∃ (c : Instr) (t : Tunnel) (limit : Nat) (s : State), s.rstLow = false ∧ s.recordLaw ∧
      ((c = .minimumDwellExpiry t ∧ limit = s.config.minDwell) ∨ (c = .maximumDwellExpiry t ∧
      limit = max s.config.maxDwell s.config.minDwell)) ∧ s.finalRack t = none) ∧
    (∃ (c : Instr) (t : Tunnel) (limit : Nat) (r : Rack) (sh : PassSheet) (s : State), s.rstLow = false ∧
      s.recordLaw ∧ ((c = .minimumDwellExpiry t ∧ limit = s.config.minDwell) ∨ (c = .maximumDwellExpiry t ∧
      limit = max s.config.maxDwell s.config.minDwell)) ∧ s.finalRack t = some r ∧ r.sheet = some sh ∧
      sh.verdict ≠ none) ∧
    (∃ (c : Instr) (t : Tunnel) (limit : Nat) (r : Rack) (sh : PassSheet) (entry : Tick) (s : State),
      s.rstLow = false ∧ s.recordLaw ∧ ((c = .minimumDwellExpiry t ∧
      limit = s.config.minDwell) ∨ (c = .maximumDwellExpiry t ∧ limit = max s.config.maxDwell s.config.minDwell)) ∧
      s.finalRack t = some r ∧ r.sheet = some sh ∧ sh.verdict = none ∧ sh.finalEntry = some entry ∧
      ((s.now - entry).toNat < limit ∨ ¬ sh.isReady s.config s.now)) ∧
    (∃ (c : Instr) (t : Tunnel) (limit : Nat) (r : Rack) (sh : PassSheet) (entry : Tick) (s : State),
      s.rstLow = false ∧ s.recordLaw ∧ ((c = .minimumDwellExpiry t ∧
      limit = s.config.minDwell) ∨ (c = .maximumDwellExpiry t ∧ limit = max s.config.maxDwell s.config.minDwell)) ∧
      s.finalRack t = some r ∧ r.sheet = some sh ∧ sh.verdict = none ∧ sh.finalEntry = some entry ∧
      limit ≤ (s.now - entry).toNat ∧ sh.isReady s.config s.now) :=
  ⟨⟨.minimumDwellExpiry .a, .a, 60, running [], by decide⟩,
   ⟨.minimumDwellExpiry .a, .a, 60, washing 7 0 ({ passIn .final with verdict := some .pass }),
     { passIn .final with verdict := some .pass },
     running [washing 7 0 ({ passIn .final with verdict := some .pass })], by decide⟩,
   ⟨.minimumDwellExpiry .a, .a, 60, washing 7 0 (passIn .final), passIn .final, 0,
     { running [washing 7 0 (passIn .final)] with now := 59 }, by decide⟩,
   ⟨.maximumDwellExpiry .a, .a, 300, washing 7 0 (passIn .final), passIn .final, 0,
     { running [washing 7 0 (passIn .final)] with now := 300 }, by decide⟩⟩

theorem meets_room_reopens_a_shut_gate :
    (∃ (p : Port) (q : Port) (t : Tunnel) (tag : BitVec 24) (y : Rack) (r : Rack) (sh : PassSheet) (s : State),
      validTag tag ∧ s.recordLaw ∧ s.rack? tag.toNat = some y ∧ s.free p (.unload t) ∧ y.place = .unload t ∧
      y.serviceDue = false ∧ s.config.serviceLimitOf y.cls = 0 ∧ s.count .returnLoop < 32 ∧
      s.count (.unload t) ≤ 3 ∧ (s.tunnels.get t).gateShut = true ∧ (s.tunnels.get t).deferredExit = some q ∧
      s.finalRack t = some r ∧ r.sheet = some sh ∧ sh.verdict = some .pass ∧ sh.exitRequested = true ∧ q ≠ p ∧
      s.ports[q].transmit.length < 32) ∧
    (∃ (tag : BitVec 24) (y : Rack) (r : Rack) (sh : PassSheet) (x : Transfer) (rb : Rack) (shb : PassSheet) (va :
      Verdict) (vb : Verdict) (s : State), validTag tag ∧ s.recordLaw ∧ s.rack? tag.toNat = some y ∧
      s.rstLow = false ∧ (y.place = .collect ∨ y.place = .hold) ∧ s.pairedLaw ∧
      s.pendingAdmission.map (·.tag) ≠ some tag.toNat ∧ s.tunnels.a.gateShut = true ∧ s.finalRack .a = some r ∧
      r.sheet = some sh ∧ sh.verdict = some va ∧ sh.exitRequested = true ∧ s.tunnels.b.gateShut = true ∧
      s.finalRack .b = some rb ∧ rb.sheet = some shb ∧ shb.verdict = some vb ∧ shb.exitRequested = true ∧
      x.isWhole 3) ∧
    (∃ (tag : BitVec 24) (y : Rack) (r : Rack) (sh : PassSheet) (x : Transfer) (rb : Rack) (shb : PassSheet) (va :
      Verdict) (vb : Verdict) (g : Target) (s : State), validTag tag ∧ s.recordLaw ∧ s.rack? tag.toNat = some y ∧
      s.rstLow = false ∧ (y.place = .collect ∨ y.place = .hold) ∧ s.pairedLaw ∧
      s.pendingAdmission.map (·.tag) ≠ some tag.toNat ∧ s.tunnels.a.gateShut = true ∧ s.finalRack .a = some r ∧
      r.sheet = some sh ∧ sh.verdict = some va ∧ sh.exitRequested = true ∧ s.tunnels.b.gateShut = true ∧
      s.finalRack .b = some rb ∧ rb.sheet = some shb ∧ shb.verdict = some vb ∧ shb.exitRequested = true ∧
      x.isWhole 4 ∧ ((y.place = .hold ∧ g = .collect) ∨ (y.place = .collect ∧ g = .hold)) ∧ ¬ s.fullTarget g) :=
  ⟨⟨4, 2, .a, 101, rk 101 1 .clean (.unload .a), washing 7 20
    ({ passIn .final with verdict := some .pass, exitRequested := true }),
    { passIn .final with verdict := some .pass, exitRequested := true },
    inA { running (racks 3 .clean (.unload .a) ++ [washing 7 20 ({ passIn .final with verdict := some .pass, exitRequested := true })]) with config := { State.reset.config with serviceLimit := #v[0, 0, 0, 0] } }
    fun c => { c with gateShut := true, deferredExit := some 2 }, by decide⟩,
   ⟨5, rk 5 2 .soiled .collect, readRack .a, readAt .a, ⟨3, 6⟩, readRack .b, readAt .b, .creditShort, .creditShort,
     bothShut (rk 5 2 .soiled .collect), by decide⟩,
   ⟨5, heldRack 5 2 .hold .manual, readRack .a, readAt .a, ⟨4, 7⟩, readRack .b, readAt .b, .creditShort,
     .creditShort, .collect, bothShut (heldRack 5 2 .hold .manual), by decide⟩⟩

theorem meets_sight_of_a_known_rack :
    (∃ (p : Port) (w : Window) (wb : Byte) (tag : BitVec 24) (r : Rack) (s : State), s.free p .windows ∧
      validTag tag ∧ s.rack? tag.toNat = some r ∧ s.recordLaw ∧ wb.toNat = w.val ∧ r.state ≠ .empty) ∧
    (∃ (p : Port) (w : Window) (wb : Byte) (tag : BitVec 24) (r : Rack) (s : State), s.free p .windows ∧
      validTag tag ∧ s.rack? tag.toNat = some r ∧ s.recordLaw ∧ wb.toNat = w.val ∧ r.state = .empty ∧
      r.place ≠ .returnLoop ∧ r.place ≠ .store) ∧
    (∃ (p : Port) (w : Window) (w' : Window) (wb : Byte) (tag : BitVec 24) (r : Rack) (s : State),
      s.free p .windows ∧ validTag tag ∧ s.rack? tag.toNat = some r ∧ s.recordLaw ∧ wb.toNat = w.val ∧
      r.place = .returnLoop ∧ r.destination = some w' ∧ w' ≠ w) ∧
    (∃ (p : Port) (w : Window) (wb : Byte) (tag : BitVec 24) (r : Rack) (s : State), s.free p .windows ∧
      validTag tag ∧ s.rack? tag.toNat = some r ∧ s.recordLaw ∧ wb.toNat = w.val ∧
      (r.place = .store ∨ (r.place = .returnLoop ∧ r.destination = none)) ∧ r.cls ≠ s.windows[w].cls) ∧
    (∃ (p : Port) (w : Window) (wb : Byte) (tag : BitVec 24) (r : Rack) (s : State), s.free p .windows ∧
      validTag tag ∧ s.rack? tag.toNat = some r ∧ s.recordLaw ∧ wb.toNat = w.val ∧
      (r.place = .store ∨ (r.place = .returnLoop ∧ r.destination = none)) ∧ r.cls = s.windows[w].cls ∧
      (s.windows[w].mode = .stop ∨ s.entriesOf w = [])) ∧
    (∃ (p : Port) (w : Window) (wb : Byte) (tag : BitVec 24) (r : Rack) (spare : Bool) (s : State),
      s.free p .windows ∧ validTag tag ∧ s.rack? tag.toNat = some r ∧ s.recordLaw ∧ wb.toNat = w.val ∧
      (if spare then s.count (.windowFill w) ≠ 0 ∧ s.count (.windowSpare w) = 0 else s.count (.windowFill w) = 0) ∧
      r.place = .returnLoop ∧ r.destination = some w) ∧
    (∃ (p : Port) (w : Window) (wb : Byte) (tag : BitVec 24) (r : Rack) (spare : Bool) (s : State),
      s.free p .windows ∧ validTag tag ∧ s.rack? tag.toNat = some r ∧ s.recordLaw ∧ wb.toNat = w.val ∧
      (if spare then s.count (.windowFill w) ≠ 0 ∧ s.count (.windowSpare w) = 0 else s.count (.windowFill w) = 0) ∧
      (r.place = .store ∨ (r.place = .returnLoop ∧ r.destination = none)) ∧ r.cls = s.windows[w].cls ∧
      s.windows[w].mode ≠ .stop ∧ s.entriesOf w ≠ []) :=
  ⟨⟨0, 1, 1, 7, washing 7 1 (passIn .final), demo, by decide⟩,
   ⟨0, 1, 1, 5, rk 5 0 .empty (.windowSpare 0), line [rk 5 0 .empty (.windowSpare 0)], by decide⟩,
   ⟨0, 1, 0, 1, 5, { rk 5 0 .empty .returnLoop with destination := some 0 },
     line [{ rk 5 0 .empty .returnLoop with destination := some 0 }], by decide⟩,
   ⟨0, 2, 2, 5, rk 5 0 .empty .store, line [rk 5 0 .empty .store], by decide⟩,
   ⟨0, 1, 1, 5, rk 5 0 .empty .store, { line [rk 5 0 .empty .store] with demand := [] }, by decide⟩,
   ⟨0, 1, 1, 5, { rk 5 0 .empty .returnLoop with destination := some 1 }, false,
     line [{ rk 5 0 .empty .returnLoop with destination := some 1 }], by decide⟩,
   ⟨0, 1, 1, 5, rk 5 0 .empty .store, true, line [rk 5 0 .empty .store, rk 6 1 .filling (.windowFill 1)], by decide⟩⟩

theorem meets_dispatch_moves_to_collect :
    (∃ (p : Port) (w : Window) (wb : Byte) (load : Byte) (l : Option (Fin 8)) (s : State), s.free p .windows ∧
      wb.toNat = w.val ∧ load.toNat = (l.map (·.val)).getD 255 ∧ s.fillRack w = none) ∧
    (∃ (p : Port) (w : Window) (wb : Byte) (load : Byte) (l : Option (Fin 8)) (r : Rack) (s : State),
      s.free p .windows ∧ wb.toNat = w.val ∧ load.toNat = (l.map (·.val)).getD 255 ∧ s.fillRack w = some r ∧
      24 ≤ s.count .collect + s.config.recircReserve) ∧
    (∃ (p : Port) (w : Window) (wb : Byte) (load : Byte) (l : Option (Fin 8)) (r : Rack) (s : State),
      s.free p .windows ∧ wb.toNat = w.val ∧ load.toNat = (l.map (·.val)).getD 255 ∧ s.fillRack w = some r ∧
      s.count .collect + s.config.recircReserve < 24 ∧ s.pairedLaw) :=
  ⟨⟨0, 5, 5, 7, some 7, State.reset, by decide⟩,
   ⟨0, 5, 5, 255, none, rk 5 30 .filling (.windowFill 5),
     line (racks 22 .soiled .collect ++ [rk 5 30 .filling (.windowFill 5)]), by decide⟩,
   ⟨0, 5, 5, 7, some 7, rk 5 30 .filling (.windowFill 5),
     line (racks 21 .soiled .collect ++ [rk 5 30 .filling (.windowFill 5), rk 6 31 .empty (.windowSpare 5)]),
     by decide⟩⟩

theorem meets_window_modes :
    (∃ (p : Port) (wb : Byte) (mb : Byte) (x : Transfer) (s : State), s.free p .windows ∧ x.isWhole 2 ∧
      (5 < wb.toNat ∨ 2 < mb.toNat)) ∧
    (∃ (p : Port) (w : Window) (m : WindowMode) (wb : Byte) (mb : Byte) (x : Transfer) (s : State),
      s.free p .windows ∧ x.isWhole 2 ∧ wb.toNat = w.val ∧
      mb.toNat = (match m with | .accept => 0 | .pause => 1 | .stop => 2) ∧ s.windows[w].mode = m) ∧
    (∃ (p : Port) (w : Window) (m : WindowMode) (wb : Byte) (mb : Byte) (x : Transfer) (s : State),
      s.free p .windows ∧ x.isWhole 2 ∧ wb.toNat = w.val ∧
      mb.toNat = (match m with | .accept => 0 | .pause => 1 | .stop => 2) ∧ s.windows[w].mode ≠ m ∧ s.pairedLaw) ∧
    (∃ (p : Port) (w : Window) (m : WindowMode) (wb : Byte) (mb : Byte) (x : Transfer) (s : State),
      s.free p .windows ∧ x.isWhole 2 ∧ wb.toNat = w.val ∧
      mb.toNat = (match m with | .accept => 0 | .pause => 1 | .stop => 2) ∧ s.recordLaw) :=
  ⟨⟨0, 6, 2, ⟨2, 5⟩, State.reset, by decide⟩,
   ⟨0, 5, .accept, 5, 0, ⟨2, 5⟩, State.reset, by decide⟩,
   ⟨0, 0, .stop, 0, 2, ⟨2, 5⟩, noDemand [{ rk 5 0 .empty .returnLoop with destination := some 0 },
     rk 6 1 .empty .returnLoop], by decide⟩,
   ⟨0, 0, .stop, 0, 2, ⟨2, 5⟩, noDemand [{ rk 5 0 .empty .returnLoop with destination := some 0 },
     rk 6 1 .empty .returnLoop], by decide⟩⟩

theorem meets_window_classes :
    (∃ (wb : Byte) (kb : Byte) (x : Transfer) (s : State), s.rstLow = false ∧ x.isWhole 2 ∧
      (5 < wb.toNat ∨ 3 < kb.toNat)) ∧
    (∃ (w : Window) (k : RackClass) (wb : Byte) (kb : Byte) (x : Transfer) (s : State), s.rstLow = false ∧
      x.isWhole 2 ∧ wb.toNat = w.val ∧ kb.toNat =
      (match k with | .plate => 0 | .cup => 1 | .cutlery => 2 | .tray => 3) ∧ s.windows[w].cls = k) ∧
    (∃ (w : Window) (k : RackClass) (wb : Byte) (kb : Byte) (x : Transfer) (s : State), s.rstLow = false ∧
      x.isWhole 2 ∧ wb.toNat = w.val ∧ kb.toNat =
      (match k with | .plate => 0 | .cup => 1 | .cutlery => 2 | .tray => 3) ∧ s.windows[w].cls ≠ k ∧ s.recordLaw) ∧
    (∃ (w : Window) (k : RackClass) (wb : Byte) (kb : Byte) (x : Transfer) (s : State), s.rstLow = false ∧
      x.isWhole 2 ∧ wb.toNat = w.val ∧ kb.toNat =
      (match k with | .plate => 0 | .cup => 1 | .cutlery => 2 | .tray => 3) ∧ s.recordLaw ∧ s.windows[w].cls ≠ k) :=
  ⟨⟨5, 4, ⟨2, 5⟩, State.reset, by decide⟩,
   ⟨5, .tray, 5, 3, ⟨2, 5⟩, State.reset, by decide⟩,
   ⟨0, .cup, 0, 1, ⟨2, 5⟩, noDemand [{ rk 5 0 .empty .returnLoop with destination := some 0 },
     rk 6 1 .empty .returnLoop], by decide⟩,
   ⟨0, .cup, 0, 1, ⟨2, 5⟩, noDemand [{ rk 5 0 .empty .returnLoop with destination := some 0 },
     rk 6 1 .empty .returnLoop], by decide⟩⟩

theorem meets_pairing_serves_starved_windows_first :
    (∃ (r : Rack) (before : List DemandEntry) (after : List DemandEntry) (d : DemandEntry) (s : State),
      s.demand = before ++ d :: after ∧ s.windows[d.window].mode = .accept ∧ s.windows[d.window].cls = r.cls ∧
      s.occupied d.window = 0 ∧ (∀ x ∈ before, s.windows[x.window].mode = .accept →
      s.windows[x.window].cls = r.cls → s.occupied x.window ≠ 0)) ∧
    (∃ (r : Rack) (before : List DemandEntry) (after : List DemandEntry) (d : DemandEntry) (s : State),
      s.demand = before ++ d :: after ∧ s.windows[d.window].mode = .accept ∧ s.windows[d.window].cls = r.cls ∧
      (∀ x ∈ before, ¬ (s.windows[x.window].mode = .accept ∧ s.windows[x.window].cls = r.cls)) ∧
      (∀ x ∈ s.demand, s.windows[x.window].mode = .accept → s.windows[x.window].cls = r.cls →
      s.occupied x.window ≠ 0)) :=
  ⟨⟨rk 5 0 .empty .returnLoop, [], [⟨1, 0⟩], ⟨0, 0⟩, { State.reset with demand := [⟨0, 0⟩, ⟨1, 0⟩] }, by decide⟩,
   ⟨rk 5 0 .empty .returnLoop, [], [⟨1, 0⟩], ⟨0, 0⟩,
     { line [rk 6 1 .filling (.windowFill 0), rk 8 2 .filling (.windowFill 1)] with demand := [⟨0, 0⟩, ⟨1, 0⟩] },
     by decide⟩⟩

theorem meets_emptied_by_the_table :
    (∃ (p : Port) (u : Tunnel) (tag : BitVec 24) (r : Rack) (s : State), s.free p (.unload u) ∧ validTag tag ∧
      s.rack? tag.toNat = some r ∧ r.place ≠ .unload u) ∧
    (∃ (p : Port) (u : Tunnel) (tag : BitVec 24) (r : Rack) (s : State), s.free p (.unload u) ∧ validTag tag ∧
      s.rack? tag.toNat = some r ∧ r.place = .unload u ∧
      ((r.serviceDue || decide (s.config.serviceLimitOf r.cls ≠ 0 ∧
      s.config.serviceLimitOf r.cls ≤ ((if r.cycles < 65535 then r.cycles + 1 else 65535) : Nat))) : Bool) = true ∧
      s.count .hold < 8 ∧ s.pairedLaw) ∧
    (∃ (p : Port) (u : Tunnel) (tag : BitVec 24) (r : Rack) (s : State), s.free p (.unload u) ∧ validTag tag ∧
      s.rack? tag.toNat = some r ∧ r.place = .unload u ∧
      (((r.serviceDue || decide (s.config.serviceLimitOf r.cls ≠ 0 ∧
      s.config.serviceLimitOf r.cls ≤ ((if r.cycles < 65535 then r.cycles + 1 else 65535) : Nat))) : Bool) = false ∨
      8 ≤ s.count .hold) ∧ s.count .returnLoop < 32 ∧ s.recordLaw) ∧
    (∃ (p : Port) (u : Tunnel) (tag : BitVec 24) (r : Rack) (s : State), s.free p (.unload u) ∧ validTag tag ∧
      s.rack? tag.toNat = some r ∧ r.place = .unload u ∧
      (((r.serviceDue || decide (s.config.serviceLimitOf r.cls ≠ 0 ∧
      s.config.serviceLimitOf r.cls ≤ ((if r.cycles < 65535 then r.cycles + 1 else 65535) : Nat))) : Bool) = false ∨
      8 ≤ s.count .hold) ∧ 32 ≤ s.count .returnLoop) :=
  ⟨⟨4, .a, 5, rk 5 30 .clean (.unload .b), line [rk 5 30 .clean (.unload .b)], by decide⟩,
   ⟨4, .a, 5, { rk 5 30 .clean (.unload .a) with cycles := 3999 },
     line (holdRacks 7 ++ [{ rk 5 30 .clean (.unload .a) with cycles := 3999 }]), by decide⟩,
   ⟨4, .a, 5, { rk 5 30 .clean (.unload .a) with cycles := 3999 },
     line (holdRacks 8 ++ [{ rk 5 30 .clean (.unload .a) with cycles := 3999 }]), by decide⟩,
   ⟨4, .a, 5, { rk 5 30 .clean (.unload .a) with cycles := 3998 },
     line (racks 32 .empty .returnLoop ++ [{ rk 5 30 .clean (.unload .a) with cycles := 3998 }]), by decide⟩⟩

theorem meets_config_reads_and_writes :
    (∃ (x : Transfer) (items : List (BitVec 16)) (s : State), s.rstLow = false ∧ 1 ≤ items.length ∧
      items.length ≤ 64 ∧ x.isWhole (2 * items.length) ∧ (∀ n ∈ items, (itemOf n.toNat).isSome)) ∧
    (∃ (x : Transfer) (items : List (BitVec 16)) (s : State), s.rstLow = false ∧ 1 ≤ items.length ∧
      items.length ≤ 64 ∧ x.isWhole (2 * items.length) ∧ (∃ n ∈ items, itemOf n.toNat = none)) ∧
    (∃ (x : Transfer) (pairs : List (BitVec 16 × BitVec 32)) (s : State), s.rstLow = false ∧ 1 ≤ pairs.length ∧
      pairs.length ≤ 64 ∧ x.isWhole (6 * pairs.length) ∧
      (∃ e ∈ pairs, (itemOf e.1.toNat).bind (fun i => i.stored e.2.toNat) = none)) ∧
    (∃ (x : Transfer) (pairs : List (BitVec 16 × BitVec 32)) (s : State), s.rstLow = false ∧ 1 ≤ pairs.length ∧
      pairs.length ≤ 64 ∧ x.isWhole (6 * pairs.length) ∧
      (∀ e ∈ pairs, (itemOf e.1.toNat).bind (fun i => i.stored e.2.toNat) ≠ none)) ∧
    (∃ (x : Transfer) (n : BitVec 16) (v : BitVec 32) (i : Item) (c' : Configuration) (s : State),
      s.rstLow = false ∧ x.isWhole 6 ∧ itemOf n.toNat = some i ∧ s.config.put i v.toNat = some c' ∧
      (∀ p, i ≠ .role p) ∧ s.recordLaw) :=
  ⟨⟨⟨2, 5⟩, [0x7E], State.reset, by decide, by decide, by decide, by decide,
    by intro n hn; simp only [List.mem_singleton] at hn; subst hn; decide⟩,
   ⟨⟨2, 5⟩, [0x7F], State.reset, by decide, by decide, by decide, by decide, ⟨0x7F, List.mem_singleton.mpr rfl,
     by decide⟩⟩,
   ⟨⟨6, 9⟩, [(0x31, 2)], State.reset, by decide⟩,
   ⟨⟨6, 9⟩, [(0x31, 1)], State.reset, by decide, by decide, by decide, by decide,
     by intro e he; simp only [List.mem_singleton] at he; subst he; decide⟩,
   ⟨⟨6, 9⟩, 0x1F, 9, .minDwell, { State.reset.config with minDwell := 10 }, demo, by decide⟩⟩

/-- An item of each kind that O56 tells follow-on effects of, with a value that its write takes. -/
theorem meets_each_follow_on :
    [(0x18, 0, Item.threshold 0), (0x1F, 10, .minDwell), (0x20, 60, .maxDwell), (0x01, 1, .lostTimeout),
      (0x0B, 10, .spacing), (0x0C, 8, .boosterCount), (0x0D, 0, .boosterWindow), (0x21, 0, .enable .a 0),
      (0x26, 1, .enable .b 2), (0x07, 1, .idleTime), (0x7E, 1, .tagWindow 7 6)].all (fun e =>
        decide (itemOf e.1 = some e.2.2) && (demo.config.put e.2.2 e.2.1).isSome) = true := by decide

theorem meets_role_change_cancels_deferred_requests :
    ∃ (p : Port) (role : Role) (x : Transfer) (s : State), s.rstLow = false ∧ x.isWhole 6 ∧ s.recordLaw ∧
      s.config.roles[p] ≠ role :=
  ⟨1, .unused, ⟨6, 9⟩, { running [] with pendingAdmission := some ⟨5, 1, some ⟨.plate, 1, false⟩⟩ }, by decide⟩

theorem meets_notices_and_output_lines :
    (∃ (x : Transfer) (s : State), s.rstLow = false ∧ x.isWhole 0 ∧ s.config.clearMode = .writeBack) ∧
    (∃ (x : Transfer) (s : State), s.rstLow = false ∧ x.isWhole 0 ∧ s.config.clearMode = .clearOnRead) ∧
    (∃ (x : Transfer) (s : State), s.rstLow = false ∧ x.isWhole 2) :=
  ⟨⟨⟨0, 3⟩, State.reset, by decide⟩,
   ⟨⟨0, 3⟩, { State.reset with config := { State.reset.config with clearMode := .clearOnRead } }, by decide⟩,
   ⟨⟨2, 5⟩, State.reset, by decide⟩⟩

theorem meets_line_restart_empties_the_line :
    ∃ (x : Transfer) (s : State), s.rstLow = false ∧ x.isWhole 0 :=
  ⟨⟨0, 3⟩, demo, by decide⟩

theorem meets_fetch_and_bad_transactions :
    (∃ (clocked : Nat) (s : State), s.rstLow = false ∧ clocked ≠ 0) ∧
    (∃ (s : State), s.rstLow = false) ∧
    (∃ (c : Instr) (x : Transfer) (n : Nat) (s : State), s.rstLow = false ∧ c.transfer = some (x, n) ∧
      x.clocked ≠ 0 ∧ ¬ x.isWhole n) ∧
    (∃ (x : Transfer) (items : List (BitVec 16)) (s : State), s.rstLow = false ∧ (items = [] ∨ 64 < items.length) ∧
      x.clocked ≠ 0) ∧
    (∃ (x : Transfer) (pairs : List (BitVec 16 × BitVec 32)) (s : State), s.rstLow = false ∧
      (pairs = [] ∨ 64 < pairs.length) ∧ x.clocked ≠ 0) ∧
    (∃ (x : Transfer) (s : State), s.rstLow = false ∧ x.clocked ≠ 0) ∧
    (∃ (x : Transfer) (s : State), s.rstLow = false ∧ x.clocked = 0) ∧
    (∃ (c : Instr) (x : Transfer) (n : Nat) (s : State), s.rstLow = false ∧ c.transfer = some (x, n) ∧
      x.clocked = 0) :=
  ⟨⟨1, State.reset, by decide⟩,
   ⟨State.reset, by decide⟩,
   ⟨.nop ⟨1, 3⟩, ⟨1, 3⟩, 0, State.reset, by decide⟩,
   ⟨⟨1, 3⟩, List.replicate 65 1, State.reset, by decide⟩,
   ⟨⟨1, 3⟩, [], State.reset, by decide⟩,
   ⟨⟨1, 3⟩, State.reset, by decide⟩,
   ⟨⟨0, 0⟩, State.reset, by decide⟩,
   ⟨.nop ⟨0, 0⟩, ⟨0, 0⟩, 0, State.reset, by decide⟩⟩

end Sys2Proof.Tests
end

section
/-! The weight of a temperature (R122): an equation for each branch of `weight`, what each table entry rounds, and the
doubling with every 25 steps. -/

namespace Sys2Proof.Proofs.HeatCredit

open Sys2Proof.Machine

/-- The first branch of R122: below 71.0 °C. -/
theorem weight_of_lt {x : Nat} (hx : x < 710) : weight x = 0 :=
  if_pos hx

/-- The second branch of R122: from 71.0 °C on. -/
theorem weight_of_le {x : Nat} (hx : 710 ≤ x) :
    weight x = weightTable.getD ((min x 960 - 710) % 25) 0 * 2 ^ ((min x 960 - 710) / 25) :=
  if_neg (Nat.not_lt.mpr hx)

/-- Each entry is 16 times 2 to the power k/25 rounded to the nearest integer. With W[k] for the entry this is
2 W[k] - 1 ≤ 32 · 2^(k/25) < 2 W[k] + 1, here raised to the 25th power so that it speaks of whole numbers only. -/
theorem weightTable_entry_is_rounded : ∀ k < 25,
    (2 * weightTable.getD k 0 - 1) ^ 25 ≤ 32 ^ 25 * 2 ^ k ∧
      32 ^ 25 * 2 ^ k < (2 * weightTable.getD k 0 + 1) ^ 25 := by
  decide

/-- A step of 25 up to 96.0 °C leaves the table entry as it is and adds 1 to the power of 2. -/
theorem weight_add_twentyFive {x : Nat} (hlow : 710 ≤ x) (hhigh : x + 25 ≤ 960) :
    weight (x + 25) = 2 * weight x := by
  have hstep : min (x + 25) 960 - 710 = min x 960 - 710 + 25 := by omega
  rw [weight_of_le hlow, weight_of_le (by omega), hstep, Nat.add_mod_right, Nat.add_div_right _ (by decide), pow_succ]
  ring

/-- At 96.0 °C and above the weight no longer depends on the temperature. -/
theorem weight_of_saturated {x : Nat} (hx : 960 ≤ x) : weight x = 16384 := by
  rw [weight_of_le (by omega), min_eq_right hx]
  rfl

/-- Settles O43, from the equations of `weight` for its two branches, the rounding of the table's entries and the
doubling law. -/
theorem weightIsTheTable : Obligations.WeightIsTheTable := by
  intro x d k q _ hd hk hq
  refine ⟨weight_of_lt, ?entry, rfl, ?rounded, weight_add_twentyFive, rfl, rfl, weight_of_saturated⟩
  case entry =>
    intro hx
    refine ⟨by omega, by omega, by omega, ?_⟩
    rw [weight_of_le hx, ← hd, ← hk, ← hq, weightTable]
  case rounded =>
    intro hk24
    exact weightTable_entry_is_rounded k (Nat.lt_succ_of_le hk24)

end Sys2Proof.Proofs.HeatCredit
end

section
/-! The verdict (R137): `formVerdict` is the first failing one of its nine checks, and what each check says of the pass
sheet. -/

namespace Sys2Proof.Proofs.ExitVerdict

open Sys2Proof.Machine

/-- The verdict beside the first check that fails, PASS when none does: how R137 reads its table. A check is `true`
when it fails. -/
def firstFailing (checks : List (Bool × Verdict)) : Verdict :=
  (checks.find? (·.1)).elim .pass (·.2)

@[simp] theorem firstFailing_nil : firstFailing [] = .pass := rfl

@[simp] theorem firstFailing_cons (fails : Bool) (v : Verdict) (rest : List (Bool × Verdict)) :
    firstFailing ((fails, v) :: rest) = if fails then v else firstFailing rest := by
  cases fails <;> rfl

/-- The nine checks of `formVerdict`, in its order. -/
def checks (c : Configuration) (p : PassSheet) : List (Bool × Verdict) :=
  [(p.orderFault, .orderFault),
    (p.fragments.any fun f => f.any (·.slip), .seqSlip),
    (p.fragments.any fun f => f.any fun x => decide (x.faultCode ≠ 0), .sectionFault),
    ((p.required.pre && p.preFragment.isNone) || (p.required.wash && p.washFragment.isNone) ||
      (p.required.rinse && p.rinseFragment.isNone), .missingSection),
    (p.required.pre && hot p.preFragment c.preLimit, .preHot),
    (p.required.wash && cold p.washFragment c.washLimit, .washCold),
    (p.required.rinse && cold p.rinseFragment c.rinseLimit, .rinseCold),
    (p.gap, .interrupted),
    (decide (p.credit < c.thresholdOf p.requiredLevel), .creditShort)]

theorem formVerdict_eq_firstFailing (c : Configuration) (p : PassSheet) :
    formVerdict c p = firstFailing (checks c p) := by
  simp only [formVerdict, checks, firstFailing_cons, firstFailing_nil, decide_eq_true_eq]

/-! ### What each check says -/

/-- A section without a fragment fails no check on the stored fragments. -/
theorem any_reduceOption {α : Type} (test : α → Bool) (l : List (Option α)) :
    l.reduceOption.any test = l.any (·.any test) := by
  induction l with
  | nil => rfl
  | cons f rest ih => cases f <;> simp [ih]

/-- NONE is not above a limit. -/
theorem hot_eq_any (f : Option Fragment) (limit : Nat) :
    hot f limit = (f.bind (·.measurement)).any fun m => decide (limit < m) := by
  unfold hot
  cases f.bind (·.measurement) <;> rfl

/-- NONE counts as below every limit. -/
theorem cold_eq_all (f : Option Fragment) (limit : Nat) :
    cold f limit = (f.bind (·.measurement)).all fun m => decide (m < limit) := by
  unfold cold
  cases f.bind (·.measurement) <;> rfl

theorem missing_eq_decide (p : PassSheet) :
    ((p.required.pre && p.preFragment.isNone) || (p.required.wash && p.washFragment.isNone) ||
        (p.required.rinse && p.rinseFragment.isNone)) =
      decide ((p.required.pre = true ∧ p.preFragment = none) ∨ (p.required.wash = true ∧ p.washFragment = none) ∨
        (p.required.rinse = true ∧ p.rinseFragment = none)) := by
  rw [Bool.eq_iff_iff]
  simp only [Bool.or_eq_true, Bool.and_eq_true, Option.isNone_iff_eq_none, decide_eq_true_eq, or_assoc]

theorem thresholdOf_eq_getElem (c : Configuration) (level : Fin 4) :
    c.thresholdOf level.val = c.threshold[level] := by
  simp [Configuration.thresholdOf]

/-- Settles O44: `formVerdict` is the first failing one of `checks`, and those are the checks of R137. -/
theorem verdictIsTheFirstFailingCheck : Obligations.VerdictIsTheFirstFailingCheck := by
  intro c sh level fragments hlevel hfragments
  have hany (test : Fragment → Bool) : sh.fragments.any (·.any test) = fragments.any test := by
    rw [hfragments, any_reduceOption, PassSheet.fragments]
  rw [formVerdict_eq_firstFailing, checks, hany, hany, missing_eq_decide, hot_eq_any, cold_eq_all, cold_eq_all,
    hlevel, thresholdOf_eq_getElem, firstFailing]

end Sys2Proof.Proofs.ExitVerdict
end

section
/-! The rows of the machine, told apart once: which rows are the arrival of a request, which are transactions, and what
RST low makes of each; and the statements that need no more than a row's own meaning. -/

namespace Sys2Proof.Proofs.Rows

open Sys2Proof.Machine

/-! ### The rows -/

/-- While RST is low nothing is taken (R187). -/
theorem unlessReset_of_low {s : State} (h : s.rstLow = true) (f : State → State) : unlessReset s f = .next s := by
  simp [unlessReset, h]

/-- While RST is low no transaction is taken (R187). -/
theorem take_of_low {s : State} (h : s.rstLow = true) (x : Transfer) (fits : Bool) (act : State → Taken) :
    s.take x fits act = s := by
  simp [State.take, h]

/-- A row that is no reset is taken unless RST is low, or is the end of a transaction. -/
theorem exec_taken (c : Instr) (h : c.isReset = false) :
    (∃ f, ∀ s, exec c s = unlessReset s f) ∨ (∃ x fits act, ∀ s, exec c s = .next (s.take x fits act)) := by
  cases c
  case powerOn | rstAssert | rstRelease => cases h
  case tick | frameArrival | partialFrameTimeout | lineBreak | frameSent | sight | dispatch | mode | withdraw | query
    | admitRequest | sectionReport | sample | exit | tankReady | tankCold | tankFlushDone | tankFault | emptied
    | relocate | fetch | lostRecordExpiry | idleTimerExpiry | restartTimerExpiry | flushTimerExpiry | spacingExpiry
    | lastAdmissionAgeOut | boosterAgeing | boosterEntryRemoval | minimumDwellExpiry | maximumDwellExpiry
    | characterReceived => exact .inl ⟨_, fun _ => rfl⟩
  all_goals exact .inr ⟨_, _, _, fun _ => rfl⟩

/-- A station row is the arrival of the request that its frame carries. -/
theorem exec_wire {c : Instr} {p : Port} {k : ReqKind} {payload : List Byte} (h : c.wire = some (p, k, payload))
    (s : State) : exec c s = request p k payload s := by
  cases c <;> cases h <;> rfl

/-- A station row, while RST is high. -/
theorem exec_wire_of_high {c : Instr} {p : Port} {k : ReqKind} {payload : List Byte} {s : State}
    (h : c.wire = some (p, k, payload)) (hr : s.rstLow = false) :
    exec c s = .next (s.arrive p ⟨k.code, payload⟩) := by
  rw [exec_wire h, request, unlessReset_of_high hr]

/-- Settles O1: by the definition of `step`. -/
theorem stepRunsFrontCommand : Obligations.StepRunsFrontCommand := by
  intro c rest s h
  simp only [step, h]

/-- Settles O3: each row but the resets is taken by `unlessReset` or by `State.take`. -/
theorem rstLowTakesNothing : Obligations.RstLowTakesNothing := by
  intro c s hs hc
  rcases exec_taken c hc with ⟨f, hf⟩ | ⟨x, fits, act, hf⟩
  · rw [hf, unlessReset_of_low hs]
  · rw [hf, take_of_low hs]

/-- Settles O6, from the arithmetic of a 32-bit counter. -/
theorem tickCountsAndWraps : Obligations.TickCountsAndWraps := by
  intro s hs
  refine ⟨?_, fun h => ?_, fun h => ?_⟩
  · simp only [exec, execTick, unlessReset_of_high hs]
  · bv_omega
  · bv_omega

/-- Settles O7: the power-on state is one state, and each law of it is decided. -/
theorem lawsHoldAtReset : Obligations.LawsHoldAtReset :=
  ⟨by decide, by decide, by decide, by decide, by decide, by decide⟩

/-! ### Ports -/

/-- The receive assembly emptied, as the statements write it. -/
theorem hunt_eq (s : State) (p : Port) :
    s.hunt p = { s with ports := s.ports.set p { s.ports[p] with assembly := [] } } := rfl

/-- A port written back as it was. -/
theorem modifyPort_self {s : State} {p : Port} {f : PortState → PortState} (h : f s.ports[p] = s.ports[p]) :
    s.modifyPort p f = s := by
  rw [State.modifyPort, h, Fin.getElem_fin, Vector.set_getElem_self]

/-- A port that is hunting already hunts on. -/
theorem hunt_of_hunting {s : State} {p : Port} (h : s.ports[p].assembly = []) : s.hunt p = s := by
  refine modifyPort_self ?_
  rw [← h]

/-- Settles O19, from the cases of `State.character`. -/
theorem assemblyDiscardsAndHunts : Obligations.AssemblyDiscardsAndHunts := by
  rintro p b s hunted hs rfl
  simp only [exec, execPartialFrameTimeout, execLineBreak, execCharacterReceived, unlessReset_of_high hs]
  refine ⟨rfl, rfl, fun h3 hb => ?_, fun h0 hb => ?_, fun h0 hb => ?_⟩ <;> refine congrArg _ ?_
  · obtain ⟨x, y, z, hxyz⟩ := List.length_eq_three.mp h3
    rw [State.character, hxyz]
    simp [maxPayload, hb, hunt_eq]
  · simp only [State.character, h0, if_neg hb]
  · simp only [State.character, h0, hb]
    rfl

/-- Settles O20, from what an arrival can do. -/
theorem secondWaitsThirdIsBusyOnce : Obligations.SecondWaitsThirdIsBusyOnce := by
  intro c p k payload s hs hc
  rw [exec_wire_of_high hc hs]
  rcases s.arrive_cases p ⟨k.code, payload⟩ with ⟨h, -⟩ | ⟨h, he⟩ | ⟨h, hb, he⟩ | ⟨h, hb, he⟩
  · rw [h]
    exact ⟨nofun, nofun, nofun⟩
  · exact ⟨fun _ => congrArg _ he, fun h2 => by omega, fun h2 => by omega⟩
  · exact ⟨fun h1 => by omega, fun _ hf => absurd (hb.symm.trans hf) (by decide), fun _ _ => congrArg _ he⟩
  · refine ⟨fun h1 => by omega, fun _ _ => congrArg _ ?_, fun _ ht => absurd (hb.symm.trans ht) (by decide)⟩
    rw [he]
    simp [State.pushAnswer, State.modifyPort, PortState.withFrame, answerCode_code]

end Sys2Proof.Proofs.Rows
end

section
/-! What a command can do, said once: the events that a command can begin (`Begun`), what becomes of the state
(`Effect`), and what of it the laws of the Rack Table, the windows and the tunnels can see (`State.core`). -/

namespace Sys2Proof.Proofs.Effects

open Sys2Proof.Machine Sys2Proof.Proofs.Rows

/-! ### Requests whose fields lie in their ranges -/

/-- The ranges of a request's fields that its type does not give (R174). -/
def valid : Request → Prop
  | .sight _ tag | .withdraw tag | .query tag | .admitRequest tag | .exit tag | .emptied tag | .relocate tag _ =>
    isTag tag = true
  | .sectionReport st _ _ fault => st ≠ .final ∧ fault ≤ 15
  | .dispatch _ _ | .mode _ _ | .sample _ | .tank _ => True

theorem isTag_of_tagField {x y z : Byte} {tag : Nat} (h : tagField x y z = some tag) : isTag tag = true := by
  unfold tagField at h
  split at h
  · cases h; assumption
  · cases h

theorem ne_final_of_reportedStageOf {n : Nat} {st : Stage} (h : reportedStageOf n = some st) : st ≠ .final := by
  unfold reportedStageOf at h
  split at h <;> cases h <;> nofun

/-- What a payload spells is in range (R174). -/
theorem valid_of_parseRequest {k : ReqKind} {payload : List Byte} {req : Request}
    (h : parseRequest k payload = some req) : valid req := by
  unfold parseRequest at h
  split at h
  case h_1 =>
    simp only [Option.bind_eq_some_iff, Option.map_eq_some_iff] at h
    obtain ⟨w, -, tag, ht, rfl⟩ := h
    exact isTag_of_tagField ht
  case h_2 | h_3 =>
    simp only [Option.bind_eq_some_iff, Option.map_eq_some_iff] at h
    obtain ⟨w, -, x, -, rfl⟩ := h
    trivial
  case h_4 | h_5 | h_6 | h_9 | h_11 =>
    simp only [Option.map_eq_some_iff] at h
    obtain ⟨tag, ht, rfl⟩ := h
    exact isTag_of_tagField ht
  case h_7 =>
    simp only [Option.bind_eq_some_iff] at h
    obtain ⟨st, hst, h⟩ := h
    split at h
    · cases h; exact ⟨ne_final_of_reportedStageOf hst, ‹_›⟩
    · cases h
  case h_8 => cases h; trivial
  case h_10 =>
    simp only [Option.map_eq_some_iff] at h
    obtain ⟨c, -, rfl⟩ := h
    trivial
  case h_12 =>
    simp only [Option.bind_eq_some_iff, Option.map_eq_some_iff] at h
    obtain ⟨tag, ht, g, -, rfl⟩ := h
    exact isTag_of_tagField ht
  case h_13 => cases h

/-! ### Events -/

/-- The events that command `c` can begin at state `s`: everything the command itself does, before the end of its
event. -/
inductive Begun (c : Instr) (s : State) : Event → Prop
  /-- a request that the port refuses, a read, a refused command -/
  | nothing : Begun c s s.event
  /-- a request handed to its owning block -/
  | owner (p : Port) (t : Tunnel) (req : Request) : c.servesRequests = true → valid req →
    Begun c s (s.event.owner p t req).event
  /-- notices taken out of the set -/
  | notices (named : BitVec 16) : c.clearsNotices = true → c.isReset = false → Begun c s (s.clearNotices named).event
  | write (x : Transfer) (pairs : List (BitVec 16 × BitVec 32)) (new : Configuration) (items : List Item) :
    c = .writeConfig x pairs → Begun c s (({ s.event with config := new } : Event).afterWrite s.config items)
  | retire (tag : Nat) (r : Rack) : s.rack? tag = some r → r.state ≠ .washing → Begun c s (s.event.retireRack r)
  | relocate (tag : Nat) (g : Target) : Begun c s (s.event.serveRelocate tag g).event
  | start (t : Tunnel) : Begun c s (s.event.startTunnel t).1
  | stop (t : Tunnel) : Begun c s (s.event.stopTunnel t).1
  | flush (t : Tunnel) : Begun c s (s.event.flushTunnel t).1
  | clearFault (t : Tunnel) : Begun c s (s.event.clearFault t).1
  | mode (x : Transfer) (wb mb : Byte) (w : Window) (m : WindowMode) : c = .windowMode x wb mb →
    Begun c s (s.event.setMode w m)
  | cls (x : Transfer) (wb kb : Byte) (w : Window) (k : RackClass) : c = .windowClass x wb kb →
    Begun c s (s.event.setClass w k)
  | restart (x : Transfer) : c = .lineRestart x → Begun c s s.restartLine.event
  | lost (tag : Nat) (r : Rack) : s.rack? tag = some r → s.lostDue r = true → Begun c s (s.event.loseRecord r)
  | idle (t : Tunnel) : Begun c s (s.event.idleExpire t)
  | restarted (t : Tunnel) : (s.tunnels.get t).state = .restarting → Begun c s (s.event.restartExpire t)
  | fault (t : Tunnel) : (s.tunnels.get t).state = .flushing → Begun c s (s.event.enterFault t)
  | reevaluation : Begun c s { s.event with wantReeval := true }
  | readiness (t : Tunnel) : Begun c s (s.event.readinessTest t)

/-- The event of a request is one that its row can begin (R168). -/
theorem begun_judge {c : Instr} (hc : c.servesRequests = true) (s : State) (p : Port) (r : RawRequest) :
    Begun c s (s.judge p r).event := by
  unfold State.judge
  dsimp only
  split
  · exact .nothing
  · split
    · split
      · exact .nothing
      · split
        · exact .nothing
        · exact .owner _ _ _ hc (valid_of_parseRequest ‹_›)
    · exact .nothing

/-! ### What becomes of the state -/

/-- The state with a port's receive assembly changed. -/
def withAssembly (s : State) (p : Port) (a : List Byte) : State := s.modifyPort p fun x => { x with assembly := a }

/-- What command `c`, which is no reset, can make of state `s`. -/
inductive Effect (c : Instr) (s : State) : State → Prop
  | nothing : Effect c s s
  | tick : c = .tick → Effect c s { s with now := s.now + 1 }
  /-- a character, a discarded or a refused frame -/
  | assembly (p : Port) (a : List Byte) : Effect c s (withAssembly s p a)
  | wrongLine (p : Port) (a : List Byte) : Effect c s ((withAssembly s p a).raise .wrongLine)
  /-- the arrival of a request -/
  | arrival (p : Port) (a : List Byte) (r : RawRequest) : c.servesRequests = true →
    Effect c s ((withAssembly s p a).arrive p r)
  | sent (p : Port) : c.servesRequests = true → Effect c s (s.frameSent p)
  /-- a transaction that is refused or fetches -/
  | buffers (b : List Byte) (r : Option Response) (m : List Byte) : c.isTransaction = true →
    Effect c s { s with commandBuffer := b, response := r, miso := m }
  /-- a transaction that is carried out -/
  | command (e : Event) (x : Transfer) (r : Response) : c.isTransaction = true → Begun c s e →
    Effect c s ((e.finish none).respond x r)
  /-- an expiry -/
  | expiry (e : Event) : Begun c s e → Effect c s (e.finish none)
  | ageOut (last : PerTunnel (Option Tick)) : Effect c s { s with lastAdmission := last }
  | ageOutExpiry (last : PerTunnel (Option Tick)) :
    Effect c s ({ s with lastAdmission := last } : State).reevaluationEvent
  | removal (history : List Tick) : c = .boosterEntryRemoval → history.Sublist s.boosterHistory →
    Effect c s { s with boosterHistory := history }
  | removalExpiry (history : List Tick) : c = .boosterEntryRemoval → history.Sublist s.boosterHistory →
    Effect c s ({ s with boosterHistory := history } : State).reevaluationEvent

theorem withAssembly_self (s : State) (p : Port) : withAssembly s p s.ports[p].assembly = s := modifyPort_self rfl

theorem effect_checkFrame {c : Instr} (hc : c.servesRequests = true) (s : State) (p : Port) (a : List Byte)
    (identity kind : Byte) (payload : List Byte) (check : Byte) :
    Effect c s ((withAssembly s p a).checkFrame p identity kind payload check) := by
  unfold State.checkFrame
  split
  · exact .assembly p a
  · split
    · exact .wrongLine p a
    · exact .arrival p a _ hc

theorem effect_character {c : Instr} (hc : c.servesRequests = true) (s : State) (p : Port) (b : Byte) :
    Effect c s (s.character p b) := by
  unfold State.character
  split
  · split
    · exact .assembly p _
    · exact .nothing
  · dsimp only
    split
    · exact .assembly p _
    · split
      · exact .assembly p _
      · split
        · unfold State.frameComplete
          split
          · exact effect_checkFrame hc s p [] _ _ _ _
          · exact .assembly p _
        · exact .assembly p _

/-- A row that `unlessReset` takes. -/
theorem effect_unlessReset {c : Instr} {s t : State} {f : State → State} (h : exec c s = .next t)
    (hu : ∀ s, exec c s = unlessReset s f) (hf : Effect c s (f s)) : Effect c s t := by
  rw [hu] at h
  cases hs : s.rstLow
  · rw [unlessReset_of_high hs] at h
    cases h
    exact hf
  · rw [unlessReset_of_low hs] at h
    cases h
    exact .nothing

/-- A transaction whose event is one that its command can begin. -/
theorem effect_take {c : Instr} (hc : c.isTransaction = true) {s t : State} {x : Transfer} {fits : Bool}
    {act : State → Taken} (h : Host.Outcome.next (s.take x fits act) = (.next t : Result))
    (hb : Begun c s (act s).event) : Effect c s t := by
  cases h
  rcases s.take_cases x fits act with ⟨-, h⟩ | ⟨-, -, -, h⟩ | ⟨-, -, -, h⟩
  · rw [h]; exact .nothing
  · rw [h]; exact .command _ _ _ hc hb
  · rw [h]; exact .buffers _ _ _ hc

theorem begun_tunnelCommand {c : Instr} {s : State} (n : Nat) {action : Event → Tunnel → Event × RespStatus}
    (h : ∀ t, Begun c s (action s.event t).1) : Begun c s (s.tunnelCommand n action).event := by
  unfold State.tunnelCommand
  split
  · exact .nothing
  · exact h _

theorem effect_reevaluationEvent {c : Instr} (s : State) : Effect c s s.reevaluationEvent := .expiry _ .reevaluation

/-- What a command that is no reset can do. -/
theorem effect_of_exec {c : Instr} {s t : State} (hr : c.isReset = false) (h : exec c s = .next t) :
    Effect c s t := by
  cases hw : c.wire with
  | some w =>
    obtain ⟨p, k, payload⟩ := w
    refine effect_unlessReset h (exec_wire hw) ?_
    have := Effect.arrival (c := c) (s := s) p s.ports[p].assembly ⟨k.code, payload⟩
      (by cases c <;> cases hw <;> rfl)
    rwa [withAssembly_self] at this
  | none =>
  cases c
  case powerOn | rstAssert | rstRelease => cases hr
  case sight | dispatch | mode | withdraw | query | admitRequest | sectionReport | sample | exit | tankReady | tankCold
    | tankFlushDone | tankFault | emptied | relocate => cases hw
  case tick => exact effect_unlessReset h (fun _ => rfl) (.tick rfl)
  case partialFrameTimeout p | lineBreak p => exact effect_unlessReset h (fun _ => rfl) (.assembly p [])
  case frameArrival p identity kind payload check =>
    refine effect_unlessReset h (fun _ => rfl) ?_
    split
    · exact effect_checkFrame rfl s p [] _ _ _ _
    · exact .assembly p []
  case frameSent p => exact effect_unlessReset h (fun _ => rfl) (.sent p rfl)
  case characterReceived p b => exact effect_unlessReset h (fun _ => rfl) (effect_character rfl s p b)
  case nop | readWindows | readTick => exact effect_take rfl h .nothing
  case readRecord x key =>
    refine effect_take rfl h ?_
    unfold State.readRecordBy
    split
    · split
      · split <;> exact .nothing
      · exact .nothing
    · split
      · split <;> exact .nothing
      · exact .nothing
    · exact .nothing
  case readPlace | readTunnel => refine effect_take rfl h ?_; split <;> exact .nothing
  case readConfig => refine effect_take rfl h ?_; unfold State.readItems; split <;> exact .nothing
  case writeConfig x pairs =>
    refine effect_take rfl h ?_
    unfold State.writeItems
    split
    · exact .nothing
    · split
      · exact .nothing
      · exact .write x pairs _ _ rfl
  case retire x tag =>
    refine effect_take rfl h ?_
    unfold State.retireTag
    split
    · split
      · exact .nothing
      · split
        · exact .nothing
        · exact .retire _ _ ‹_› ‹_›
    · exact .nothing
  case supervisorRelocate x tag target =>
    refine effect_take rfl h ?_
    unfold State.relocateBy
    split
    · exact .nothing
    · split
      · exact .relocate _ _
      · exact .nothing
  case tunnelStart => exact effect_take rfl h (begun_tunnelCommand _ .start)
  case tunnelStop => exact effect_take rfl h (begun_tunnelCommand _ .stop)
  case tunnelFlush => exact effect_take rfl h (begun_tunnelCommand _ .flush)
  case tunnelClearFault => exact effect_take rfl h (begun_tunnelCommand _ .clearFault)
  case windowMode x wb mb =>
    refine effect_take rfl h ?_
    unfold State.windowModeBy
    split
    · exact .mode x wb mb _ _ rfl
    · exact .nothing
  case windowClass x wb kb =>
    refine effect_take rfl h ?_
    unfold State.windowClassBy
    split
    · exact .cls x wb kb _ _ rfl
    · exact .nothing
  case readNotices x =>
    refine effect_take rfl h ?_
    unfold State.readNoticeSet
    dsimp only
    split
    · exact .nothing
    · exact .notices _ rfl rfl
  case clearNotices x named => exact effect_take rfl h (.notices _ rfl rfl)
  case lineRestart x => exact effect_take rfl h (.restart x rfl)
  case unknownCommandCode => exact effect_take rfl h .nothing
  case fetch clocked =>
    refine effect_unlessReset h (fun _ => rfl) ?_
    split
    · exact .nothing
    · exact .buffers _ _ _ rfl
  case lostRecordExpiry tag =>
    refine effect_unlessReset h (fun _ => rfl) ?_
    split
    · split
      · exact .expiry _ (.lost _ _ ‹_› ‹_›)
      · exact .nothing
    · exact .nothing
  case idleTimerExpiry t => exact effect_unlessReset h (fun _ => rfl) (.expiry _ (.idle t))
  case restartTimerExpiry t =>
    refine effect_unlessReset h (fun _ => rfl) ?_
    dsimp only
    split
    · rename_i hs
      exact .expiry _ (.restarted t hs.1)
    · exact .nothing
  case flushTimerExpiry t =>
    refine effect_unlessReset h (fun _ => rfl) ?_
    dsimp only
    split
    · rename_i hs
      exact .expiry _ (.fault t hs.1)
    · exact .nothing
  case spacingExpiry t =>
    refine effect_unlessReset h (fun _ => rfl) ?_
    split
    · split
      · exact effect_reevaluationEvent s
      · exact .nothing
    · exact .nothing
  case lastAdmissionAgeOut t =>
    refine effect_unlessReset h (fun _ => rfl) ?_
    dsimp only
    split
    · split
      · split
        · exact .ageOutExpiry _
        · exact .ageOut _
      · exact .nothing
    · exact .nothing
  case boosterAgeing =>
    refine effect_unlessReset h (fun _ => rfl) ?_
    split
    · exact effect_reevaluationEvent s
    · exact .nothing
  case boosterEntryRemoval =>
    refine effect_unlessReset h (fun _ => rfl) ?_
    dsimp only
    split
    · exact .removalExpiry _ rfl List.filter_sublist
    · exact .removal _ rfl List.filter_sublist
  case minimumDwellExpiry t | maximumDwellExpiry t =>
    refine effect_unlessReset h (fun _ => rfl) ?_
    split
    · split
      · exact .expiry _ (.readiness t)
      · exact .nothing
    · exact .nothing

end Sys2Proof.Proofs.Effects
end

section
/-! What an event cannot change: the registers that belong to other rows, the notices it can only add to, and the
booster history, which an admission alone extends (R88). One relation, kept by every operation and so by every event. -/

namespace Sys2Proof.Proofs.Registers

open Sys2Proof.Machine Sys2Proof.Proofs.Effects

/-! ### The relation -/

/-- The parts of the state that no operation of an event writes. -/
structure Fixed where
  pending : List Instr
  rstLow : Bool
  straps : Straps
  identity : BitVec 5
  fallback : Bool
  divisor : Nat
  now : Tick
  config : Configuration
  commandBuffer : List Byte
  response : Option Response
  miso : List Byte

/-- Those parts of a state. -/
def fixed (s : State) : Fixed :=
  ⟨s.pending, s.rstLow, s.straps, s.identity, s.fallback, s.divisor, s.now, s.config, s.commandBuffer, s.response,
    s.miso⟩

/-- At most N entries of the booster history count, when the booster window is not 0 (R88). -/
def boosterBounded (s : State) : Prop := s.config.boosterWindow ≠ 0 → s.boosterCounted ≤ s.config.boosterCount

/-- What an operation is free to change beside the rest of the state. -/
structure Free where
  /-- the window contexts -/
  windows : Bool := false
  /-- the station ports -/
  ports : Bool := false

/-- `t` keeps what no operation of an event changes of `s`. -/
structure Kept (f : Free) (s t : State) : Prop where
  fixed : fixed t = fixed s
  windows : f.windows = false → t.windows = s.windows
  ports : f.ports = false → t.ports = s.ports
  notices : s.notices ||| t.notices = t.notices
  booster : t.boosterHistory = s.boosterHistory ∨ boosterBounded t

variable {f : Free}

/-- A change of nothing that `Kept` speaks of. -/
theorem Kept.same {s t : State} (h : Registers.fixed t = Registers.fixed s) (hw : t.windows = s.windows)
    (hp : t.ports = s.ports) (hn : t.notices = s.notices) (hb : t.boosterHistory = s.boosterHistory) : Kept f s t :=
  ⟨h, fun _ => hw, fun _ => hp, by rw [hn, BitVec.or_self], .inl hb⟩

theorem Kept.refl (s : State) : Kept f s s := .same rfl rfl rfl rfl rfl

theorem boosterBounded_congr {s t : State} (h : fixed t = fixed s) (hb : t.boosterHistory = s.boosterHistory)
    (hs : boosterBounded s) : boosterBounded t := by
  injection h with _ _ _ _ _ _ hnow hconfig
  unfold boosterBounded State.boosterCounted at *
  rwa [hnow, hconfig, hb]

theorem Kept.trans {s t u : State} (h : Kept f s t) (h' : Kept f t u) : Kept f s u where
  fixed := h'.fixed.trans h.fixed
  windows hf := (h'.windows hf).trans (h.windows hf)
  ports hf := (h'.ports hf).trans (h.ports hf)
  notices := by rw [← h'.notices, ← BitVec.or_assoc, h.notices]
  booster := by
    rcases h'.booster with hb | hb
    · rcases h.booster with ha | ha
      · exact .inl (hb.trans ha)
      · exact .inr (boosterBounded_congr h'.fixed hb ha)
    · exact .inr hb

/-- `Kept.trans`, from the second change to the first. -/
theorem Kept.after {s t u : State} (h' : Kept f t u) (h : Kept f s t) : Kept f s u := h.trans h'

/-! ### Single changes -/

theorem kept_raise (e : Event) (n : Notice) : Kept f e.toState (e.raise n).toState :=
  ⟨rfl, fun _ => rfl, fun _ => rfl, by simp [← BitVec.or_assoc], .inl rfl⟩

theorem kept_send (e : Event) (p : Port) (m : Message) : Kept f e.toState (e.send p m).toState :=
  .same rfl rfl rfl rfl rfl

theorem kept_sendRole (e : Event) (r : Role) (m : Message) : Kept f e.toState (e.sendRole r m).toState :=
  .same rfl rfl rfl rfl rfl

theorem kept_setTunnel (e : Event) (t : Tunnel) (c : TunnelContext) : Kept f e.toState (e.setTunnel t c).toState :=
  .same rfl rfl rfl rfl rfl

theorem kept_enter (e : Event) (t : Tunnel) (st : TunnelState) (fresh : Bool) :
    Kept f e.toState (e.enter t st fresh).toState := .same rfl rfl rfl rfl rfl

theorem kept_modifyRack (e : Event) (tag : Nat) (g : Rack → Rack) : Kept f e.toState (e.modifyRack tag g).toState :=
  .same rfl rfl rfl rfl rfl

theorem kept_modifySheet (e : Event) (tag : Nat) (g : PassSheet → PassSheet) :
    Kept f e.toState (e.modifySheet tag g).toState := kept_modifyRack e tag _

theorem kept_dropPending (e : Event) : Kept f e.toState e.dropPending.toState := .same rfl rfl rfl rfl rfl

theorem kept_consumeEntry (e : Event) (w : Window) : Kept f e.toState (e.consumeEntry w).toState :=
  .same rfl rfl rfl rfl rfl

theorem kept_post (e : Event) (w : Window) : Kept f e.toState (e.post w).toState := by
  rcases e.post_cases w with ⟨-, h⟩ | ⟨-, h⟩ <;> rw [h]
  · exact .refl _
  · exact .same rfl rfl rfl rfl rfl

theorem kept_postMany (w : Window) (n : Nat) : ∀ e : Event, Kept f e.toState (e.postMany w n).toState := by
  induction n with
  | zero => exact fun e => .refl _
  | succ n ih => exact fun e => (kept_post e w).trans (ih _)

/-! ### The move -/

theorem kept_join (e : Event) (r : Rack) : Kept f e.toState (e.join r).toState := by
  rcases e.join_cases r with h | ⟨-, h⟩ | ⟨-, h⟩ <;> rw [h]
  · exact .same rfl rfl rfl rfl rfl
  · exact (kept_raise _ _).after (.same rfl rfl rfl rfl rfl)
  · exact .same rfl rfl rfl rfl rfl

theorem kept_swap (e : Event) (w : Window) : Kept f e.toState (e.swap w).toState := by
  rcases e.swap_cases w with h | ⟨r, -, -, h⟩ <;> rw [h]
  · exact .refl _
  · exact kept_join _ _

theorem kept_noteStarved (e : Event) (w : Window) : Kept f e.toState (e.noteStarved w).toState := by
  rcases e.noteStarved_cases w with ⟨-, h⟩ | ⟨-, h⟩ <;> rw [h]
  · exact kept_raise _ _
  · exact .refl _

theorem kept_laneDeparted (e : Event) (t : Tunnel) : Kept f e.toState (e.laneDeparted t).toState := by
  unfold Event.laneDeparted
  dsimp only
  split
  · split
    · exact .same rfl rfl rfl rfl rfl
    · exact .same rfl rfl rfl rfl rfl
    · exact .same rfl rfl rfl rfl rfl
    · exact .same rfl rfl rfl rfl rfl
  · exact .same rfl rfl rfl rfl rfl

theorem kept_departed (e : Event) (r : Rack) : Kept f e.toState (e.departed r).toState := by
  unfold Event.departed
  split
  · exact ((kept_swap e _).trans (kept_post _ _)).trans (kept_noteStarved _ _)
  · exact (kept_post e _).trans (kept_noteStarved _ _)
  · exact .same rfl rfl rfl rfl rfl
  · exact .same rfl rfl rfl rfl rfl
  · exact .same rfl rfl rfl rfl rfl
  · split
    · exact kept_post _ _
    · exact .refl _
  · exact kept_laneDeparted _ _
  · exact .refl _
  · exact .refl _

theorem kept_move (e : Event) (r : Rack) (st : RackState) (p : Place) (cause : Option HoldCause) :
    Kept f e.toState (e.move r st p cause).toState :=
  (kept_join e _).trans (kept_departed _ r)

theorem kept_remove (e : Event) (r : Rack) : Kept f e.toState (e.remove r).toState :=
  (kept_departed _ r).after (.same rfl rfl rfl rfl rfl)

theorem kept_cancelPending (e : Event) (tag : Nat) : Kept f e.toState (e.cancelPending tag).toState := by
  rcases e.cancelPending_cases tag with ⟨p, -, -, h⟩ | ⟨-, h⟩ <;> rw [h]
  · exact (kept_send e _ _).trans (kept_dropPending _)
  · exact .refl _

theorem kept_enrol (e : Event) (tag : Nat) (a : EnrolAttributes) (st : RackState) (p : Place) :
    Kept f e.toState (e.enrol tag a st p).toState := (kept_join e _).trans (kept_cancelPending _ _)

theorem kept_retireRack (e : Event) (r : Rack) : Kept f e.toState (e.retireRack r).toState :=
  (kept_remove e r).trans (kept_cancelPending _ _)

theorem kept_loseRacks (cause : HoldCause) (rs : List Rack) :
    ∀ e : Event, Kept f e.toState (e.loseRacks cause rs).toState := by
  induction rs with
  | nil => exact fun e => .refl _
  | cons r rs ih => exact fun e => (kept_join e _).trans (ih _)

theorem kept_loseRecord (e : Event) (r : Rack) : Kept f e.toState (e.loseRecord r).toState :=
  (kept_raise e _).trans (kept_retireRack _ r)

theorem kept_loseRecords (rs : List Rack) : ∀ e : Event, Kept f e.toState (e.loseRecords rs).toState := by
  induction rs with
  | nil => exact fun e => .refl _
  | cons r rs ih => exact fun e => (kept_loseRecord e r).trans (ih _)

/-! ### Tunnels and the gate -/

theorem kept_restart (e : Event) (t : Tunnel) : Kept f e.toState (e.restart t).toState := by
  unfold Event.restart
  dsimp only
  split
  · split <;> split <;> exact (kept_enter _ _ _ _).after (kept_setTunnel _ _ _)
  · exact .refl _

theorem kept_idleExpire (e : Event) (t : Tunnel) : Kept f e.toState (e.idleExpire t).toState := by
  unfold Event.idleExpire
  split
  · exact (kept_setTunnel e _ _).trans (kept_enter _ _ _ _)
  · exact .refl _

theorem kept_abandonExit (e : Event) (t : Tunnel) : Kept f e.toState (e.abandonExit t).toState := by
  unfold Event.abandonExit
  dsimp only
  split
  · exact (kept_setTunnel e _ _).trans (kept_send _ _ _)
  · exact kept_setTunnel e _ _

theorem kept_enterFault (e : Event) (t : Tunnel) : Kept f e.toState (e.enterFault t).toState :=
  ((((kept_abandonExit e t).trans (kept_setTunnel _ _ _)).trans (kept_loseRacks _ _ _)).trans (kept_raise _ _)).trans
    (kept_enter _ _ _ _)

theorem kept_release (e : Event) (t : Tunnel) (r : Rack) (v : Verdict) (d : Destination) (cause : Option HoldCause) :
    Kept f e.toState (e.release t r v d cause).toState := by
  unfold Event.release
  dsimp only
  split
  · exact ((kept_setTunnel e _ _).trans (kept_raise _ _)).trans (kept_move _ _ _ _ _)
  · exact (kept_setTunnel e _ _).trans (kept_move _ _ _ _ _)

theorem kept_releaseTest (e : Event) (t : Tunnel) (grant : Bool) :
    Kept f e.toState (e.releaseTest t grant).1.toState := by
  rcases e.releaseTest_cases t grant with h | ⟨r, v, -, -, -, h⟩ | ⟨r, v, d, cause, e', -, -, -, he, h⟩ <;> rw [h]
  · exact .refl _
  · exact (kept_setTunnel e _ _).trans (kept_raise _ _)
  · rcases he with rfl | ⟨p, -, -, rfl⟩
    · exact kept_release _ _ _ _ _ _
    · exact (kept_send e _ _).trans (kept_release _ _ _ _ _ _)

theorem kept_readinessTest (e : Event) (t : Tunnel) : Kept f e.toState (e.readinessTest t).toState := by
  rcases e.readinessTest_cases t with h | ⟨r, p, -, -, -, -, h⟩ <;> rw [h]
  · exact .refl _
  · split
    · exact (kept_modifySheet e _ _).trans (kept_releaseTest _ _ _)
    · exact kept_modifySheet e _ _

theorem kept_roomReport (e : Event) (t : Tunnel) : Kept f e.toState (e.roomReport t).toState := by
  unfold Event.roomReport
  dsimp only
  split
  · split
    · exact (kept_releaseTest _ _ _).after (.same rfl rfl rfl rfl rfl)
    · exact .same rfl rfl rfl rfl rfl
  · exact .refl _

/-! ### Return -/

theorem kept_pairOne (e : Event) (r : Rack) : Kept f e.toState (e.pairOne r).toState := by
  unfold Event.pairOne
  split
  · exact .refl _
  · exact .same rfl rfl rfl rfl rfl

theorem kept_pairAll (rs : List Rack) : ∀ e : Event, Kept f e.toState (e.pairAll rs).toState := by
  induction rs with
  | nil => exact fun e => .refl _
  | cons r rs ih => exact fun e => (kept_pairOne e r).trans (ih _)

theorem kept_clearRoutes (rs : List Rack) : ∀ e : Event, Kept f e.toState (e.clearRoutes rs).toState := by
  induction rs with
  | nil => exact fun e => .refl _
  | cons r rs ih => exact fun e => ((kept_modifyRack e _ _).trans (kept_sendRole _ _ _)).trans (ih _)

/-- A change of the window contexts alone. -/
theorem Kept.ofWindows {f : Free} (hf : f.windows = true) {s t : State} (h : Registers.fixed t = Registers.fixed s)
    (hp : t.ports = s.ports) (hn : t.notices = s.notices) (hb : t.boosterHistory = s.boosterHistory) : Kept f s t :=
  ⟨h, fun hf' => absurd (hf.symm.trans hf') (by decide), fun _ => hp, by rw [hn, BitVec.or_self], .inl hb⟩

theorem kept_setMode (hf : f.windows = true) (e : Event) (w : Window) (m : WindowMode) :
    Kept f e.toState (e.setMode w m).toState := by
  unfold Event.setMode
  split
  · exact .refl _
  · split
    · exact (kept_clearRoutes _ _).after (.ofWindows hf rfl rfl rfl rfl)
    · exact (kept_postMany w _ (e.writeMode w _)).after (.ofWindows hf rfl rfl rfl rfl)
    · exact Kept.ofWindows hf rfl rfl rfl rfl
    · exact Kept.ofWindows hf rfl rfl rfl rfl

theorem kept_setClass (hf : f.windows = true) (e : Event) (w : Window) (k : RackClass) :
    Kept f e.toState (e.setClass w k).toState := by
  unfold Event.setClass
  split
  · exact .refl _
  · exact ((kept_postMany _ _ _).after (kept_clearRoutes _ _)).after (.ofWindows hf rfl rfl rfl rfl)

theorem kept_takeAtWindow (e : Event) (w : Window) (r : Rack) (againstEntry : Bool) :
    Kept f e.toState (e.takeAtWindow w r againstEntry).event.toState := by
  unfold Event.takeAtWindow
  split
  · exact .refl _
  · dsimp only
    split
    · exact (kept_consumeEntry e w).trans (kept_join _ _)
    · exact kept_join _ _

/-! ### Admission -/

/-- One more entry at the tick `now`, counted or not, leaves at most one more entry that counts (R88). -/
theorem counted_boosterWith_le (h : List Tick) (now : Tick) (test : Tick → Bool) :
    ((boosterWith h now).filter test).length ≤ (h.filter test).length + 1 := by
  have hdrop : ((h.drop 1).filter test).length ≤ (h.filter test).length :=
    ((List.drop_sublist 1 h).filter test).length_le
  unfold boosterWith
  rw [List.filter_append, List.length_append]
  have hone : ([now].filter test).length ≤ 1 := List.length_filter_le _ _
  split <;> omega

theorem kept_countAdmission (e : Event) (t : Tunnel) (hb : e.toState.boosterAllows = true) :
    Kept f e.toState (e.countAdmission t).toState := by
  have hk : ∃ e' : Event, e.countAdmission t = { e' with
      boosterHistory := boosterWith e.boosterHistory e.now, lastAdmission := e.lastAdmission.set t (some e.now),
      lastChosen := some t } ∧ Kept f e.toState e'.toState ∧ e'.boosterHistory = e.boosterHistory := by
    unfold Event.countAdmission
    dsimp only
    split
    · exact ⟨_, rfl, (kept_setTunnel e _ _).trans (kept_enter _ _ _ _), rfl⟩
    · exact ⟨_, rfl, kept_setTunnel e _ _, rfl⟩
  obtain ⟨e', h, hk, hh⟩ := hk
  rw [h]
  refine ⟨hk.fixed, hk.windows, hk.ports, hk.notices, .inr fun hw => ?_⟩
  have hf := hk.fixed
  injection hf with _ _ _ _ _ _ hnow hconfig
  have hw' : e.config.boosterWindow ≠ 0 := by rw [← hconfig]; exact hw
  simp only [State.boosterAllows, Bool.or_eq_true, decide_eq_true_eq, hw', false_or] at hb
  refine Nat.le_trans (counted_boosterWith_le _ _ _) ?_
  simp only [State.boosterCounted, hnow, hconfig] at hb ⊢
  exact hb

/-- The tunnel an evaluation chooses is eligible (R89). -/
theorem eligible_of_chosen {s : State} {t : Tunnel} (h : s.chosenTunnel = some t) : s.eligible t = true := by
  unfold State.chosenTunnel at h
  split at h
  · cases h
  · cases h; assumption
  · cases h; assumption
  · rename_i ha hb
    cases t <;> assumption

theorem boosterAllows_of_chosen {s : State} {t : Tunnel} (h : s.chosenTunnel = some t) : s.boosterAllows = true := by
  have := eligible_of_chosen h
  simp only [State.eligible, Bool.and_eq_true] at this
  exact this.2

/-- Whether the booster allows an admission is seen in the history, the tick and the configuration alone. -/
theorem boosterAllows_congr {s t : State} (h : fixed t = fixed s) (hb : t.boosterHistory = s.boosterHistory) :
    t.boosterAllows = s.boosterAllows := by
  injection h with _ _ _ _ _ _ hnow hconfig
  unfold State.boosterAllows State.boosterCounted
  rw [hnow, hconfig, hb]

theorem join_fixed (e : Event) (r : Rack) : fixed (e.join r).toState = fixed e.toState :=
  (kept_join (f := {}) e r).fixed

theorem join_boosterHistory (e : Event) (r : Rack) : (e.join r).boosterHistory = e.boosterHistory := by
  rcases e.join_cases r with h | ⟨-, h⟩ | ⟨-, h⟩ <;> simp [h]

theorem kept_admitNew (e : Event) (t : Tunnel) (tag : Nat) (a : EnrolAttributes)
    (hb : e.toState.boosterAllows = true) : Kept f e.toState (e.admitNew t tag a).toState :=
  (kept_join e _).trans (kept_countAdmission _ _
    ((boosterAllows_congr (join_fixed e _) (join_boosterHistory e _)).trans hb))

theorem kept_admitRack (e : Event) (t : Tunnel) (r : Rack) (hb : e.toState.boosterAllows = true) :
    Kept f e.toState (e.admitRack t r).toState :=
  ((kept_join e _).trans (kept_countAdmission _ _
    ((boosterAllows_congr (join_fixed e _) (join_boosterHistory e _)).trans hb))).trans (kept_departed _ r)

theorem kept_wake (e : Event) : Kept f e.toState e.wake.toState := by
  unfold Event.wake
  dsimp only
  split
  · exact .refl _
  · split
    · exact kept_restart _ _
    · split
      · exact kept_restart _ _
      · exact .refl _

theorem kept_grant (e : Event) (p : PendingAdmission) (t : Tunnel) (hb : e.toState.boosterAllows = true) :
    Kept f e.toState (e.grant p t).toState := by
  have h0 : Kept f e.toState (e.dropPending.send p.port (.grantAdmit p.tag t)).toState :=
    (kept_dropPending e).trans (kept_send _ _ _)
  unfold Event.grant
  dsimp only
  split
  · exact h0.trans (kept_admitNew _ _ _ _ hb)
  · split
    · exact h0.trans (kept_admitRack _ _ _ hb)
    · exact h0

theorem kept_reevaluate (e : Event) : Kept f e.toState e.reevaluate.toState := by
  unfold Event.reevaluate
  split
  · dsimp only
    split
    · exact .refl _
    · split
      · exact kept_grant ({ e with wantReeval := false } : Event) _ _ (boosterAllows_of_chosen ‹_›)
      · exact kept_wake ({ e with wantReeval := false } : Event)
  · exact .refl _

/-! ### The end of an event -/

theorem kept_pass (e : Event) : Kept f e.toState e.pass.toState :=
  ((kept_roomReport e _).trans (kept_roomReport _ _)).trans (kept_reevaluate _)

theorem kept_pairIfWanted (e : Event) : Kept f e.toState e.pairIfWanted.toState := by
  unfold Event.pairIfWanted
  split
  · exact kept_pairAll _ _
  · exact .refl _

theorem kept_idleIfWanted (e : Event) : Kept f e.toState e.idleIfWanted.toState := by
  unfold Event.idleIfWanted
  split
  · exact (kept_idleExpire ({ e with wantIdle := false } : Event) _).trans (kept_idleExpire _ _)
  · exact .refl _

theorem kept_settle (e : Event) : Kept f e.toState e.settle.toState :=
  (((((kept_pairIfWanted e).trans (kept_pass _)).trans (kept_pass _)).trans (kept_pass _)).trans (kept_pass _)).trans
    (kept_idleIfWanted _)

/-! ### The owning blocks -/

theorem kept_enrolTests {e e' : Event} {tag : Nat} {own : TagWindow → Option Status} {st : Status}
    (h : e.enrolTests tag own = .error (e', st)) : Kept f e.toState e'.toState := by
  unfold Event.enrolTests at h
  split at h
  · cases h; exact kept_raise e _
  · split at h
    · split at h
      · cases h; exact .refl _
      · split at h
        · cases h
        · cases h; exact kept_raise e _
    · cases h; exact .refl _

theorem kept_sight (e : Event) (w : Window) (tag : Nat) : Kept f e.toState (e.serveSight w tag).event.toState := by
  unfold Event.serveSight
  split
  · unfold Event.sightKnown
    split
    · exact .refl _
    · split
      · split
        · exact kept_takeAtWindow _ _ _ _
        · exact .refl _
      · split
        · exact .refl _
        · split
          · exact .refl _
          · exact kept_takeAtWindow _ _ _ _
      · split
        · exact .refl _
        · split
          · exact .refl _
          · exact kept_takeAtWindow _ _ _ _
      · exact .refl _
  · unfold Event.sightUnknown
    split
    · exact kept_enrolTests ‹_›
    · split
      · exact .refl _
      · exact (kept_consumeEntry e w).trans (kept_enrol _ _ _ _ _)

theorem kept_dispatch (e : Event) (w : Window) (l : Option (Fin 8)) :
    Kept f e.toState (e.serveDispatch w l).event.toState := by
  unfold Event.serveDispatch
  split
  · exact .refl _
  · split
    · exact .refl _
    · exact kept_move _ _ _ _ _

theorem kept_withdraw (e : Event) (tag : Nat) : Kept f e.toState (e.serveWithdraw tag).event.toState := by
  unfold Event.serveWithdraw
  split
  · exact .refl _
  · split
    · exact .refl _
    · split
      · exact .refl _
      · exact kept_retireRack _ _

theorem kept_query (e : Event) (tag : Nat) : Kept f e.toState (e.serveQuery tag).event.toState := by
  unfold Event.serveQuery
  split <;> exact .refl _

theorem kept_becomePending (e : Event) (p : PendingAdmission) :
    Kept f e.toState (e.becomePending p).event.toState :=
  (kept_wake _).after (.same rfl rfl rfl rfl rfl)

theorem kept_serveAdmit (e : Event) (p : Port) (tag : Nat) :
    Kept f e.toState (e.serveAdmit p tag).event.toState := by
  unfold Event.serveAdmit
  split
  · exact .refl _
  · split
    · split
      · exact kept_enrolTests ‹_›
      · split
        · exact kept_admitNew _ _ _ _ (boosterAllows_of_chosen ‹_›)
        · exact kept_becomePending _ _
    · split
      · split
        · exact kept_admitRack _ _ _ (boosterAllows_of_chosen ‹_›)
        · exact kept_becomePending _ _
      · exact .refl _

theorem kept_section (e : Event) (t : Tunnel) (st : Stage) (seq : Byte) (m fault : Nat) :
    Kept f e.toState (e.serveSection t st seq m fault).event.toState := by
  unfold Event.serveSection
  split
  · exact kept_raise _ _
  · split
    · exact kept_raise _ _
    · dsimp only
      split
      · exact kept_modifySheet _ _ _
      · exact kept_raise _ _

theorem kept_sample (e : Event) (t : Tunnel) (x : Nat) : Kept f e.toState (e.serveSample t x).event.toState := by
  unfold Event.serveSample
  dsimp only
  split
  · exact kept_setTunnel _ _ _
  · split
    · exact kept_setTunnel _ _ _
    · exact ((kept_setTunnel e _ _).trans (kept_modifySheet _ _ _)).trans (kept_readinessTest _ _)

theorem kept_exit (e : Event) (t : Tunnel) (p : Port) (tag : Nat) :
    Kept f e.toState (e.serveExit t p tag).event.toState := by
  unfold Event.serveExit
  split
  · exact kept_raise _ _
  · split
    · exact kept_raise _ _
    · split
      · unfold Event.exitMatch
        split
        · exact .refl _
        · split
          · exact .refl _
          · dsimp only
            split <;> exact ((kept_releaseTest _ _ _).after (kept_setTunnel _ _ _)).after (kept_modifySheet e _ _)
      · split
        · exact ((((kept_abandonExit e t).trans (kept_loseRacks _ _ _)).trans (kept_modifySheet _ _ _)).trans
            (kept_setTunnel _ _ _)).trans (kept_raise _ _)
        · exact kept_raise _ _

theorem kept_tank (e : Event) (t : Tunnel) (c : TankCondition) : Kept f e.toState (e.serveTank t c).event.toState := by
  unfold Event.serveTank Event.tankReport
  dsimp only
  split
  · split
    · exact (kept_setTunnel e _ _).trans (kept_enter _ _ _ _)
    · exact kept_enter _ _ _ _
  · exact (kept_setTunnel e _ _).trans (kept_enter _ _ _ _)
  · exact (kept_setTunnel e _ _).trans (kept_enter _ _ _ _)
  · exact (kept_setTunnel e _ _).trans (kept_enter _ _ _ _)
  · exact (kept_setTunnel e _ _).trans (kept_enter _ _ _ _)
  · exact .refl _
  · exact .refl _
  · exact kept_enterFault _ _
  · exact .refl _

theorem kept_emptied (e : Event) (t : Tunnel) (tag : Nat) :
    Kept f e.toState (e.serveEmptied t tag).event.toState := by
  unfold Event.serveEmptied
  split
  · unfold Event.emptiedUnknown
    split
    · exact kept_enrolTests ‹_›
    · exact (kept_raise e _).trans (kept_enrol _ _ _ _ _)
  · split
    · unfold Event.emptiedKnown
      dsimp only
      split
      · exact (kept_raise e _).trans (kept_move _ _ _ _ _)
      · split
        · split
          · exact (kept_raise e _).trans (kept_move _ _ _ _ _)
          · exact kept_move _ _ _ _ _
        · exact .refl _
    · exact .refl _

theorem kept_relocate (e : Event) (tag : Nat) (g : Target) :
    Kept f e.toState (e.serveRelocate tag g).event.toState := by
  unfold Event.serveRelocate
  split
  · exact .refl _
  · split
    · exact .refl _
    · split
      · split
        · exact (kept_move _ _ _ _ _).trans (kept_cancelPending _ _)
        · exact .refl _
      · exact .refl _

/-- An owning block changes the windows' contexts at most. -/
theorem kept_owner (hf : f.windows = true) (e : Event) (p : Port) (t : Tunnel) (req : Request) :
    Kept f e.toState (e.owner p t req).event.toState := by
  cases req
  case sight => exact kept_sight _ _ _
  case dispatch => exact kept_dispatch _ _ _
  case mode => exact kept_setMode hf _ _ _
  case withdraw => exact kept_withdraw _ _
  case query => exact kept_query _ _
  case admitRequest => exact kept_serveAdmit _ _ _
  case sectionReport => exact kept_section _ _ _ _ _ _
  case sample => exact kept_sample _ _ _
  case exit => exact kept_exit _ _ _ _
  case tank => exact kept_tank _ _ _
  case emptied => exact kept_emptied _ _ _
  case relocate => exact kept_relocate _ _ _

/-! ### Commands -/

theorem kept_tunnelActions (e : Event) (t : Tunnel) :
    Kept f e.toState (e.startTunnel t).1.toState ∧ Kept f e.toState (e.stopTunnel t).1.toState ∧
      Kept f e.toState (e.flushTunnel t).1.toState ∧ Kept f e.toState (e.clearFault t).1.toState := by
  refine ⟨?_, ?_, ?_, ?_⟩
  · unfold Event.startTunnel
    dsimp only
    split
    · exact (kept_setTunnel e _ _).trans (kept_enter _ _ _ _)
    · exact .refl _
  · unfold Event.stopTunnel
    dsimp only
    split
    case h_1 | h_2 | h_3 | h_4 | h_5 => exact (kept_setTunnel e _ _).trans (kept_enter _ _ _ _)
    all_goals exact .refl _
  · unfold Event.flushTunnel
    dsimp only
    split
    · exact .refl _
    · split
      · exact (kept_setTunnel e _ _).trans (kept_enter _ _ _ _)
      · exact .refl _
  · unfold Event.clearFault
    split
    · exact kept_enter _ _ _ _
    · exact .refl _

/-- A change of the station ports alone. -/
theorem Kept.ofPorts {f : Free} (hf : f.ports = true) {s t : State} (h : Registers.fixed t = Registers.fixed s)
    (hw : t.windows = s.windows) (hn : t.notices = s.notices) (hb : t.boosterHistory = s.boosterHistory) :
    Kept f s t :=
  ⟨h, fun _ => hw, fun hf' => absurd (hf.symm.trans hf') (by decide), by rw [hn, BitVec.or_self], .inl hb⟩

theorem kept_cancelExit (e : Event) (p : Port) (t : Tunnel) : Kept f e.toState (e.cancelExit p t).toState := by
  unfold Event.cancelExit
  split
  · dsimp only
    split
    · exact (kept_modifySheet e _ _).trans (kept_setTunnel _ _ _)
    · exact kept_setTunnel _ _ _
  · exact .refl _

theorem kept_roleChanged (hf : f.ports = true) (e : Event) (p : Port) :
    Kept f e.toState (e.roleChanged p).toState := by
  unfold Event.roleChanged
  dsimp only
  refine ((kept_cancelExit _ p .b).after (kept_cancelExit _ p .a)).after ?_
  split
  · exact (kept_dropPending _).after (.ofPorts hf rfl rfl rfl rfl)
  · exact .ofPorts hf rfl rfl rfl rfl

theorem kept_rolesChanged (hf : f.ports = true) (old : Configuration) (ps : List Port) :
    ∀ e : Event, Kept f e.toState (e.rolesChanged old ps).toState := by
  induction ps with
  | nil => exact fun e => .refl _
  | cons p ps ih =>
    intro e
    refine Kept.trans ?_ (ih _)
    split
    · exact .refl _
    · exact kept_roleChanged hf e p

theorem kept_testAfterWrite (e : Event) (old : Configuration) (written : List Item) (t : Tunnel) :
    Kept f e.toState (e.testAfterWrite old written t).toState := by
  unfold Event.testAfterWrite
  split
  · exact kept_readinessTest _ _
  · exact .refl _

theorem kept_afterWrite (hf : f.ports = true) (e : Event) (old : Configuration) (written : List Item) :
    Kept f e.toState (e.afterWrite old written).toState := by
  unfold Event.afterWrite
  dsimp only
  refine ((kept_testAfterWrite _ old written .b).after (kept_testAfterWrite _ old written .a)).after ?_
  split
  · exact (kept_loseRecords _ _).after (kept_rolesChanged hf old allPorts e)
  · exact kept_rolesChanged hf old allPorts e

end Sys2Proof.Proofs.Registers
end

section
/-! Which rows change the registers, the notices and the booster history, from what every event keeps. -/

namespace Sys2Proof.Proofs.RegisterRows

open Sys2Proof.Machine Sys2Proof.Proofs.Effects Sys2Proof.Proofs.Registers

variable {f : Free}

/-! ### Frames -/

theorem kept_modifyPort (hf : f.ports = true) (s : State) (p : Port) (g : PortState → PortState) :
    Kept f s (s.modifyPort p g) := .ofPorts hf rfl rfl rfl rfl

theorem kept_pushAnswer (hf : f.ports = true) (s : State) (p : Port) (use : FrameUse) (a : Answer) :
    Kept f s (s.pushAnswer p use a) := kept_modifyPort hf _ _ _

theorem kept_deliver (hf : f.ports = true) (ms : List (Port × Message)) : ∀ s : State, Kept f s (s.deliver ms) := by
  induction ms with
  | nil => exact fun s => .refl _
  | cons x xs ih => exact fun s => (ih _).after (kept_modifyPort hf _ _ _)

theorem kept_finish (hf : f.ports = true) (e : Event) (reply : Option (Port × Answer)) :
    Kept f e.toState (e.finish reply) := by
  unfold Event.finish
  dsimp only
  refine (kept_deliver hf _ _).after ?_
  split
  · exact (kept_pushAnswer hf _ _ _ _).after (kept_settle e)
  · exact kept_settle e

theorem kept_judge (hw : f.windows = true) (s : State) (p : Port) (r : RawRequest) :
    Kept f s (s.judge p r).event.toState := by
  unfold State.judge
  dsimp only
  split
  · exact .refl _
  · split
    · split
      · exact .refl _
      · split
        · exact .refl _
        · exact kept_owner hw s.event p _ _
    · exact .refl _

theorem kept_serve (hw : f.windows = true) (hf : f.ports = true) (s : State) (p : Port) (r : RawRequest) :
    Kept f s (s.serve p r) := by
  unfold State.serve
  exact (kept_finish hf _ _).after (kept_judge hw s p r)

theorem kept_arrive (hw : f.windows = true) (hf : f.ports = true) (s : State) (p : Port) (r : RawRequest) :
    Kept f s (s.arrive p r) := by
  rcases s.arrive_cases p r with ⟨-, h⟩ | ⟨-, h⟩ | ⟨-, -, h⟩ | ⟨-, -, h⟩ <;> rw [h]
  · exact (kept_serve hw hf _ _ _).after (kept_modifyPort hf _ _ _)
  · exact kept_modifyPort hf _ _ _
  · exact .refl _
  · exact (kept_pushAnswer hf _ _ _ _).after (kept_modifyPort hf _ _ _)

theorem kept_frameSent (hw : f.windows = true) (hf : f.ports = true) (s : State) (p : Port) :
    Kept f s (s.frameSent p) := by
  unfold State.frameSent
  split
  · exact .refl _
  · dsimp only
    split
    · unfold State.serveHead
      split
      · exact (kept_modifyPort hf _ p _).after (kept_modifyPort hf s p _)
      · exact (kept_serve hw hf _ _ _).after ((kept_modifyPort hf _ p _).after (kept_modifyPort hf s p _))
    · exact (kept_modifyPort hf _ p _).after (kept_modifyPort hf s p _)
    · exact kept_modifyPort hf _ _ _
    · exact kept_modifyPort hf _ _ _

theorem kept_reevaluationEvent (hf : f.ports = true) (s : State) : Kept f s s.reevaluationEvent :=
  kept_finish hf ({ s.event with wantReeval := true } : Event) none

/-! ### Events -/

/-- Row `c` sets no window's mode or class: it serves no request and is neither WINDOW_MODE nor WINDOW_CLASS. -/
abbrev sparesWindows (c : Instr) : Prop :=
  c.servesRequests = false ∧ (∀ x w m, c ≠ .windowMode x w m) ∧ (∀ x w k, c ≠ .windowClass x w k)

/-- The events of the rows, by what they keep: WRITE_CONFIG's, those of the rows that clear notices, and any other. -/
theorem begun_cases {c : Instr} {s : State} {e : Event} (h : Begun c s e) :
    (∃ x pairs new items, c = .writeConfig x pairs ∧
      e = ({ s.event with config := new } : Event).afterWrite s.config items) ∨
    (∃ x, c = .lineRestart x ∧ e = s.restartLine.event) ∨
    (c.clearsNotices = true ∧ ∃ named, e = (s.clearNotices named).event) ∨
    ∀ f : Free, (f.windows = false → sparesWindows c) → Kept f s e.toState := by
  have windows {f : Free} (hw : f.windows = false → sparesWindows c) (h' : ¬ sparesWindows c) : f.windows = true := by
    cases hb : f.windows
    · exact absurd (hw hb) h'
    · rfl
  cases h
  case write x pairs new items hs => exact .inl ⟨x, pairs, new, items, hs, rfl⟩
  case restart x hs => exact .inr (.inl ⟨x, hs, rfl⟩)
  case notices => exact .inr (.inr (.inl ⟨‹c.clearsNotices = true›, _, rfl⟩))
  all_goals refine .inr (.inr (.inr fun f hw => ?_))
  case nothing => exact .refl _
  case owner p t req hs _ => exact kept_owner (windows hw fun h => by simp [h.1] at hs) s.event p t req
  case retire r _ _ => exact kept_retireRack s.event r
  case relocate tag g => exact kept_relocate s.event tag g
  case start t => exact (kept_tunnelActions s.event t).1
  case stop t => exact (kept_tunnelActions s.event t).2.1
  case flush t => exact (kept_tunnelActions s.event t).2.2.1
  case clearFault t => exact (kept_tunnelActions s.event t).2.2.2
  case mode x wb mb w m hs => exact kept_setMode (windows hw fun h => h.2.1 x wb mb hs) s.event w m
  case cls x wb kb w k hs => exact kept_setClass (windows hw fun h => h.2.2 x wb kb hs) s.event w k
  case lost r _ _ => exact kept_loseRecord s.event r
  case idle t => exact kept_idleExpire s.event t
  case restarted t _ => exact (kept_setTunnel s.event _ _).trans (kept_enter _ _ _ _)
  case fault t _ => exact kept_enterFault s.event t
  case reevaluation => exact .refl _
  case readiness t => exact kept_readinessTest s.event t

theorem fixed_restartPorts (ps : List Port) : ∀ s : State,
    fixed (s.restartPorts ps) = fixed s ∧ (s.restartPorts ps).windows = s.windows := by
  induction ps with
  | nil => exact fun s => ⟨rfl, rfl⟩
  | cons p ps ih => exact fun s => ih _

theorem kept_announceOff (e : Event) (old : State) (t : Tunnel) : Kept f e.toState (e.announceOff old t).toState := by
  unfold Event.announceOff
  split
  · exact .refl _
  · exact kept_sendRole _ _ _

/-- LINE_RESTART leaves the fixed parts and the window contexts. -/
theorem fixed_restartLine (s : State) :
    fixed s.restartLine.event.toState = fixed s ∧ s.restartLine.event.windows = s.windows := by
  obtain ⟨hf, hw⟩ := fixed_restartPorts allPorts s.lineEmptied
  unfold State.restartLine
  dsimp only
  generalize s.lineEmptied.restartPorts allPorts = s' at hf hw
  have hk : Kept (f := {}) s' (((({ s'.event with draws := s'.draws + 1 } : Event).announceOff s .a).announceOff s
      .b).toState) :=
    ((kept_announceOff _ s .b).after (kept_announceOff _ s .a)).after (.same rfl rfl rfl rfl rfl)
  exact ⟨hk.fixed.trans hf, (hk.windows rfl).trans hw⟩

/-- The configuration that WRITE_CONFIG writes stands through the rest of its event. -/
theorem kept_write (s : State) (new : Configuration) (items : List Item) :
    Kept { ports := true } { s with config := new }
      (({ s.event with config := new } : Event).afterWrite s.config items).toState :=
  kept_afterWrite rfl ({ s.event with config := new } : Event) _ _

/-- The registers that a row's event leaves as they are: all but the configuration at WRITE_CONFIG. -/
theorem fixed_begun {c : Instr} {s : State} {e : Event} (h : Begun c s e) :
    (∃ config, fixed e.toState = { fixed s with config := config }) ∧
      ((∀ x pairs, c ≠ .writeConfig x pairs) → fixed e.toState = fixed s) ∧
      (sparesWindows c → e.windows = s.windows) := by
  rcases begun_cases h with ⟨x, pairs, new, items, hc, rfl⟩ | ⟨x, -, rfl⟩ | ⟨-, named, rfl⟩ | hk
  · have hk := kept_write s new items
    exact ⟨⟨new, hk.fixed⟩, fun h => absurd hc (h x pairs), fun _ => hk.windows rfl⟩
  · obtain ⟨hf, hw⟩ := fixed_restartLine s
    exact ⟨⟨s.config, hf⟩, fun _ => hf, fun _ => hw⟩
  · exact ⟨⟨s.config, rfl⟩, fun _ => rfl, fun _ => rfl⟩
  · have hf := (hk { windows := true } nofun).fixed
    exact ⟨⟨s.config, hf⟩, fun _ => hf, fun hw => (hk {} fun _ => hw).windows rfl⟩

/-! ### Rows -/

/-- What a row that is no reset leaves of the registers. -/
structure RowKeeps (c : Instr) (s t : State) : Prop where
  now : c ≠ .tick → t.now = s.now
  config : (∀ x pairs, c ≠ .writeConfig x pairs) → t.config = s.config
  buffers : c.isTransaction = false → t.response = s.response ∧ t.commandBuffer = s.commandBuffer ∧ t.miso = s.miso
  strapped : t.pending = s.pending ∧ t.rstLow = s.rstLow ∧ t.straps = s.straps ∧ t.identity = s.identity ∧
    t.fallback = s.fallback ∧ t.divisor = s.divisor
  windows : sparesWindows c → t.windows = s.windows

/-- A row that leaves the fixed parts as they are, but for the configuration at WRITE_CONFIG. -/
theorem RowKeeps.of_fixed {c : Instr} {s t : State} {config : Configuration}
    (h : fixed t = { fixed s with config := config })
    (hc : (∀ x pairs, c ≠ .writeConfig x pairs) → fixed t = fixed s)
    (hw : sparesWindows c → t.windows = s.windows) : RowKeeps c s t := by
  injection h with h1 h2 h3 h4 h5 h6 h7 _ h9 h10 h11
  exact ⟨fun _ => h7, fun h' => congrArg Fixed.config (hc h'), fun _ => ⟨h10, h9, h11⟩, ⟨h1, h2, h3, h4, h5, h6⟩, hw⟩

theorem RowKeeps.of_kept {c : Instr} {s t : State} (h : Kept f s t) (hw : sparesWindows c → f.windows = false) :
    RowKeeps c s t :=
  .of_fixed (config := s.config) h.fixed (fun _ => h.fixed) fun h' => h.windows (hw h')

/-- The end of the event of a row. -/
theorem RowKeeps.of_finish {c : Instr} {s : State} {e : Event} (h : Begun c s e) : RowKeeps c s (e.finish none) := by
  obtain ⟨⟨config, h1⟩, h2, h3⟩ := fixed_begun h
  have hk := kept_finish (f := { ports := true }) rfl e none
  exact .of_fixed (hk.fixed.trans h1) (fun h => hk.fixed.trans (h2 h)) fun h => (hk.windows rfl).trans (h3 h)

theorem rowKeeps_effect {c : Instr} {s t : State} (h : Effect c s t) : RowKeeps c s t := by
  have assembly (p a) : Kept { ports := true } s (withAssembly s p a) := kept_modifyPort rfl s p _
  have spares : c.servesRequests = true → ¬ sparesWindows c := fun hs h => by rw [h.1] at hs; cases hs
  cases h
  case nothing => exact .of_kept (f := {}) (.refl s) fun _ => rfl
  case tick hc => exact ⟨fun h => absurd hc h, fun _ => rfl, fun _ => ⟨rfl, rfl, rfl⟩,
    ⟨rfl, rfl, rfl, rfl, rfl, rfl⟩, fun _ => rfl⟩
  case assembly p a => exact .of_kept (assembly p a) fun _ => rfl
  case wrongLine p a =>
    exact .of_kept ((kept_raise (withAssembly s p a).event _).after (assembly p a)) fun _ => rfl
  case arrival p a r hs =>
    exact .of_kept (f := ⟨true, true⟩) ((kept_arrive rfl rfl _ p r).after (kept_modifyPort rfl s p _))
      fun h => absurd h (spares hs)
  case sent p hs => exact .of_kept (f := ⟨true, true⟩) (kept_frameSent rfl rfl s p) fun h => absurd h (spares hs)
  case buffers b r m hs =>
    exact ⟨fun _ => rfl, fun _ => rfl, fun h => (by rw [hs] at h; cases h),
      ⟨rfl, rfl, rfl, rfl, rfl, rfl⟩, fun _ => rfl⟩
  case command e x r hs hb =>
    have h := RowKeeps.of_finish hb
    exact ⟨h.now, h.config, fun h => (by rw [hs] at h; cases h), h.strapped, h.windows⟩
  case expiry e hb => exact .of_finish hb
  case ageOut last => exact .of_kept (f := {}) (.same rfl rfl rfl rfl rfl) fun _ => rfl
  case ageOutExpiry last =>
    exact .of_kept ((kept_reevaluationEvent (f := { ports := true }) rfl _).after
      (.same rfl rfl rfl rfl rfl)) fun _ => rfl
  case removal history _ _ => exact .of_fixed (config := s.config) rfl (fun _ => rfl) fun _ => rfl
  case removalExpiry history _ _ =>
    have hk := kept_reevaluationEvent (f := { ports := true }) rfl { s with boosterHistory := history }
    exact .of_fixed (config := s.config) hk.fixed (fun _ => hk.fixed) fun _ => hk.windows rfl

/-- The resets keep the queue. -/
theorem pending_of_reset {c : Instr} {s t : State} (hr : c.isReset = true) (h : exec c s = .next t) :
    t.pending = s.pending := by
  cases c
  case powerOn x | rstRelease x =>
    cases h
    simp only [State.sampleStraps]
    split <;> rfl
  case rstAssert => cases h; rfl
  all_goals cases hr

/-- Settles O2: the resets by their definition, every other row by what its effect keeps. -/
theorem onlyTheirRowsChangeTheRegisters : Obligations.OnlyTheirRowsChangeTheRegisters := by
  intro c s t h
  cases hr : c.isReset
  · have hk := rowKeeps_effect (effect_of_exec hr h)
    refine ⟨hk.strapped.1, fun _ => hk.strapped.2, fun _ => hk.now, fun _ => hk.config, fun _ h1 h2 h3 => ?_,
      fun _ => hk.buffers⟩
    exact hk.windows ⟨h1, h2, h3⟩
  · exact ⟨pending_of_reset hr h, nofun, nofun, nofun, nofun, nofun⟩

/-! ### Notices -/

theorem and_not_of_or {a b : BitVec 16} (h : a ||| b = b) : a &&& ~~~b = 0 := by
  rw [← h, BitVec.not_or, ← BitVec.and_assoc, BitVec.and_not_self]
  exact BitVec.zero_and

/-- A row that does not clear notices adds to them at most. -/
theorem notices_effect {c : Instr} {s t : State} (hn : c.clearsNotices = false) (h : Effect c s t) :
    s.notices ||| t.notices = t.notices := by
  have begun {e : Event} (hb : Begun c s e) : s.notices ||| (e.finish none).notices = (e.finish none).notices := by
    rcases begun_cases hb with ⟨x, pairs, new, items, -, rfl⟩ | ⟨x, rfl, -⟩ | ⟨hs, -⟩ | hk
    · exact ((kept_finish (f := { ports := true }) rfl _ _).after (kept_write s new items)).notices
    · cases hn
    · rw [hn] at hs; cases hs
    · exact ((kept_finish (f := ⟨true, true⟩) rfl _ _).after (hk _ nofun)).notices
  have same : s.notices ||| s.notices = s.notices := BitVec.or_self
  cases h
  case nothing | tick | assembly | buffers | ageOut | removal => exact same
  case wrongLine => simp [← BitVec.or_assoc, withAssembly]
  case arrival p a r _ =>
    exact ((kept_arrive (f := ⟨true, true⟩) rfl rfl _ p r).after (kept_modifyPort rfl s p _)).notices
  case sent p _ => exact (kept_frameSent (f := ⟨true, true⟩) rfl rfl s p).notices
  case command e x r _ hb => exact begun hb
  case expiry e hb => exact begun hb
  case ageOutExpiry last =>
    exact (kept_reevaluationEvent (f := { ports := true }) rfl { s with lastAdmission := last }).notices
  case removalExpiry history _ _ =>
    exact (kept_reevaluationEvent (f := { ports := true }) rfl { s with boosterHistory := history }).notices

/-- Settles O13, from what the events of the other rows keep. -/
theorem noticesStayUntilCleared : Obligations.NoticesStayUntilCleared := by
  intro c s t h hn
  have hr : c.isReset = false := by cases c <;> simp_all [Instr.clearsNotices, Instr.isReset]
  exact and_not_of_or (notices_effect hn (effect_of_exec hr h))

/-! ### The booster history -/

/-- A row that is no reset and no LINE_RESTART leaves the history, or an admission has made it; a removal leaves a part
of it, or an admission has followed. -/
theorem booster_effect {c : Instr} {s t : State} (hl : ∀ x, c ≠ .lineRestart x) (h : Effect c s t) :
    t.boosterHistory = s.boosterHistory ∨ boosterBounded t ∨
      (c = .boosterEntryRemoval ∧ t.boosterHistory.Sublist s.boosterHistory) := by
  have of_kept {f : Free} {t : State} (h : Kept f s t) : t.boosterHistory = s.boosterHistory ∨ boosterBounded t ∨
      (c = .boosterEntryRemoval ∧ t.boosterHistory.Sublist s.boosterHistory) :=
    h.booster.imp_right .inl
  have begun {e : Event} (hb : Begun c s e) : (e.finish none).boosterHistory = s.boosterHistory ∨
      boosterBounded (e.finish none) ∨
      (c = .boosterEntryRemoval ∧ (e.finish none).boosterHistory.Sublist s.boosterHistory) := by
    rcases begun_cases hb with ⟨x, pairs, new, items, -, rfl⟩ | ⟨x, rfl, -⟩ | ⟨-, named, rfl⟩ | hk
    · exact ((kept_finish (f := { ports := true }) rfl _ _).after (kept_write s new items)).booster.imp_right .inl
    · exact absurd rfl (hl x)
    · exact (kept_finish (f := { ports := true }) rfl _ none).booster.imp_right .inl
    · exact of_kept ((kept_finish (f := ⟨true, true⟩) rfl _ _).after (hk _ nofun))
  cases h
  case nothing | tick | assembly | wrongLine | buffers | ageOut => exact .inl rfl
  case arrival p a r _ => exact of_kept ((kept_arrive (f := ⟨true, true⟩) rfl rfl _ p r).after
    (kept_modifyPort rfl s p _))
  case sent p _ => exact of_kept (kept_frameSent (f := ⟨true, true⟩) rfl rfl s p)
  case command e x r _ hb => exact begun hb
  case expiry e hb => exact begun hb
  case ageOutExpiry => exact (kept_reevaluationEvent (f := { ports := true }) rfl _).booster.imp_right .inl
  case removal history hc hs => exact .inr (.inr ⟨hc, hs⟩)
  case removalExpiry history hc hs =>
    rcases (kept_reevaluationEvent (f := { ports := true }) rfl { s with boosterHistory := history }).booster with h | h
    · refine .inr (.inr ⟨hc, ?_⟩)
      rw [h]
      exact hs
    · exact .inr (.inl h)

/-- Settles O15: the history that a grant leaves is bounded, and no other row left changes it. -/
theorem boosterBoundsAdmissions : Obligations.BoosterBoundsAdmissions := by
  intro c s t h hr hl hrem hne hw
  rcases booster_effect hl (effect_of_exec hr h) with h | h | ⟨hc, hs⟩
  · exact absurd h hne
  · exact h hw
  · obtain ⟨hnot, hin⟩ := hrem hc
    exact absurd (hs.subset hin) hnot

end Sys2Proof.Proofs.RegisterRows
end

section
/-! The station ports play no part in an event: no operation of an owning block, and nothing at the end of an event,
reads
or writes them. So a request does what it would do if it had not joined its port's queue, and its answer follows. -/

namespace Sys2Proof.Proofs.PortsAside

open Sys2Proof.Machine

/-- The event with other ports. -/
def withPorts (e : Event) (ps : Vector PortState 8) : Event := { e with ports := ps }

variable (e : Event) (ps : Vector PortState 8)

/-! ### What an event reads and writes -/

@[simp] theorem withPorts_ports : (withPorts e ps).ports = ps := by cases e; rfl
@[simp] theorem withPorts_pending : (withPorts e ps).pending = e.pending := by cases e; rfl
@[simp] theorem withPorts_rstLow : (withPorts e ps).rstLow = e.rstLow := by cases e; rfl
@[simp] theorem withPorts_straps : (withPorts e ps).straps = e.straps := by cases e; rfl
@[simp] theorem withPorts_identity : (withPorts e ps).identity = e.identity := by cases e; rfl
@[simp] theorem withPorts_fallback : (withPorts e ps).fallback = e.fallback := by cases e; rfl
@[simp] theorem withPorts_divisor : (withPorts e ps).divisor = e.divisor := by cases e; rfl
@[simp] theorem withPorts_now : (withPorts e ps).now = e.now := by cases e; rfl
@[simp] theorem withPorts_config : (withPorts e ps).config = e.config := by cases e; rfl
@[simp] theorem withPorts_racks : (withPorts e ps).racks = e.racks := by cases e; rfl
@[simp] theorem withPorts_windows : (withPorts e ps).windows = e.windows := by cases e; rfl
@[simp] theorem withPorts_demand : (withPorts e ps).demand = e.demand := by cases e; rfl
@[simp] theorem withPorts_tunnels : (withPorts e ps).tunnels = e.tunnels := by cases e; rfl
@[simp] theorem withPorts_boosterHistory : (withPorts e ps).boosterHistory = e.boosterHistory := by cases e; rfl
@[simp] theorem withPorts_lastAdmission : (withPorts e ps).lastAdmission = e.lastAdmission := by cases e; rfl
@[simp] theorem withPorts_lastChosen : (withPorts e ps).lastChosen = e.lastChosen := by cases e; rfl
@[simp] theorem withPorts_pendingAdmission : (withPorts e ps).pendingAdmission = e.pendingAdmission := by cases e; rfl
@[simp] theorem withPorts_notices : (withPorts e ps).notices = e.notices := by cases e; rfl
@[simp] theorem withPorts_commandBuffer : (withPorts e ps).commandBuffer = e.commandBuffer := by cases e; rfl
@[simp] theorem withPorts_response : (withPorts e ps).response = e.response := by cases e; rfl
@[simp] theorem withPorts_miso : (withPorts e ps).miso = e.miso := by cases e; rfl
@[simp] theorem withPorts_draws : (withPorts e ps).draws = e.draws := by cases e; rfl
@[simp] theorem withPorts_out : (withPorts e ps).out = e.out := by cases e; rfl
@[simp] theorem withPorts_wantPairing : (withPorts e ps).wantPairing = e.wantPairing := by cases e; rfl
@[simp] theorem withPorts_wantReeval : (withPorts e ps).wantReeval = e.wantReeval := by cases e; rfl
@[simp] theorem withPorts_room : (withPorts e ps).room = e.room := by cases e; rfl
@[simp] theorem withPorts_wantIdle : (withPorts e ps).wantIdle = e.wantIdle := by cases e; rfl

@[simp] theorem withPorts_rack? (tag : Nat) : (withPorts e ps).rack? tag = e.rack? tag := by cases e; rfl
@[simp] theorem withPorts_members (p : Place) : (withPorts e ps).members p = e.members p := by cases e; rfl
@[simp] theorem withPorts_count (p : Place) : (withPorts e ps).count p = e.count p := by cases e; rfl
@[simp] theorem withPorts_lane (t : Tunnel) : (withPorts e ps).lane t = e.lane t := by cases e; rfl
@[simp] theorem withPorts_finalRack (t : Tunnel) : (withPorts e ps).finalRack t = e.finalRack t := by cases e; rfl
@[simp] theorem withPorts_fillRack (w : Window) : (withPorts e ps).fillRack w = e.fillRack w := by cases e; rfl
@[simp] theorem withPorts_spareRack (w : Window) : (withPorts e ps).spareRack w = e.spareRack w := by cases e; rfl
@[simp] theorem withPorts_routedTo (w : Window) : (withPorts e ps).routedTo w = e.routedTo w := by cases e; rfl
@[simp] theorem withPorts_entriesOf (w : Window) : (withPorts e ps).entriesOf w = e.entriesOf w := by cases e; rfl
@[simp] theorem withPorts_windowSum (w : Window) : (withPorts e ps).windowSum w = e.windowSum w := by cases e; rfl
@[simp] theorem withPorts_starved (w : Window) : (withPorts e ps).starved w = e.starved w := by cases e; rfl
@[simp] theorem withPorts_hasRoom (p : Place) : (withPorts e ps).hasRoom p = e.hasRoom p := by cases p <;> rfl
@[simp] theorem withPorts_freeSlot : (withPorts e ps).freeSlot = e.freeSlot := by cases e; rfl
@[simp] theorem withPorts_tableLoad : (withPorts e ps).tableLoad = e.tableLoad := by cases e; rfl
@[simp] theorem withPorts_advanceRoom (t : Tunnel) (tag : Nat) (st : Stage) :
    (withPorts e ps).advanceRoom t tag st = e.advanceRoom t tag st := by cases e; rfl
@[simp] theorem withPorts_idleDue (t : Tunnel) : (withPorts e ps).idleDue t = e.idleDue t := by cases e; rfl
@[simp] theorem withPorts_gateDestination (t : Tunnel) (v : Verdict) (n : Nat) :
    (withPorts e ps).gateDestination t v n = e.gateDestination t v n := by cases e; rfl
@[simp] theorem withPorts_pairingEntry (r : Rack) : (withPorts e ps).pairingEntry r =
    e.pairingEntry r := by cases e; rfl
@[simp] theorem withPorts_unassigned : (withPorts e ps).unassigned = e.unassigned := by cases e; rfl
@[simp] theorem withPorts_freePosition (w : Window) : (withPorts e ps).freePosition w =
    e.freePosition w := by cases e; rfl
@[simp] theorem withPorts_chosenTunnel : (withPorts e ps).chosenTunnel = e.chosenTunnel := by cases e; rfl
@[simp] theorem withPorts_admittedRack (t : Tunnel) (r : Rack) :
    (withPorts e ps).admittedRack t r = e.admittedRack t r := by cases e; rfl
@[simp] theorem withPorts_sincePrevious (t : Tunnel) :
    (withPorts e ps).sincePrevious t = e.sincePrevious t := by cases e; rfl

/-- An update of anything but the ports. -/
@[simp] theorem withPorts_ite (c : Prop) [Decidable c] (e' : Event) :
    (if c then withPorts e ps else withPorts e' ps) = withPorts (if c then e else e') ps := by
  split <;> rfl

/-- An update of what the event owes. -/
@[simp] theorem mk_withPorts (out : List (Port × Message)) (a b c : Bool) (room : PerTunnel Bool) :
    Event.mk (withPorts e ps).toState out a b room c = withPorts (Event.mk e.toState out a b room c) ps := rfl

/-! ### Single changes -/

@[simp] theorem raise_withPorts (n : Notice) : (withPorts e ps).raise n = withPorts (e.raise n) ps := rfl
@[simp] theorem send_withPorts (p : Port) (m : Message) : (withPorts e ps).send p m = withPorts (e.send p m) ps := rfl
@[simp] theorem sendRole_withPorts (r : Role) (m : Message) :
    (withPorts e ps).sendRole r m = withPorts (e.sendRole r m) ps := rfl
@[simp] theorem setTunnel_withPorts (t : Tunnel) (c : TunnelContext) :
    (withPorts e ps).setTunnel t c = withPorts (e.setTunnel t c) ps := rfl
@[simp] theorem enter_withPorts (t : Tunnel) (st : TunnelState) (fresh : Bool) :
    (withPorts e ps).enter t st fresh = withPorts (e.enter t st fresh) ps := rfl
@[simp] theorem modifyRack_withPorts (tag : Nat) (f : Rack → Rack) :
    (withPorts e ps).modifyRack tag f = withPorts (e.modifyRack tag f) ps := rfl
@[simp] theorem modifySheet_withPorts (tag : Nat) (f : PassSheet → PassSheet) :
    (withPorts e ps).modifySheet tag f = withPorts (e.modifySheet tag f) ps := rfl
@[simp] theorem dropPending_withPorts : (withPorts e ps).dropPending = withPorts e.dropPending ps := rfl
@[simp] theorem consumeEntry_withPorts (w : Window) :
    (withPorts e ps).consumeEntry w = withPorts (e.consumeEntry w) ps := rfl
@[simp] theorem writeMode_withPorts (w : Window) (m : WindowMode) :
    (withPorts e ps).writeMode w m = withPorts (e.writeMode w m) ps := rfl

@[simp] theorem post_withPorts (w : Window) : (withPorts e ps).post w = withPorts (e.post w) ps := by
  by_cases h : e.windows[w].mode = .stop
  · simp only [Event.post, withPorts_windows, if_pos h]
  · simp only [Event.post, withPorts_windows, if_neg h]
    rfl

@[simp] theorem postMany_withPorts (w : Window) (n : Nat) :
    ∀ e, (withPorts e ps).postMany w n = withPorts (e.postMany w n) ps := by
  induction n with
  | zero => exact fun e => rfl
  | succ n ih => exact fun e => by simp [Event.postMany, ih]

/-! ### The move -/

@[simp] theorem join_withPorts (r : Rack) : (withPorts e ps).join r = withPorts (e.join r) ps := by
  unfold Event.join
  dsimp only
  split
  · rw [apply_ite (withPorts · ps)]
    exact if_congr Iff.rfl rfl rfl
  · rfl
  · rfl

@[simp] theorem swap_withPorts (w : Window) : (withPorts e ps).swap w = withPorts (e.swap w) ps := by
  unfold Event.swap
  simp only [withPorts_fillRack, withPorts_spareRack]
  split
  · exact join_withPorts _ _ _
  · rfl

@[simp] theorem noteStarved_withPorts (w : Window) :
    (withPorts e ps).noteStarved w = withPorts (e.noteStarved w) ps := by
  simp [Event.noteStarved]

@[simp] theorem laneDeparted_withPorts (t : Tunnel) :
    (withPorts e ps).laneDeparted t = withPorts (e.laneDeparted t) ps := by
  unfold Event.laneDeparted
  dsimp only
  rw [apply_ite (withPorts · ps)]
  congr 1
  simp only [withPorts_tunnels]
  split <;> rfl

@[simp] theorem departed_withPorts (r : Rack) : (withPorts e ps).departed r = withPorts (e.departed r) ps := by
  unfold Event.departed
  split
  case h_1 | h_2 => simp
  case h_6 => split <;> simp
  case h_7 => simp
  all_goals rfl

@[simp] theorem move_withPorts (r : Rack) (st : RackState) (p : Place) (cause : Option HoldCause) :
    (withPorts e ps).move r st p cause = withPorts (e.move r st p cause) ps := by
  simp [Event.move]

@[simp] theorem remove_withPorts (r : Rack) : (withPorts e ps).remove r = withPorts (e.remove r) ps :=
  departed_withPorts ({ e with racks := e.racks.filter (·.tag ≠ r.tag) } : Event) ps r

@[simp] theorem cancelPending_withPorts (tag : Nat) :
    (withPorts e ps).cancelPending tag = withPorts (e.cancelPending tag) ps := by
  unfold Event.cancelPending
  simp only [withPorts_pendingAdmission]
  split
  · simp
  · rfl

@[simp] theorem enrol_withPorts (tag : Nat) (a : EnrolAttributes) (st : RackState) (p : Place) :
    (withPorts e ps).enrol tag a st p = withPorts (e.enrol tag a st p) ps := by
  simp [Event.enrol]

@[simp] theorem retireRack_withPorts (r : Rack) : (withPorts e ps).retireRack r = withPorts (e.retireRack r) ps := by
  simp [Event.retireRack]

@[simp] theorem loseRacks_withPorts (cause : HoldCause) (rs : List Rack) :
    ∀ e, (withPorts e ps).loseRacks cause rs = withPorts (e.loseRacks cause rs) ps := by
  induction rs with
  | nil => exact fun e => rfl
  | cons r rs ih => exact fun e => by simp [Event.loseRacks, ih]

/-! ### Tunnels and the gate -/

@[simp] theorem restart_withPorts (t : Tunnel) : (withPorts e ps).restart t = withPorts (e.restart t) ps := by
  unfold Event.restart
  simp only [withPorts_tunnels, withPorts_now, withPorts_config]
  split
  · simp
  · rfl

@[simp] theorem idleExpire_withPorts (t : Tunnel) :
    (withPorts e ps).idleExpire t = withPorts (e.idleExpire t) ps := by
  simp [Event.idleExpire]

@[simp] theorem abandonExit_withPorts (t : Tunnel) :
    (withPorts e ps).abandonExit t = withPorts (e.abandonExit t) ps := by
  unfold Event.abandonExit
  simp only [withPorts_tunnels, withPorts_finalRack]
  split <;> rfl

@[simp] theorem enterFault_withPorts (t : Tunnel) :
    (withPorts e ps).enterFault t = withPorts (e.enterFault t) ps := by
  simp [Event.enterFault]

@[simp] theorem release_withPorts (t : Tunnel) (r : Rack) (v : Verdict) (d : Destination) (cause : Option HoldCause) :
    (withPorts e ps).release t r v d cause = withPorts (e.release t r v d cause) ps := by
  simp [Event.release]

@[simp] theorem releaseTest_withPorts (t : Tunnel) (grant : Bool) : (withPorts e ps).releaseTest t grant =
    (withPorts (e.releaseTest t grant).1 ps, (e.releaseTest t grant).2) := by
  unfold Event.releaseTest
  simp only [withPorts_tunnels, withPorts_finalRack, withPorts_gateDestination]
  split
  · rfl
  · split
    · split
      · rfl
      · split <;> simp
    · rfl

@[simp] theorem readinessTest_withPorts (t : Tunnel) :
    (withPorts e ps).readinessTest t = withPorts (e.readinessTest t) ps := by
  unfold Event.readinessTest
  simp only [withPorts_finalRack, withPorts_config, withPorts_now]
  split
  · rfl
  · split
    · rfl
    · simp

@[simp] theorem roomReport_withPorts (t : Tunnel) :
    (withPorts e ps).roomReport t = withPorts (e.roomReport t) ps := by
  unfold Event.roomReport
  simp

/-! ### Return -/

@[simp] theorem pairOne_withPorts (r : Rack) : (withPorts e ps).pairOne r = withPorts (e.pairOne r) ps := by
  unfold Event.pairOne
  simp only [withPorts_pairingEntry]
  split <;> rfl

@[simp] theorem pairAll_withPorts (rs : List Rack) :
    ∀ e, (withPorts e ps).pairAll rs = withPorts (e.pairAll rs) ps := by
  induction rs with
  | nil => exact fun e => rfl
  | cons r rs ih => exact fun e => by simp [Event.pairAll, ih]

@[simp] theorem clearRoutes_withPorts (rs : List Rack) :
    ∀ e, (withPorts e ps).clearRoutes rs = withPorts (e.clearRoutes rs) ps := by
  induction rs with
  | nil => exact fun e => rfl
  | cons r rs ih => exact fun e => by simp [Event.clearRoutes, ih]

@[simp] theorem enterStop_withPorts (w : Window) : (withPorts e ps).enterStop w = withPorts (e.enterStop w) ps :=
  clearRoutes_withPorts ps _ { e.writeMode w .stop with
    demand := (e.writeMode w .stop).demand.filter (·.window ≠ w), wantPairing := true }

@[simp] theorem leaveStop_withPorts (w : Window) (m : WindowMode) :
    (withPorts e ps).leaveStop w m = withPorts (e.leaveStop w m) ps := by
  simp [Event.leaveStop]

@[simp] theorem setMode_withPorts (w : Window) (m : WindowMode) :
    (withPorts e ps).setMode w m = withPorts (e.setMode w m) ps := by
  unfold Event.setMode
  simp only [withPorts_windows]
  split
  · rfl
  · generalize e.windows[w].mode = old
    cases m
    case stop => simp
    all_goals cases old <;> simp

/-! ### Admission -/

@[simp] theorem countAdmission_withPorts (t : Tunnel) :
    (withPorts e ps).countAdmission t = withPorts (e.countAdmission t) ps := by
  unfold Event.countAdmission
  simp
  split <;> rfl

@[simp] theorem admitRack_withPorts (t : Tunnel) (r : Rack) :
    (withPorts e ps).admitRack t r = withPorts (e.admitRack t r) ps := by
  simp [Event.admitRack]

@[simp] theorem admitNew_withPorts (t : Tunnel) (tag : Nat) (a : EnrolAttributes) :
    (withPorts e ps).admitNew t tag a = withPorts (e.admitNew t tag a) ps := by
  simp [Event.admitNew]

@[simp] theorem wake_withPorts : (withPorts e ps).wake = withPorts e.wake ps := by
  simp [Event.wake]

@[simp] theorem grant_withPorts (p : PendingAdmission) (t : Tunnel) :
    (withPorts e ps).grant p t = withPorts (e.grant p t) ps := by
  unfold Event.grant
  simp only [dropPending_withPorts, send_withPorts, withPorts_rack?]
  split
  · simp
  · split <;> simp

@[simp] theorem reevaluate_withPorts : (withPorts e ps).reevaluate = withPorts e.reevaluate ps := by
  unfold Event.reevaluate
  rw [apply_ite (withPorts · ps)]
  congr 1
  simp
  split
  · rfl
  · split <;> simp

/-! ### The end of an event -/

@[simp] theorem settle_withPorts : (withPorts e ps).settle = withPorts e.settle ps := by
  have pass (e) : (withPorts e ps).pass = withPorts e.pass ps := by simp [Event.pass, Event.roomReports]
  have pair (e) : (withPorts e ps).pairIfWanted = withPorts e.pairIfWanted ps := by
    have h : (withPorts e ps).pair = withPorts e.pair ps := by
      unfold Event.pair
      rw [pairAll_withPorts]
      rfl
    simp [Event.pairIfWanted, h]
  have idle (e) : (withPorts e ps).idleIfWanted = withPorts e.idleIfWanted ps := by
    simp [Event.idleIfWanted]
  simp [Event.settle, pass, pair, idle]

/-! ### The owning blocks -/

/-- A request served with other ports. -/
def servedWithPorts (v : Served) : Served := { v with event := withPorts v.event ps }

@[simp] theorem served_withPorts (st : Status) (f : Fields) :
    Served.mk (withPorts e ps) st f = servedWithPorts ps ⟨e, st, f⟩ := rfl

@[simp] theorem servedWithPorts_ite {c : Prop} [Decidable c] (v v' : Served) :
    (if c then servedWithPorts ps v else servedWithPorts ps v') = servedWithPorts ps (if c then v else v') := by
  split <;> rfl

theorem enrolTests_withPorts (tag : Nat) (own : TagWindow → Option Status) :
    (withPorts e ps).enrolTests tag own = match e.enrolTests tag own with
      | .ok a => .ok a
      | .error (e', st) => .error (withPorts e' ps, st) := by
  unfold Event.enrolTests
  simp only [withPorts_config, withPorts_tableLoad, raise_withPorts]
  split
  · rfl
  · split
    · split
      · rfl
      · split <;> rfl
    · rfl

theorem takeAtWindow_withPorts (w : Window) (r : Rack) (b : Bool) : (withPorts e ps).takeAtWindow w r b =
    servedWithPorts ps (e.takeAtWindow w r b) := by
  unfold Event.takeAtWindow
  simp only [withPorts_freePosition]
  split
  · rfl
  · simp

theorem sight_withPorts (w : Window) (tag : Nat) :
    (withPorts e ps).serveSight w tag = servedWithPorts ps (e.serveSight w tag) := by
  have htests : (withPorts e ps).sightTests w = e.sightTests w := by
    funext tw
    simp [Event.sightTests]
  unfold Event.serveSight
  simp only [withPorts_rack?]
  split
  · rename_i r _
    unfold Event.sightKnown
    rw [apply_ite (servedWithPorts ps)]
    refine if_congr Iff.rfl rfl ?_
    split
    · simp [takeAtWindow_withPorts]
    · simp [takeAtWindow_withPorts]
    · simp [takeAtWindow_withPorts]
    · rfl
  · unfold Event.sightUnknown
    rw [enrolTests_withPorts, htests, withPorts_freePosition]
    cases e.enrolTests tag (e.sightTests w) with
    | error x => rfl
    | ok a =>
      dsimp only
      split <;> simp

theorem dispatch_withPorts (w : Window) (l : Option (Fin 8)) :
    (withPorts e ps).serveDispatch w l = servedWithPorts ps (e.serveDispatch w l) := by
  unfold Event.serveDispatch
  simp only [withPorts_fillRack]
  split
  · rfl
  · simp

theorem withdraw_withPorts (tag : Nat) :
    (withPorts e ps).serveWithdraw tag = servedWithPorts ps (e.serveWithdraw tag) := by
  unfold Event.serveWithdraw
  simp only [withPorts_rack?]
  split
  · rfl
  · simp

theorem query_withPorts (tag : Nat) :
    (withPorts e ps).serveQuery tag = servedWithPorts ps (e.serveQuery tag) := by
  unfold Event.serveQuery
  simp only [withPorts_rack?]
  split <;> rfl

theorem becomePending_withPorts (q : PendingAdmission) :
    (withPorts e ps).becomePending q = servedWithPorts ps (e.becomePending q) :=
  congrArg (Served.mk · .wait .alone) (wake_withPorts ({ e with pendingAdmission := some q } : Event) ps)

theorem serveAdmit_withPorts (p : Port) (tag : Nat) :
    (withPorts e ps).serveAdmit p tag = servedWithPorts ps (e.serveAdmit p tag) := by
  unfold Event.serveAdmit
  rw [apply_ite (servedWithPorts ps)]
  refine if_congr Iff.rfl rfl ?_
  simp only [withPorts_rack?, withPorts_chosenTunnel, becomePending_withPorts, enrolTests_withPorts]
  split
  · cases e.enrolTests tag fun _ => none with
    | error x => rfl
    | ok a =>
      dsimp only
      split <;> simp
  · split
    · split <;> simp
    · rfl

theorem section_withPorts (t : Tunnel) (st : Stage) (seq : Byte) (m fault : Nat) :
    (withPorts e ps).serveSection t st seq m fault = servedWithPorts ps (e.serveSection t st seq m fault) := by
  unfold Event.serveSection
  simp only [withPorts_lane]
  split
  · rfl
  · split
    · rfl
    · simp

theorem sample_withPorts (t : Tunnel) (x : Nat) :
    (withPorts e ps).serveSample t x = servedWithPorts ps (e.serveSample t x) := by
  unfold Event.serveSample
  simp only [withPorts_sincePrevious, withPorts_tunnels, withPorts_now, setTunnel_withPorts, withPorts_finalRack]
  split
  · rfl
  · split
    · rfl
    · simp

theorem exit_withPorts (t : Tunnel) (p : Port) (tag : Nat) :
    (withPorts e ps).serveExit t p tag = servedWithPorts ps (e.serveExit t p tag) := by
  unfold Event.serveExit
  simp only [withPorts_rack?, withPorts_finalRack]
  split
  · rfl
  · split
    · rfl
    · rw [apply_ite (servedWithPorts ps)]
      refine if_congr Iff.rfl ?_ ?_
      · unfold Event.exitMatch
        split
        · rfl
        · simp only [modifySheet_withPorts, withPorts_tunnels, setTunnel_withPorts, releaseTest_withPorts]
          rw [apply_ite (servedWithPorts ps)]
          refine if_congr Iff.rfl rfl ?_
          split <;> rfl
      · simp [Event.exitMismatch]

theorem tank_withPorts (t : Tunnel) (c : TankCondition) :
    (withPorts e ps).serveTank t c = servedWithPorts ps (e.serveTank t c) := by
  have h : (withPorts e ps).tankReport t c = withPorts (e.tankReport t c) ps := by
    unfold Event.tankReport
    simp only [withPorts_tunnels]
    split <;> simp
  simp [Event.serveTank, h]

theorem emptied_withPorts (t : Tunnel) (tag : Nat) :
    (withPorts e ps).serveEmptied t tag = servedWithPorts ps (e.serveEmptied t tag) := by
  unfold Event.serveEmptied
  simp only [withPorts_rack?]
  split
  · unfold Event.emptiedUnknown
    simp only [enrolTests_withPorts, withPorts_hasRoom]
    cases e.enrolTests tag fun _ => if e.toState.hasRoom .returnLoop then none else some .returnFull with
    | error x => rfl
    | ok a => simp
  · simp [Event.emptiedKnown]

theorem relocate_withPorts (tag : Nat) (g : Target) :
    (withPorts e ps).serveRelocate tag g = servedWithPorts ps (e.serveRelocate tag g) := by
  unfold Event.serveRelocate
  simp only [withPorts_rack?]
  split
  · rfl
  · simp

/-- An owning block does with other ports what it does with these. -/
theorem owner_withPorts (p : Port) (t : Tunnel) (req : Request) :
    (withPorts e ps).owner p t req = servedWithPorts ps (e.owner p t req) := by
  cases req
  case sight => exact sight_withPorts _ _ _ _
  case dispatch => exact dispatch_withPorts _ _ _ _
  case mode => simp [Event.owner, Event.serveMode]
  case withdraw => exact withdraw_withPorts _ _ _
  case query => exact query_withPorts _ _ _
  case admitRequest => exact serveAdmit_withPorts _ _ _ _
  case sectionReport => exact section_withPorts _ _ _ _ _ _ _
  case sample => exact sample_withPorts _ _ _ _
  case exit => exact exit_withPorts _ _ _ _ _
  case tank => exact tank_withPorts _ _ _ _
  case emptied => exact emptied_withPorts _ _ _ _
  case relocate => exact relocate_withPorts _ _ _ _

end Sys2Proof.Proofs.PortsAside
end

section
/-! Requests on a free port and transactions: what each leaves is what its event makes, with its answer or its response
(`exec_request`, `take_command`); and what the fields of every request row spell. -/

namespace Sys2Proof.Proofs.Requests

open Sys2Proof.Machine Sys2Proof.Proofs.Rows Sys2Proof.Proofs.Registers Sys2Proof.Proofs.PortsAside

/-! ### What an event makes -/

/-- What an event makes when everything it owes is done: the state and the messages. -/
def settled (e : Event) : Made := (e.settle.toState, e.settle.out)

theorem ended_settled (e : Event) : e.finish none = ended (settled e) := rfl

/-- An event that owes nothing. -/
theorem settled_of_nothing_owed {e : Event} (hp : e.wantPairing = false) (hr : e.wantReeval = false)
    (hroom : e.room = ⟨false, false⟩) (hi : e.wantIdle = false) : settled e = (e.toState, e.out) := by
  simp only [settled, Event.settle_of_nothing_owed hp hr hroom hi]

@[simp] theorem settled_event (s : State) : settled s.event = (s, []) := settled_of_nothing_owed rfl rfl rfl rfl

@[simp] theorem settled_raise (s : State) (n : Notice) : settled (s.event.raise n) = (s.raise n, []) :=
  settled_of_nothing_owed rfl rfl rfl rfl

theorem replied_nothing (s : State) (p : Port) (k : ReqKind) (payload : List Byte) (st : Status) (f : Fields) :
    replied (s, []) p k payload st f = s.answered p k payload st f := rfl

theorem ended_nothing (s : State) : ended (s, []) = s := rfl

/-! ### The port's tests -/

/-- The two tables of R171. -/
theorem permits_iff (role : Role) (k : ReqKind) : role.permits k = true ↔ k ∈ role.kinds := by
  cases role <;> simp [Role.permits, Role.kinds]

theorem eq_code_of_requestKindOf {b : Byte} {k : ReqKind} (h : requestKindOf b = some k) : b = k.code := by
  unfold requestKindOf at h
  split at h
  case h_13 => cases h
  all_goals
    cases h
    apply BitVec.eq_of_toNat_eq
    assumption

/-- The kind codes are those of the twelve kinds alone (R172). -/
theorem requestKindOf_none {b : Byte} (h : ∀ k : ReqKind, b ≠ k.code) : requestKindOf b = none := by
  cases hk : requestKindOf b with
  | none => rfl
  | some k => exact absurd (eq_code_of_requestKindOf hk) (h k)

theorem judge_of_unknown {s : State} {p : Port} {r : RawRequest} (h : requestKindOf r.kind = none) :
    s.judge p r = ⟨s.event, .role, .alone⟩ := by
  simp only [State.judge, h]

theorem judge_of_not_permitted {s : State} {p : Port} {k : ReqKind} {payload : List Byte}
    (h : k ∉ s.config.roles[p].kinds) : s.judge p ⟨k.code, payload⟩ = ⟨s.event, .role, .alone⟩ := by
  rw [← permits_iff] at h
  simp only [State.judge, requestKindOf_code, if_neg h]

theorem judge_of_malformed {s : State} {p : Port} {k : ReqKind} {payload : List Byte}
    (h : k ∈ s.config.roles[p].kinds) (hp : parseRequest k payload = none) :
    s.judge p ⟨k.code, payload⟩ = ⟨s.event, .malformed, .alone⟩ := by
  rw [← permits_iff] at h
  simp only [State.judge, requestKindOf_code, if_pos h, hp]

theorem judge_of_deferred {s : State} {p : Port} {k : ReqKind} {payload : List Byte} {req : Request}
    (h : k ∈ s.config.roles[p].kinds) (hp : parseRequest k payload = some req) (hb : s.deferredBusy p k = true) :
    s.judge p ⟨k.code, payload⟩ = ⟨s.event, .busy, .alone⟩ := by
  rw [← permits_iff] at h
  simp only [State.judge, requestKindOf_code, if_pos h, hp, hb, if_true]

theorem judge_of_served {s : State} {p : Port} {k : ReqKind} {payload : List Byte} {req : Request}
    (h : k ∈ s.config.roles[p].kinds) (hp : parseRequest k payload = some req) (hb : s.deferredBusy p k = false) :
    s.judge p ⟨k.code, payload⟩ = s.event.owner p s.config.roles[p].tunnelOrA req := by
  rw [← permits_iff] at h
  simp only [State.judge, requestKindOf_code, if_pos h, hp, hb, Bool.false_eq_true, if_false]

/-! ### Service -/

/-- The state with a request joined to the queue of its port. -/
abbrev joined (s : State) (p : Port) (r : RawRequest) : State :=
  s.modifyPort p fun x => { x with queue := x.queue ++ [r] }

/-- A request that the port itself refuses changes nothing but its answer. -/
theorem arrive_refused {s : State} {p : Port} {r : RawRequest} {st : Status} (hq : s.ports[p].queue = [])
    (h : (joined s p r).judge p r = ⟨(joined s p r).event, st, .alone⟩) :
    s.arrive p r = (joined s p r).pushAnswer p .head ⟨answerCode r.kind, st, .alone⟩ := by
  rw [State.arrive_empty hq, State.serve, h]
  exact State.event_finish_answer _ _ _

/-- An event's end with other ports: its state with those ports, then its messages. -/
theorem finish_withPorts (e : Event) (ps : Vector PortState 8) (p : Port) (a : Answer) :
    (withPorts e ps).finish (some (p, a)) =
      (({ e.settle.toState with ports := ps } : State).pushAnswer p .head a).deliver (inOrder e.settle.out) := by
  simp only [Event.finish, settle_withPorts]
  rfl

/-- A request served at the head of a free port: what its event makes of the state before it, and its answer. -/
theorem serve_joined {s : State} {p : Port} {k : ReqKind} {payload : List Byte} {v : Served}
    (hv : (joined s p ⟨k.code, payload⟩).judge p ⟨k.code, payload⟩ =
      servedWithPorts (joined s p ⟨k.code, payload⟩).ports v)
    (hp : v.event.settle.ports = s.ports) :
    (joined s p ⟨k.code, payload⟩).serve p ⟨k.code, payload⟩ =
      replied (settled v.event) p k payload v.status v.fields := by
  rw [State.serve, hv]
  simp only [servedWithPorts, finish_withPorts, replied, settled, ← State.pushAnswer_answered]
  simp only [State.modifyPort, hp]

/-- A request row on a free port whose role permits it, with its fields in range and nothing deferred on the port: what
the owning block's event makes, and the answer. -/
theorem exec_request {c : Instr} {p : Port} {k : ReqKind} {payload : List Byte} {role : Role} {req : Request}
    {s : State} (hf : s.free p role) (hw : c.wire = some (p, k, payload)) (hk : k ∈ role.kinds)
    (hp : parseRequest k payload = some req) (hb : s.deferredBusy p k = false) :
    exec c s = .next (replied (settled (s.event.owner p role.tunnelOrA req).event) p k payload
      (s.event.owner p role.tunnelOrA req).status (s.event.owner p role.tunnelOrA req).fields) := by
  obtain ⟨hr, rfl, hq⟩ := hf
  rw [exec_wire_of_high hw hr, State.arrive_empty hq]
  refine congrArg _ (serve_joined ?_ ?_)
  · rw [judge_of_served (s := joined s p ⟨k.code, payload⟩) hk hp hb]
    exact owner_withPorts s.event _ _ _ _
  · have hk := (kept_owner (f := { windows := true }) rfl s.event p s.config.roles[p].tunnelOrA req).trans
      (kept_settle _)
    exact hk.ports rfl

/-- A request row on a free port that the owning block answers with nothing changed. -/
theorem exec_request_refused {c : Instr} {p : Port} {k : ReqKind} {payload : List Byte} {role : Role} {req : Request}
    {s : State} {st : Status} {f : Fields} (hf : s.free p role) (hw : c.wire = some (p, k, payload))
    (hk : k ∈ role.kinds) (hp : parseRequest k payload = some req) (hb : s.deferredBusy p k = false)
    (hv : s.event.owner p role.tunnelOrA req = ⟨s.event, st, f⟩) :
    exec c s = .next (s.answered p k payload st f) := by
  rw [exec_request hf hw hk hp hb, hv, settled_event, replied_nothing]

/-- A command transaction of a whole length while RST is high. -/
theorem take_command {s : State} {x : Transfer} {n : Nat} (hr : s.rstLow = false) (h : x.isWhole n)
    (act : State → Taken) :
    command x n act s = .next ((ended (settled (act s).event)).respond x ⟨(act s).status, (act s).body⟩) := by
  rw [command, State.take_whole hr h, ended_settled]

/-- A command transaction that changes nothing but its response. -/
theorem take_command_of_eq {s : State} {x : Transfer} {n : Nat} {act : State → Taken} {st : RespStatus} {b : Body}
    (hr : s.rstLow = false) (h : x.isWhole n) (ha : act s = ⟨s.event, st, b⟩) :
    command x n act s = .next (s.respond x ⟨st, b⟩) := by
  rw [take_command hr h, ha, settled_event, ended_nothing]

/-! ### What the fields of a request row spell (R172, R174) -/

theorem windowOf_toNat {w : Byte} {w' : Window} (h : w.toNat = w'.val) : windowOf w.toNat = some w' := by
  unfold windowOf
  rw [h, dif_pos w'.isLt]

theorem windowOf_none {n : Nat} (h : 5 < n) : windowOf n = none := by
  unfold windowOf
  rw [dif_neg (by omega)]

theorem toNat_ofNat_window (w : Window) : (BitVec.ofNat 8 w.val).toNat = w.val := by
  rw [BitVec.toNat_ofNat]
  omega

/-- The kinds whose payload is a tag alone, with the request that a tag makes. -/
def tagRequest : ReqKind → Option (Nat → Request)
  | .withdraw => some .withdraw
  | .query => some .query
  | .admitRequest => some .admitRequest
  | .exit => some .exit
  | .emptied => some .emptied
  | _ => none

theorem parse_tag {k : ReqKind} {g : Nat → Request} (h : tagRequest k = some g) (tag : BitVec 24) :
    parseRequest k (tagBytes tag.toNat) = if isTag tag.toNat then some (g tag.toNat) else none := by
  obtain ⟨x, y, z, hb, ht⟩ := tagField_of_bytes tag
  rw [hb]
  cases k <;> cases h <;> simp only [parseRequest, ht] <;> split <;> rfl

theorem parse_tag_of_valid {k : ReqKind} {g : Nat → Request} (h : tagRequest k = some g) {tag : BitVec 24}
    (ht : validTag tag) : parseRequest k (tagBytes tag.toNat) = some (g tag.toNat) := by
  rw [parse_tag h, if_pos ((isTag_iff tag).mpr ht)]

theorem parse_sight (w : Byte) (tag : BitVec 24) : parseRequest .sight (w :: tagBytes tag.toNat) =
    (windowOf w.toNat).bind fun w => if isTag tag.toNat then some (.sight w tag.toNat) else none := by
  obtain ⟨x, y, z, hb, ht⟩ := tagField_of_bytes tag
  rw [hb]
  simp only [parseRequest, ht]
  congr 1
  funext w
  split <;> rfl

theorem parse_sight_of_valid {wb : Byte} {w : Window} {tag : BitVec 24} (hw : wb.toNat = w.val) (ht : validTag tag) :
    parseRequest .sight (wb :: tagBytes tag.toNat) = some (.sight w tag.toNat) := by
  rw [parse_sight, windowOf_toNat hw, Option.bind_some, if_pos ((isTag_iff tag).mpr ht)]

theorem parse_relocate (tag : BitVec 24) (g : Byte) : parseRequest .relocate (tagBytes tag.toNat ++ [g]) =
    if isTag tag.toNat then (targetOf g.toNat).map (.relocate tag.toNat) else none := by
  obtain ⟨x, y, z, hb, ht⟩ := tagField_of_bytes tag
  rw [hb]
  simp only [List.cons_append, List.nil_append, parseRequest, ht]
  split <;> rfl

theorem natOf_bytesOf_two (m : BitVec 16) : ∃ x y, bytesOf 2 m.toNat = [x, y] ∧ natOf [x, y] = m.toNat := by
  refine ⟨_, _, rfl, ?_⟩
  have := m.isLt
  simp only [natOf, List.foldl_cons, List.foldl_nil, BitVec.toNat_ofNat]
  omega

theorem parse_sample (x : BitVec 16) : parseRequest .sample (bytesOf 2 x.toNat) = some (.sample x.toNat) := by
  obtain ⟨a, b, hb, hn⟩ := natOf_bytesOf_two x
  rw [hb, parseRequest, hn]

theorem parse_section (st seq fault : Byte) (m : BitVec 16) :
    parseRequest .sectionReport (st :: seq :: bytesOf 2 m.toNat ++ [fault]) =
      (reportedStageOf st.toNat).bind fun s =>
        if fault.toNat ≤ 15 then some (.sectionReport s seq m.toNat fault.toNat) else none := by
  obtain ⟨a, b, hb, hn⟩ := natOf_bytesOf_two m
  rw [hb]
  simp only [List.cons_append, List.nil_append, parseRequest, hn]

theorem windowOf_isSome (n : Nat) : (windowOf n).isSome = true ↔ n ≤ 5 := by
  unfold windowOf
  split <;> simp <;> omega

theorem windowModeOf_isSome : ∀ n : Nat, (windowModeOf n).isSome = true ↔ n ≤ 2
  | 0 | 1 | 2 => by decide
  | n + 3 => by simp [windowModeOf]

theorem reportedStageOf_isSome : ∀ n : Nat, (reportedStageOf n).isSome = true ↔ n ≤ 2
  | 0 | 1 | 2 => by decide
  | n + 3 => by simp [reportedStageOf]

theorem targetOf_isSome : ∀ n : Nat, (targetOf n).isSome = true ↔ n ≤ 3
  | 0 | 1 | 2 | 3 => by decide
  | n + 4 => by simp [targetOf]

theorem loadField_isSome (b : Byte) : (loadField b).isSome = true ↔ b.toNat ≤ 7 ∨ b = 0xFF := by
  unfold loadField
  split
  · simp [*]
  · rename_i hne
    split
    · rename_i hlt
      exact ⟨fun _ => .inl (by omega), fun _ => rfl⟩
    · rename_i hge
      exact ⟨nofun, fun h => h.elim (fun h => absurd h (by omega)) fun h => absurd h hne⟩

/-- The fields of a request row are read when they lie in their ranges, and only then. -/
theorem parse_isSome_iff {c : Instr} {p : Port} {k : ReqKind} {payload : List Byte}
    (h : c.wire = some (p, k, payload)) : (parseRequest k payload).isSome = true ↔ c.inRange := by
  cases c <;> cases h
  case withdraw tag | query tag | admitRequest tag | exit tag | emptied tag =>
    change _ ↔ validTag tag
    rw [parse_tag rfl, ← isTag_iff]
    split <;> simp_all
  case sight w tag =>
    rw [parse_sight, Instr.inRange, ← isTag_iff, ← windowOf_isSome]
    cases windowOf w.toNat <;> simp
  case dispatch w load =>
    rw [parseRequest, Instr.inRange, ← windowOf_isSome, ← loadField_isSome]
    cases windowOf w.toNat <;> simp
  case mode w m =>
    rw [parseRequest, Instr.inRange, ← windowOf_isSome, ← windowModeOf_isSome]
    cases windowOf w.toNat <;> simp
  case sectionReport stage seq m fault =>
    rw [parse_section, Instr.inRange, ← reportedStageOf_isSome]
    cases reportedStageOf stage.toNat <;> simp
  case sample x =>
    rw [parse_sample]
    simp [Instr.inRange]
  case relocate tag target =>
    rw [parse_relocate, Instr.inRange, ← isTag_iff, ← targetOf_isSome]
    split <;> simp_all
  all_goals exact ⟨fun _ => trivial, fun _ => rfl⟩

/-- What is read has the length of its kind (R172). -/
theorem length_of_parse {k : ReqKind} {payload : List Byte} {req : Request} (h : parseRequest k payload = some req) :
    payload.length = k.size := by
  unfold parseRequest at h
  split at h
  case h_13 => cases h
  all_goals rfl

/-- A TANK report of a condition above 3 is not read. -/
theorem parse_tank_none {b : Byte} (h : 3 < b.toNat) : parseRequest .tank [b] = none := by
  obtain ⟨n, hn⟩ := Nat.exists_eq_add_of_le' h
  rw [parseRequest, hn]
  rfl

end Sys2Proof.Proofs.Requests
end

section
/-! Frames on the station ports: the transmit lists (R170), the frame check and the receive assembly (R165, R166), the
port's own tests (R168), the sending of a frame (R167), and the law of the ports as an invariant. -/

namespace Sys2Proof.Proofs.StationPorts

open Sys2Proof.Machine Sys2Proof.Proofs.Rows Sys2Proof.Proofs.Effects Sys2Proof.Proofs.Registers
  Sys2Proof.Proofs.RegisterRows Sys2Proof.Proofs.Requests

/-! ### Transmit lists -/

/-- The frames that these messages are for port `p`. -/
def framesFor (p : Port) (ms : List (Port × Message)) : List QueuedFrame :=
  (ms.filter (·.1 = p)).map fun x => ⟨.loose, .message x.2⟩

theorem framesFor_cons (p : Port) (x : Port × Message) (ms : List (Port × Message)) :
    framesFor p (x :: ms) = if x.1 = p then ⟨.loose, .message x.2⟩ :: framesFor p ms else framesFor p ms := by
  unfold framesFor
  rw [List.filter_cons]
  simp only [decide_eq_true_eq]
  split <;> rfl

/-- What a port has after messages: as many of its own as it has room for (R170). -/
theorem deliver_port (p : Port) (ms : List (Port × Message)) : ∀ s : State, (s.deliver ms).ports[p] = { s.ports[p] with
    transmit := s.ports[p].transmit ++ (framesFor p ms).take (32 - s.ports[p].transmit.length) } := by
  induction ms with
  | nil => intro s; simp [framesFor]
  | cons x xs ih =>
    intro s
    rw [State.deliver, ih, framesFor_cons]
    by_cases hp : x.1 = p
    · rw [if_pos hp, hp, State.pushMessage, State.modifyPort_same]
      generalize s.ports[p] = y
      by_cases hlt : y.transmit.length < Config.transmitLimit
      · rw [if_pos hlt]
        change y.transmit.length < 32 at hlt
        obtain ⟨n, hn⟩ : ∃ n, 32 - y.transmit.length = n + 1 := ⟨31 - y.transmit.length, by omega⟩
        have hn' : 32 - (y.transmit.length + 1) = n := by omega
        simp [PortState.withFrame, hn, hn']
      · rw [if_neg hlt]
        change ¬ y.transmit.length < 32 at hlt
        have h0 : 32 - y.transmit.length = 0 := by omega
        simp [h0]
    · rw [if_neg hp, State.pushMessage, State.modifyPort_other _ _ _ _ hp]

theorem deliver_but_ports (ms : List (Port × Message)) (s : State) : { s.deliver ms with ports := s.ports } = s := by
  simp

/-- Settles O23: by induction on the messages, and by the ranks of their kinds. -/
theorem messagesJoinBelowThirtyTwo : Obligations.MessagesJoinBelowThirtyTwo := by
  intro ms s
  refine ⟨fun p => deliver_port p ms s, deliver_but_ports ms s, ?_⟩
  simp only [inOrder, List.flatMap_cons, List.flatMap_nil, List.append_nil, List.append_assoc]
  refine congrArg₂ _ (List.filter_congr fun x _ => ?_) (congrArg₂ _ (List.filter_congr fun x _ => ?_)
    (congrArg₂ _ (List.filter_congr fun x _ => ?_) (List.filter_congr fun x _ => ?_)))
  all_goals
    match x.2 with
    | .grantAdmit .. | .admitCancelled .. | .grantExit .. | .exitAbandoned .. | .route _ none | .route _ (some _)
    | .tunnelState .. => rfl

/-! ### Arrival -/

theorem arrive_assembly_queue {s : State} {p : Port} {r : RawRequest} (h : s.ports[p].queue.length < 2) :
    (s.arrive p r).ports[p].queue = s.ports[p].queue ++ [r] ∧
      (s.arrive p r).ports[p].assembly = s.ports[p].assembly := by
  rcases s.arrive_cases p r with ⟨-, he⟩ | ⟨-, he⟩ | ⟨h2, -⟩ | ⟨h2, -⟩
  · have hk : ∀ v : Served, v = (joined s p r).judge p r → v.event.settle.ports = (joined s p r).ports := by
      rintro v rfl
      have := (kept_judge (f := { windows := true }) rfl (joined s p r) p r).trans (kept_settle _)
      exact this.ports rfl
    rw [he, State.serve]
    simp only [Event.finish, deliver_port, State.pushAnswer, State.modifyPort_same, PortState.withFrame]
    simp only [hk _ rfl, joined, State.modifyPort_same, and_self]
  · simp only [he, State.modifyPort_same, and_self]
  · omega
  · omega

/-- The line identity as a byte is the part's. -/
theorem identity_eq_iff {identity : Byte} {s : State} :
    identity = s.identity.setWidth 8 ↔ identity.toNat = s.identity.toNat := by
  have := s.identity.isLt
  constructor
  · rintro rfl
    rw [BitVec.toNat_setWidth]
    omega
  · intro h
    apply BitVec.eq_of_toNat_eq
    rw [BitVec.toNat_setWidth]
    omega

/-- A complete frame is checked, and the assembly hunts again (R165, R166). -/
theorem exec_frameArrival {p : Port} {identity kind check : Byte} {payload : List Byte} {s : State}
    (hr : s.rstLow = false) (hl : payload.length ≤ 20) :
    exec (.frameArrival p identity kind payload check) s =
      .next ((s.hunt p).checkFrame p identity kind payload check) := by
  simp only [exec, execFrameArrival, unlessReset_of_high hr, if_pos (show payload.length ≤ maxPayload from hl)]

/-- A good frame on a hunting port is the arrival of its request (R166, R167). -/
theorem exec_goodFrame {p : Port} {kind : Byte} {payload : List Byte} {s : State} (hr : s.rstLow = false)
    (hl : payload.length ≤ 20) (ha : s.ports[p].assembly = []) :
    exec (.frameArrival p (s.identity.setWidth 8) kind payload
      (checkByte (s.identity.setWidth 8 :: kind :: BitVec.ofNat 8 payload.length :: payload))) s =
      .next (s.arrive p ⟨kind, payload⟩) := by
  rw [exec_frameArrival hr hl, hunt_of_hunting ha]
  simp [State.checkFrame]

/-- Settles O16, from the branches of the frame check. -/
theorem frameCheckInOrder : Obligations.FrameCheckInOrder := by
  rintro p identity kind check payload s hunted hr hl rfl
  rw [exec_frameArrival hr hl]
  refine ⟨fun hc => ?_, fun hc hi => ?_, fun hc hi hq => ⟨_, rfl, ?_⟩⟩
  · rw [State.checkFrame, if_pos hc]
    rfl
  · have hi' : identity ≠ (s.hunt p).identity.setWidth 8 := fun h => hi (identity_eq_iff.mp h)
    rw [State.checkFrame, if_neg (not_not.mpr hc), if_pos hi']
    rfl
  · have hi' : identity = (s.hunt p).identity.setWidth 8 := identity_eq_iff.mpr hi
    have hx : (s.hunt p).ports[p] = { s.ports[p] with assembly := [] } := State.modifyPort_same _ _ _
    rw [State.checkFrame, if_neg (not_not.mpr hc), if_neg (not_not.mpr hi')]
    have h := arrive_assembly_queue (s := s.hunt p) (p := p) (r := ⟨kind, payload⟩) (by rw [hx]; exact hq)
    rwa [hx] at h

/-- Settles O17: the frame check passes, and both are the arrival of the request. -/
theorem goodFrameIsItsRequestRow : Obligations.GoodFrameIsItsRequestRow := by
  intro c p k payload s hr hw ha
  have hl : payload.length ≤ 20 := by cases c <;> cases hw <;> exact Nat.le_of_ble_eq_true rfl
  exact ⟨hl, by rw [exec_goodFrame hr hl ha, exec_wire_of_high hw hr]⟩

/-! ### Characters -/

/-- A character of a frame that is not its last joins the assembly (R165). -/
theorem character_joins {s : State} {p : Port} {b : Byte} {a : List Byte} (h : s.ports[p].assembly = a)
    (hne : a ≠ []) (hn : a.length + 1 ≤ 3 ∨ ((a ++ [b]).getD 3 0).toNat ≤ 20 ∧
      a.length + 1 ≠ 5 + ((a ++ [b]).getD 3 0).toNat) :
    s.character p b = withAssembly s p (a ++ [b]) := by
  unfold State.character
  obtain ⟨x, xs, rfl⟩ := List.exists_cons_of_ne_nil hne
  rw [h]
  simp only [List.length_append, List.length_cons, List.length_nil, maxPayload] at hn ⊢
  rcases hn with hn | ⟨hn, hl⟩
  · rw [if_pos (by omega)]
    rfl
  · split
    · rfl
    · rw [if_neg (by omega)]
      rfl

theorem withAssembly_withAssembly (s : State) (p : Port) (a b : List Byte) :
    withAssembly (withAssembly s p a) p b = withAssembly s p b := by
  simp only [withAssembly, State.modifyPort_modifyPort]
  rfl

theorem withAssembly_assembly (s : State) (p : Port) (a : List Byte) :
    (withAssembly s p a).ports[p].assembly = a := by
  simp only [withAssembly, State.modifyPort_same]

/-- A character row while RST is high. -/
theorem execAll_character {s : State} (hr : s.rstLow = false) (p : Port) (b : Byte) (cs : List Instr) :
    execAll (.characterReceived p b :: cs) s = execAll cs (s.character p b) := by
  simp only [execAll, exec, execCharacterReceived, unlessReset_of_high hr]

/-- Characters that do not complete the frame collect in the assembly. -/
theorem execAll_collects (p : Port) (bs : List Byte) : ∀ (s : State) (a : List Byte), s.rstLow = false → a ≠ [] →
    (∀ n, a.length + 1 ≤ n → n ≤ a.length + bs.length → n ≤ 3 ∨
      ((a ++ bs).getD 3 0).toNat ≤ 20 ∧ n ≠ 5 + ((a ++ bs).getD 3 0).toNat) →
    ∀ cs, execAll (bs.map (.characterReceived p) ++ cs) (withAssembly s p a) =
      execAll cs (withAssembly s p (a ++ bs)) := by
  induction bs with
  | nil => intro s a _ _ _ cs; simp
  | cons b bs ih =>
    intro s a hr hne hn cs
    have happ : a ++ b :: bs = (a ++ [b]) ++ bs := by simp
    have hget : 4 ≤ a.length + 1 → (a ++ b :: bs).getD 3 0 = (a ++ [b]).getD 3 0 := fun h => by
      rw [happ, List.getD_append _ _ _ _ (by simp; omega)]
    have hb : a.length + 1 ≤ 3 ∨ ((a ++ [b]).getD 3 0).toNat ≤ 20 ∧
        a.length + 1 ≠ 5 + ((a ++ [b]).getD 3 0).toNat := by
      rcases Nat.lt_or_ge a.length 3 with h3 | h3
      · exact .inl (by omega)
      · have := hn (a.length + 1) (by omega) (by simp)
        rwa [hget (by omega)] at this
    rw [List.map_cons, List.cons_append, execAll_character (s := withAssembly s p a) hr,
      character_joins (withAssembly_assembly s p a) hne hb,
      withAssembly_withAssembly, ih s (a ++ [b]) hr (by simp) ?_ cs, ← happ]
    intro n h1 h2
    rw [← happ]
    refine hn n ?_ ?_ <;> simp only [List.length_append, List.length_cons, List.length_nil] at h1 h2 ⊢ <;> omega

/-- Settles O18: the characters collect up to the check byte, which completes the frame. -/
theorem charactersMakeTheFrame : Obligations.CharactersMakeTheFrame := by
  intro p identity kind check payload s t hr ha hl ht
  rw [exec_frameArrival hr hl] at ht
  have hlead : s.character p 0xC5 = withAssembly s p [0xC5] := by
    simp only [State.character, ha]
    rfl
  have hlen : (BitVec.ofNat 8 payload.length : Byte).toNat = payload.length := by
    rw [BitVec.toNat_ofNat]
    omega
  have hcollect := execAll_collects p (identity :: kind :: BitVec.ofNat 8 payload.length :: payload) s [0xC5] hr
    (by simp) (by
      intro n h1 h2
      simp only [List.length_cons, List.length_nil] at h1 h2
      simp only [List.cons_append, List.nil_append, List.getD_cons_succ, List.getD_cons_zero, hlen]
      omega) [.characterReceived p check]
  have hlast : (withAssembly s p (0xC5 :: identity :: kind :: BitVec.ofNat 8 payload.length :: payload)).character p
      check = t := by
    cases ht
    simp only [State.character, withAssembly_assembly]
    simp only [List.cons_append, List.getD_cons_succ, List.getD_cons_zero, hlen, List.length_cons, List.length_append,
      List.length_nil, maxPayload]
    rw [if_neg (by omega), if_neg (by omega), if_pos (by omega)]
    simp only [State.frameComplete, List.dropLast_concat, List.getLastD_concat]
    congr 1
    exact withAssembly_withAssembly s p _ []
  rw [List.cons_append, List.map_cons, execAll_character hr, hlead]
  simp only [List.map_cons, List.cons_append, List.map_append, List.map_nil, List.nil_append] at hcollect ⊢
  rw [hcollect, execAll_character (s := withAssembly s p _) hr, hlast]
  rfl

/-! ### The port's tests -/

/-- Settles O21, from what the port's tests make of each request and frame. -/
theorem portTestsComeFirst : Obligations.PortTestsComeFirst := by
  intro c p role k payload kind check s hf
  obtain ⟨hr, rfl, hq⟩ := hf
  have refused {st : Status} (h : (joined s p ⟨k.code, payload⟩).judge p ⟨k.code, payload⟩ =
      ⟨(joined s p ⟨k.code, payload⟩).event, st, .alone⟩) :
      (.next (s.arrive p ⟨k.code, payload⟩) : Result) = .next (s.answered p k payload st) := by
    rw [arrive_refused hq h, State.pushAnswer_answered]
  refine ⟨?frames, ?rows⟩
  case frames =>
    rintro rfl hl ha
    rw [exec_goodFrame hr hl ha]
    refine ⟨fun hk => ?_, ?_, ?_, ?_⟩
    · have hnone := requestKindOf_none hk
      rw [arrive_refused hq (judge_of_unknown hnone), answerCode, hnone]
      simp [State.pushAnswer, State.modifyPort, PortState.withFrame]
    · rintro rfl hk
      exact refused (judge_of_not_permitted hk)
    · rintro rfl hk hlen
      refine refused (judge_of_malformed hk ?_)
      exact Option.eq_none_iff_forall_ne_some.mpr fun req h => hlen (length_of_parse h)
    · rintro rfl hk rfl ⟨b, rfl, hb⟩
      exact refused (judge_of_malformed hk (parse_tank_none hb))
  case rows =>
    intro hw
    rw [exec_wire_of_high hw hr]
    have hparse (hin : c.inRange) : ∃ req, parseRequest k payload = some req :=
      Option.isSome_iff_exists.mp ((parse_isSome_iff hw).mpr hin)
    refine ⟨fun hk => refused (judge_of_not_permitted hk), fun hk hin => ?_, ?_, ?_⟩
    · refine refused (judge_of_malformed hk ?_)
      exact Option.not_isSome_iff_eq_none.mp (mt (parse_isSome_iff hw).mp hin)
    · rintro hk hin rfl hp
      obtain ⟨req, hreq⟩ := hparse hin
      exact refused (judge_of_deferred hk hreq (decide_eq_true hp))
    · rintro hk hin rfl hd
      obtain ⟨req, hreq⟩ := hparse hin
      refine refused (judge_of_deferred hk hreq ?_)
      exact Bool.or_eq_true_iff.mpr (hd.imp decide_eq_true decide_eq_true)

/-! ### Sending -/

/-- The state with the first frame of a port's list sent. -/
def sentFrom (s : State) (p : Port) (f : QueuedFrame) (rest : List QueuedFrame) : State :=
  s.modifyPort p fun x => { x with transmit := rest, lastSent := f.frame.bytes s.identity }

theorem frameSent_of_empty {s : State} {p : Port} (h : s.ports[p].transmit = []) : s.frameSent p = s := by
  simp only [State.frameSent, h]

theorem frameSent_head {s : State} {p : Port} {f : QueuedFrame} {rest : List QueuedFrame}
    (h : s.ports[p].transmit = f :: rest) (hu : f.use = .head) : s.frameSent p =
      ((sentFrom s p f rest).modifyPort p fun x => { x with queue := x.queue.drop 1 }).serveHead p := by
  simp only [State.frameSent, h, hu, sentFrom]

theorem frameSent_busy {s : State} {p : Port} {f : QueuedFrame} {rest : List QueuedFrame}
    (h : s.ports[p].transmit = f :: rest) (hu : f.use = .busy) :
    s.frameSent p = (sentFrom s p f rest).modifyPort p fun x => { x with busyPending := false } := by
  simp only [State.frameSent, h, hu, sentFrom]

theorem frameSent_other {s : State} {p : Port} {f : QueuedFrame} {rest : List QueuedFrame}
    (h : s.ports[p].transmit = f :: rest) (hu : f.use = .loose ∨ f.use = .begun) :
    s.frameSent p = sentFrom s p f rest := by
  rcases hu with hu | hu <;> simp only [State.frameSent, h, hu, sentFrom]

/-- Settles O22, from the uses of a frame. -/
theorem frameSentFreesTheHead : Obligations.FrameSentFreesTheHead := by
  rintro p f rest a b s sent hr rfl
  simp only [exec, execFrameSent, unlessReset_of_high hr]
  refine ⟨fun h => ?_, fun h hu => ?_, fun h hu => ?_, fun h hu hq => ?_, fun h hu hq => ?_⟩ <;> refine congrArg _ ?_
  · exact frameSent_of_empty h
  · exact frameSent_other h hu
  · exact frameSent_busy h hu
  · rw [frameSent_head h hu]
    simp only [State.serveHead, sentFrom, State.modifyPort_same, hq, List.drop_succ_cons, List.drop_nil]
    simp only [State.modifyPort, hq]
    simp
  · rw [frameSent_head h hu, State.arrive_empty (by simp)]
    simp only [State.serveHead, sentFrom, State.modifyPort_same, hq, List.drop_succ_cons, List.drop_zero]
    simp only [State.modifyPort]
    congr 1
    simp [show s.ports[(p : Nat)].queue = [a, b] from hq]

/-! ### The law of the ports -/

/-- Every port of a state is sound. -/
def portsSound (ps : Vector PortState 8) : Prop := ∀ p : Port, ps[p].sound = true

theorem portLaw_iff (s : State) : s.portLaw ↔ portsSound s.ports :=
  ⟨fun h p => h p (by revert p; decide), fun h p _ => h p⟩

theorem sound_iff (x : PortState) : x.sound = true ↔ x.queue.length ≤ 2 ∧
    x.framesOf .head = (if x.queue = [] then 0 else 1) ∧ x.framesOf .busy = (if x.busyPending then 1 else 0) := by
  simp only [PortState.sound, Bool.and_eq_true, decide_eq_true_eq, and_assoc]

theorem framesOf_append (x : PortState) (fs : List QueuedFrame) (u : FrameUse) :
    PortState.framesOf { x with transmit := x.transmit ++ fs } u =
      x.framesOf u + (fs.filter (·.use = u)).length := by
  simp only [PortState.framesOf, List.filter_append, List.length_append]

theorem framesOf_withFrame (x : PortState) (f : QueuedFrame) (u : FrameUse) :
    (x.withFrame f).framesOf u = x.framesOf u + if f.use = u then 1 else 0 := by
  rw [PortState.withFrame, framesOf_append, List.filter_singleton]
  by_cases h : f.use = u <;> simp [h]

/-- Messages answer nothing. -/
theorem framesFor_answer_nothing (p : Port) (ms : List (Port × Message)) (n : Nat) {u : FrameUse} (hu : u ≠ .loose) :
    ((framesFor p ms).take n).filter (·.use = u) = [] := by
  refine List.filter_eq_nil_iff.mpr fun f hf => ?_
  obtain ⟨x, -, rfl⟩ := List.mem_map.mp (List.mem_of_mem_take hf)
  simpa using hu.symm

theorem portsSound_deliver {s : State} (ms : List (Port × Message)) (h : portsSound s.ports) :
    portsSound (s.deliver ms).ports := by
  intro p
  obtain ⟨hq, hh, hb⟩ := (sound_iff _).mp (h p)
  rw [deliver_port, sound_iff]
  refine ⟨hq, ?_, ?_⟩ <;> rw [framesOf_append, framesFor_answer_nothing _ _ _ (by decide)]
  · exact hh
  · exact hb

theorem portsSound_modifyPort {s : State} {p : Port} {f : PortState → PortState}
    (ho : ∀ q, q ≠ p → s.ports[q].sound = true) (h : (f s.ports[p]).sound = true) :
    portsSound (s.modifyPort p f).ports := by
  intro q
  by_cases hq : q = p
  · rw [hq, State.modifyPort_same]
    exact h
  · rw [State.modifyPort_other _ _ _ _ (Ne.symm hq)]
    exact ho q hq

/-- Serving the head of an otherwise empty queue answers it. -/
theorem portsSound_serve {s : State} {p : Port} (r : RawRequest) (ho : ∀ q, q ≠ p → s.ports[q].sound = true)
    (h : ∀ a, (s.ports[p].withFrame ⟨.head, a⟩).sound = true) : portsSound (s.serve p r).ports := by
  have hports : (s.judge p r).event.settle.ports = s.ports :=
    ((kept_judge (f := { windows := true }) rfl s p r).trans (kept_settle _)).ports rfl
  refine portsSound_deliver _ (portsSound_modifyPort ?_ ?_)
  · intro q hq
    simp only [hports]
    exact ho q hq
  · simp only [hports]
    exact h _

theorem withFrame_head_sound {x : PortState} (hq : x.queue.length ≤ 2) (hne : x.queue ≠ [])
    (hh : x.framesOf .head = 0) (hb : x.framesOf .busy = if x.busyPending then 1 else 0) (a : Frame) :
    (x.withFrame ⟨.head, a⟩).sound = true := by
  rw [sound_iff, framesOf_withFrame, framesOf_withFrame, hh, hb]
  exact ⟨hq, (if_neg hne).symm, rfl⟩

theorem portsSound_arrive {s : State} (p : Port) (r : RawRequest) (h : portsSound s.ports) :
    portsSound (s.arrive p r).ports := by
  obtain ⟨hq, hh, hb⟩ := (sound_iff _).mp (h p)
  rcases s.arrive_cases p r with ⟨h0, he⟩ | ⟨h1, he⟩ | ⟨-, -, he⟩ | ⟨-, hp, he⟩ <;> rw [he]
  · rw [if_pos h0] at hh
    refine portsSound_serve r (fun q hne => ?_) fun a => ?_
    · rw [State.modifyPort_other _ _ _ _ hne.symm]
      exact h q
    · rw [State.modifyPort_same]
      have hlen : (s.ports[p].queue ++ [r]).length ≤ 2 := by
        rw [h0]
        exact Nat.le_succ 1
      exact withFrame_head_sound (x := { s.ports[p] with queue := s.ports[p].queue ++ [r] }) hlen (by simp) hh hb a
  · have hne : s.ports[p].queue ≠ [] := List.ne_nil_of_length_pos (by omega)
    refine portsSound_modifyPort (fun q _ => h q) ((sound_iff _).mpr ⟨?_, ?_, hb⟩)
    · rw [List.length_append, h1]
      exact Nat.le_refl 2
    · rw [if_neg hne] at hh
      rw [if_neg (by simp)]
      exact hh
  · exact h
  · rw [State.pushAnswer, State.modifyPort_modifyPort]
    refine portsSound_modifyPort (fun q _ => h q) ((sound_iff _).mpr ?_)
    rw [hp] at hb
    rw [Function.comp_apply, framesOf_withFrame, framesOf_withFrame]
    exact ⟨hq, hh, congrArg (· + 1) hb⟩

theorem framesOf_cons (x : PortState) (f : QueuedFrame) (rest : List QueuedFrame) (b : List Byte) (u : FrameUse)
    (h : x.transmit = f :: rest) : x.framesOf u =
      (if f.use = u then 1 else 0) + PortState.framesOf { x with transmit := rest, lastSent := b } u := by
  simp only [PortState.framesOf, h, List.filter_cons, decide_eq_true_eq]
  split
  · rw [List.length_cons, Nat.add_comm]
  · rw [Nat.zero_add]

theorem portsSound_frameSent {s : State} (p : Port) (h : portsSound s.ports) : portsSound (s.frameSent p).ports := by
  obtain ⟨hq, hh, hb⟩ := (sound_iff _).mp (h p)
  match ht : s.ports[p].transmit with
  | [] =>
    rw [frameSent_of_empty ht]
    exact h
  | f :: rest =>
    rw [framesOf_cons _ f rest (f.frame.bytes s.identity) _ ht] at hh hb
    cases hu : f.use <;> rw [hu] at hh hb
    case head =>
      have hne : s.ports[p].queue ≠ [] := by
        intro h0
        rw [if_pos h0] at hh
        exact absurd hh (by simp)
      rw [if_neg hne] at hh
      have hdrop : (s.ports[p].queue.drop 1).length ≤ 2 := by
        rw [List.length_drop]
        omega
      rw [frameSent_head ht hu, sentFrom, State.modifyPort_modifyPort, State.serveHead, State.modifyPort_same]
      simp only [Function.comp_apply]
      split
      · rename_i h0
        refine portsSound_modifyPort (fun q _ => h q) ((sound_iff _).mpr ?_)
        simp only [Function.comp_apply, h0]
        exact ⟨by decide, by simpa [PortState.framesOf] using hh, by simpa [PortState.framesOf] using hb⟩
      · rename_i r' rest' h0
        refine portsSound_serve r' (fun q hne => ?_) fun a => ?_
        · rw [State.modifyPort_other _ _ _ _ hne.symm]
          exact h q
        · rw [State.modifyPort_same]
          refine withFrame_head_sound hdrop (fun hn => absurd (h0.symm.trans hn) (by simp)) ?_ ?_ a
          · simpa [PortState.framesOf] using hh
          · simpa [PortState.framesOf] using hb
    case busy =>
      have hpending : s.ports[p].busyPending = true := by
        by_contra hne
        rw [if_neg hne] at hb
        exact absurd hb (by simp)
      rw [if_pos hpending] at hb
      rw [frameSent_busy ht hu, sentFrom, State.modifyPort_modifyPort]
      refine portsSound_modifyPort (fun q _ => h q) ((sound_iff _).mpr ⟨hq, ?_, ?_⟩)
      · simpa [PortState.framesOf] using hh
      · simpa [PortState.framesOf] using hb
    all_goals
      rw [frameSent_other ht (by simp [hu])]
      refine portsSound_modifyPort (fun q _ => h q) ((sound_iff _).mpr ⟨hq, ?_, ?_⟩)
      · simpa [PortState.framesOf] using hh
      · simpa [PortState.framesOf] using hb

/-- A role change leaves the head of the port's queue. -/
theorem portsSound_roleChanged (e : Event) (p : Port) (h : portsSound e.ports) :
    portsSound (e.roleChanged p).ports := by
  have hcancel (e : Event) : ((e.cancelExit p .a).cancelExit p .b).ports = e.ports :=
    (((kept_cancelExit _ p .b).after (kept_cancelExit e p .a)).ports (f := {}) rfl)
  obtain ⟨hq, hh, hb⟩ := (sound_iff _).mp (h p)
  unfold Event.roleChanged
  dsimp only
  rw [hcancel]
  have hports : portsSound (e.toState.modifyPort p fun x => { x with queue := x.queue.take 1 }).ports := by
    refine portsSound_modifyPort (fun q _ => h q) ((sound_iff _).mpr ⟨?_, ?_, hb⟩)
    · rw [List.length_take]
      omega
    · refine hh.trans (if_congr ?_ rfl rfl)
      simp
  split
  · exact hports
  · exact hports

theorem portsSound_rolesChanged (old : Configuration) (ps : List Port) : ∀ e : Event, portsSound e.ports →
    portsSound (e.rolesChanged old ps).ports := by
  induction ps with
  | nil => exact fun e h => h
  | cons p ps ih =>
    intro e h
    rw [Event.rolesChanged]
    split
    · exact ih _ h
    · exact ih _ (portsSound_roleChanged e p h)

theorem portsSound_afterWrite (e : Event) (old : Configuration) (written : List Item) (h : portsSound e.ports) :
    portsSound (e.afterWrite old written).ports := by
  have hroles := portsSound_rolesChanged old allPorts e h
  have hk : Kept (f := {}) (e.rolesChanged old allPorts).toState (e.afterWrite old written).toState := by
    unfold Event.afterWrite
    dsimp only
    refine ((kept_testAfterWrite _ old written .b).after (kept_testAfterWrite _ old written .a)).after ?_
    split
    · exact kept_loseRecords _ _
    · exact .refl _
  rwa [hk.ports rfl]

/-- A frame that has begun answers no request any more. -/
theorem sound_restarted (x : PortState) (begun : Bool) : (x.restarted begun).sound = true := by
  have hkept (u : FrameUse) (hu : u ≠ .begun) : (keptFrames begun x.transmit).filter (·.use = u) = [] := by
    unfold keptFrames
    split
    · rfl
    · split
      · simpa using hu.symm
      · rfl
  rw [sound_iff]
  simp only [PortState.framesOf, PortState.restarted, hkept .head (by decide), hkept .busy (by decide)]
  exact ⟨by decide, rfl, rfl⟩

theorem sound_restartPorts (ps : List Port) : ∀ (s : State) (q : Port), s.ports[q].sound = true ∨ q ∈ ps →
    (s.restartPorts ps).ports[q].sound = true := by
  induction ps with
  | nil => exact fun s q h => h.resolve_right List.not_mem_nil
  | cons p ps ih =>
    intro s q h
    refine ih _ q ?_
    by_cases hq : p = q
    · rw [← hq, State.modifyPort_same]
      exact .inl (sound_restarted _ _)
    · rw [State.modifyPort_other _ _ _ _ hq]
      exact h.imp_right fun h => (List.mem_cons.mp h).resolve_left (Ne.symm hq)

theorem portsSound_restartLine (s : State) : portsSound s.restartLine.event.ports := by
  have hs : portsSound (s.lineEmptied.restartPorts allPorts).ports := fun q =>
    sound_restartPorts allPorts _ q (.inr (by revert q; decide))
  unfold State.restartLine
  dsimp only
  generalize s.lineEmptied.restartPorts allPorts = s' at hs
  have hk : Kept (f := {}) s' (((({ s'.event with draws := s'.draws + 1 } : Event).announceOff s .a).announceOff s
      .b).toState) :=
    ((kept_announceOff _ s .b).after (kept_announceOff _ s .a)).after (.same rfl rfl rfl rfl rfl)
  rwa [hk.ports rfl]

theorem portsSound_begun {c : Instr} {s : State} {e : Event} (h : Begun c s e) (hs : portsSound s.ports) :
    portsSound e.ports := by
  rcases begun_cases h with ⟨x, pairs, new, items, -, rfl⟩ | ⟨x, -, rfl⟩ | ⟨-, named, rfl⟩ | hk
  · exact portsSound_afterWrite _ _ _ hs
  · exact portsSound_restartLine s
  · exact hs
  · rwa [(hk { windows := true } nofun).ports rfl]

theorem portsSound_finish {e : Event} (h : portsSound e.ports) : portsSound (e.finish none).ports := by
  refine portsSound_deliver _ ?_
  rwa [(kept_settle (f := {}) e).ports rfl]

theorem portsSound_effect {c : Instr} {s t : State} (h : Effect c s t) (hs : portsSound s.ports) :
    portsSound t.ports := by
  have hassembly (p : Port) (a : List Byte) : portsSound (withAssembly s p a).ports :=
    portsSound_modifyPort (fun q _ => hs q) (hs p)
  have hreevaluation (s : State) (h : portsSound s.ports) : portsSound s.reevaluationEvent.ports :=
    portsSound_finish (e := { s.event with wantReeval := true }) h
  cases h
  case nothing | tick | buffers | ageOut | removal => exact hs
  case assembly p a | wrongLine p a => exact hassembly p a
  case arrival p a r _ => exact portsSound_arrive p r (hassembly p a)
  case sent p _ => exact portsSound_frameSent p hs
  case command e x r _ hb => exact portsSound_finish (portsSound_begun hb hs)
  case expiry e hb => exact portsSound_finish (portsSound_begun hb hs)
  case ageOutExpiry last => exact hreevaluation _ hs
  case removalExpiry history _ _ => exact hreevaluation _ hs

/-- Settles O12: the resets give idle ports, and every effect keeps every port sound. -/
theorem everyStepKeepsThePortLaw : Obligations.EveryStepKeepsThePortLaw := by
  intro s t hs h
  rw [portLaw_iff] at hs ⊢
  unfold step at h
  split at h
  · cases h
    exact hs
  · rename_i c rest _
    cases hr : c.isReset
    · exact portsSound_effect (effect_of_exec hr h) hs
    · cases c
      case powerOn x | rstRelease x =>
        cases h
        simp only [State.sampleStraps]
        split <;> exact (portLaw_iff State.reset).mp (by decide)
      case rstAssert =>
        cases h
        exact (portLaw_iff State.reset).mp (by decide)
      all_goals cases hr

end Sys2Proof.Proofs.StationPorts
end

section
/-! The resets (R185 to R187), LINE_RESTART (R188), the reads of the supervisor port (R14, R57, R81, R163, R181), the
notices (R183, R184), FETCH and the transactions that do not fit (R179, R180), and QUERY (R13). -/

namespace Sys2Proof.Proofs.Reads

open Sys2Proof.Machine Sys2Proof.Proofs.Rows Sys2Proof.Proofs.Requests Sys2Proof.Proofs.StationPorts

/-! ### Resets -/

theorem oddStraps_eq (x : Straps) : oddStraps x = (x.id.getLsbD 0 ^^ (x.id.getLsbD 1 ^^ (x.id.getLsbD 2 ^^
    (x.id.getLsbD 3 ^^ (x.id.getLsbD 4 ^^ x.parity))))) := by
  have hr : List.range 5 = [0, 1, 2, 3, 4] := rfl
  simp only [oddStraps, Straps.highs, hr, List.filter_cons, List.filter_nil]
  cases x.id.getLsbD 0 <;> cases x.id.getLsbD 1 <;> cases x.id.getLsbD 2 <;> cases x.id.getLsbD 3 <;>
    cases x.id.getLsbD 4 <;> cases x.parity <;> rfl

theorem strapDivisor_eq (x : Straps) : strapDivisor x =
    if x.cks1 then (if x.cks0 then 1600000 else 1200000) else (if x.cks0 then 800000 else 400000) := by
  unfold strapDivisor
  cases x.cks1 <;> cases x.cks0 <;> rfl

/-- The reset values with the straps sampled. -/
theorem sampled_resetValues (x : Straps) (s : State) : s.resetValues.sampleStraps x = { State.reset with
    pending := s.pending, draws := s.draws, straps := x
    identity := if oddStraps x then x.id else 31
    fallback := !oddStraps x
    notices := if oddStraps x then 0 else 0x8000
    divisor := strapDivisor x } := by
  have hbit : State.reset.notices ||| Notice.identityFallback.bit = 0x8000 := by decide
  unfold State.sampleStraps
  cases oddStraps x
  · simp only [State.raise, State.resetValues, hbit]
    rfl
  · rfl

/-- Settles O4: the parity counted is the parity of the six straps. -/
theorem resetsGiveThePowerOnState : Obligations.ResetsGiveThePowerOnState := by
  rintro x odd s rfl
  have hsampled := sampled_resetValues x s
  rw [oddStraps_eq, strapDivisor_eq] at hsampled
  refine ⟨congrArg _ hsampled, ?_, rfl⟩
  simp only [exec, execRstRelease, execPowerOn, hsampled]
  rfl

theorem itemOf_of_large {n : Nat} (h : 128 ≤ n) : itemOf n = none := by
  unfold itemOf
  repeat rw [if_neg (by omega)]
  repeat rw [dif_neg (by omega)]

theorem find?_of_bounded {table : List (Nat × Nat)} {b n : Nat} (h : table.all (decide <| ·.1 < b) = true)
    (hn : b ≤ n) : (table.find? fun e => decide (e.1 = n)) = none := by
  rw [List.find?_eq_none]
  intro e he
  have := of_decide_eq_true (List.all_eq_true.mp h e he)
  rw [decide_eq_true_eq]
  omega

/-- Settles O5: the item numbers lie below 128, and below it the table is compared number by number. -/
theorem powerOnStateIsTheTables : Obligations.PowerOnStateIsTheTables := by
  refine ⟨fun n => ?_, rfl, rfl, rfl, rfl, rfl, rfl, rfl, rfl, fun t => ?_, rfl, by decide, rfl, by decide⟩
  · rcases Nat.lt_or_ge n 128 with h | h
    · obtain ⟨a, b, rfl⟩ : ∃ (a : Fin 16) (b : Fin 8), n = 8 * a.val + b.val :=
        ⟨⟨n / 8, by omega⟩, ⟨n % 8, by omega⟩, (Nat.div_add_mod n 8).symm⟩
      revert a b
      decide
    · rw [itemOf_of_large h]
      exact (congrArg (Option.map _) (find?_of_bounded (by decide) h)).symm
  · cases t <;> exact ⟨rfl, rfl, rfl, rfl, rfl⟩

/-! ### LINE_RESTART -/

theorem restartPorts_but_ports (ps : List Port) : ∀ s : State, { s.restartPorts ps with ports := s.ports } = s := by
  induction ps with
  | nil => exact fun s => rfl
  | cons p ps ih =>
    intro s
    have h := ih (s.modifyPort p fun x => x.restarted (Config.frameStarted s.draws p.val))
    rw [State.restartPorts]
    generalize (s.modifyPort p _).restartPorts ps = s' at h ⊢
    exact congrArg (fun u : State => { u with ports := s.ports }) h

theorem restartPorts_port (ps : List Port) : ∀ (s : State) (q : Port), ps.Nodup → (s.restartPorts ps).ports[q] =
    if q ∈ ps then s.ports[q].restarted (Config.frameStarted s.draws q.val) else s.ports[q] := by
  induction ps with
  | nil => exact fun s q _ => (if_neg List.not_mem_nil).symm
  | cons p ps ih =>
    intro s q hd
    obtain ⟨hp, hd⟩ := List.nodup_cons.mp hd
    rw [State.restartPorts, ih _ q hd]
    by_cases hq : q = p
    · subst hq
      rw [if_neg hp, if_pos List.mem_cons_self, State.modifyPort_same]
    · rw [State.modifyPort_other _ _ _ _ (Ne.symm hq)]
      refine if_congr ?_ rfl rfl
      rw [List.mem_cons, or_iff_right hq]

theorem keptFrames_eq (begun : Bool) (fs : List QueuedFrame) : keptFrames begun fs =
    ((fs.take 1).filter fun f => f.use = .begun ∨ begun).map fun f => { f with use := .begun } := by
  cases fs with
  | nil => rfl
  | cons f fs =>
    rw [keptFrames, List.take_succ_cons, List.take_zero, List.filter_singleton]
    by_cases h : f.use = .begun ∨ begun = true <;> simp [h]

/-- The ports of the restarted line. -/
theorem restartPorts_eq (s : State) : s.restartPorts allPorts = { s with
    ports := Vector.ofFn fun p : Port => { s.ports[p] with
      assembly := [], queue := [], busyPending := false
      transmit := ((s.ports[p].transmit.take 1).filter fun f =>
        f.use = .begun ∨ Config.frameStarted s.draws p.val).map fun f => { f with use := .begun } } } := by
  have hports : (s.restartPorts allPorts).ports = Vector.ofFn fun p : Port =>
      s.ports[p].restarted (Config.frameStarted s.draws p.val) := by
    refine Vector.ext fun i hi => ?_
    have := restartPorts_port allPorts s ⟨i, hi⟩ (by decide)
    rw [if_pos (by generalize (⟨i, hi⟩ : Port) = q; revert q; decide)] at this
    rw [Vector.getElem_ofFn]
    exact this
  have hrest := restartPorts_but_ports allPorts s
  generalize s.restartPorts allPorts = s' at hports hrest
  simp only [PortState.restarted, keptFrames_eq] at hports
  rw [← hports, ← hrest]

theorem announceOff_eq (e : Event) (old : State) (t : Tunnel) : e.announceOff old t = { e with
    out := e.out ++ if (old.tunnels.get t).state = .off then []
      else e.toState.toRole (.tunnel t) (.tunnelState t .off false) } := by
  unfold Event.announceOff
  split
  · rw [List.append_nil]
  · rfl

/-- Settles O59: what is emptied is set port by port, and the announcements are all the event sends. -/
theorem lineRestartEmptiesTheLine : Obligations.LineRestartEmptiesTheLine := by
  rintro x s restarted hr hx rfl
  have htunnels : (⟨TunnelContext.afterReset, TunnelContext.afterReset⟩ : PerTunnel TunnelContext) =
      ⟨State.reset.tunnels.a, State.reset.tunnels.b⟩ := rfl
  simp only [exec, execLineRestart]
  rw [take_command hr hx, State.restartLine]
  simp only [restartPorts_eq, announceOff_eq]
  rw [settled_of_nothing_owed rfl rfl rfl rfl, ended, inOrder_of_rank (k := 3) ?_ (Nat.le_refl 3)]
  · rfl
  · intro m hm
    simp only [List.nil_append, List.mem_append, State.event_out] at hm
    rcases hm with hm | hm
    all_goals
      split at hm
      · cases hm
      · obtain ⟨p, -, rfl⟩ := List.mem_map.mp hm
        rfl

/-! ### Transactions that do not fit -/

theorem take_refused {s : State} {x : Transfer} (hr : s.rstLow = false) (hx : x.clocked ≠ 0) (act : State → Taken) :
    s.take x false act = s.respond x ⟨.badValue, .alone⟩ := by
  rw [State.take, if_neg (by simp [hr, hx]), if_neg (by decide)]

theorem take_nothing {s : State} {x : Transfer} (hx : x.clocked = 0) (fits : Bool) (act : State → Taken) :
    s.take x fits act = s := by
  rw [State.take, if_pos (.inr hx)]

/-- What a transaction that fits must be. -/
theorem lengthFits_of_not_whole {x : Transfer} {n : Nat} (h : ¬ x.isWhole n) (allowed : Bool) :
    lengthFits x n allowed = false := by
  unfold lengthFits
  by_contra hf
  simp only [Bool.not_eq_false, Bool.and_eq_true, decide_eq_true_eq] at hf
  obtain ⟨⟨⟨h1, h2⟩, h3⟩, -⟩ := hf
  exact h ⟨h1, h3, h3 ▸ h2⟩

/-- The commands of a length, as transactions. -/
theorem exec_transfer {c : Instr} {x : Transfer} {n : Nat} (h : c.transfer = some (x, n)) :
    ∃ (allowed : Bool) (act : State → Taken), ∀ s, exec c s = .next (s.take x (lengthFits x n allowed) act) := by
  cases c
  case readRecord x' key => cases key <;> cases h <;> exact ⟨true, _, fun _ => rfl⟩
  case readConfig | writeConfig =>
    simp only [Instr.transfer] at h
    split at h
    · cases h
    · cases h
      exact ⟨_, _, fun _ => rfl⟩
  case nop | readWindows | readNotices | lineRestart | readTick | readTunnel | readPlace | tunnelStart | tunnelStop
    | tunnelFlush | tunnelClearFault | windowMode | windowClass | clearNotices | retire | supervisorRelocate =>
    cases h
    exact ⟨true, _, fun _ => rfl⟩
  all_goals cases h

theorem fetchBytes_length (r : Option Response) (n : Nat) : (fetchBytes r n).length = n := by
  simp only [fetchBytes, List.length_append, List.length_take, List.length_replicate]
  omega

/-- A byte that a FETCH clocks out. -/
theorem fetchBytes_getD (r : Option Response) {n k : Nat} (hk : k < n) (d : Byte) :
    (fetchBytes r n).getD k d = ((0x00#8 :: responseBytes r).getD k 0) := by
  simp only [fetchBytes]
  generalize 0x00#8 :: responseBytes r = all
  rcases Nat.lt_or_ge k all.length with h | h
  · rw [List.getD_append _ _ _ _ (by rw [List.length_take]; omega), List.getD_eq_getElem _ _ h,
      List.getD_eq_getElem _ _ (by rw [List.length_take]; omega), List.getElem_take]
  · rw [List.getD_append_right _ _ _ _ (by rw [List.length_take]; omega), List.getD_eq_default _ _ h,
      List.length_take, Nat.min_eq_right (by omega), List.getD_eq_getElem _ _ (by rw [List.length_replicate]; omega),
      List.getElem_replicate]
    rfl

/-- Settles O60: the bytes of a FETCH one by one, and the branches of `State.take`. -/
theorem fetchAndBadTransactions : Obligations.FetchAndBadTransactions := by
  intro c x n clocked code items pairs s hr
  refine ⟨fun hc => ⟨{ s with response := none, commandBuffer := [], miso := fetchBytes s.response clocked }, ?_, rfl,
    fetchBytes_length s.response clocked, rfl, fun k hk => ?_⟩, ?_, fun h hx hw => ?_,
    fun h hx => ?_, fun h hx => ?_, fun hx => ?_, fun hx => ?_, fun h hx => ?_⟩
  · simp only [exec, execFetch, unlessReset_of_high hr, if_neg hc]
  · rw [fetchBytes_getD _ hk]
    cases k with
    | zero => rfl
    | succ k =>
      rw [List.getD_cons_succ, if_neg (Nat.succ_ne_zero k), Nat.add_sub_cancel]
      cases s.response with
      | none => rfl
      | some r => simp [responseBytes, byteField, bytesOf]
  · simp only [exec, execFetch, unlessReset_of_high hr, if_true]
  · obtain ⟨allowed, act, he⟩ := exec_transfer h
    rw [he, lengthFits_of_not_whole hw, take_refused hr hx]
  · have hlen : ¬ (1 ≤ items.length ∧ items.length ≤ 64) := by
      rcases h with rfl | h
      · simp
      · omega
    simp only [exec, execReadConfig, lengthFits, ← Bool.decide_and, decide_eq_false hlen, Bool.and_false,
      take_refused hr hx]
  · have hlen : ¬ (1 ≤ pairs.length ∧ pairs.length ≤ 64) := by
      rcases h with rfl | h
      · simp
      · omega
    simp only [exec, execWriteConfig, lengthFits, ← Bool.decide_and, decide_eq_false hlen, Bool.and_false,
      take_refused hr hx]
  · simp only [exec, execUnknownCommandCode, take_refused hr hx]
  · simp only [exec, execUnknownCommandCode, take_nothing hx]
  · obtain ⟨allowed, act, he⟩ := exec_transfer h
    rw [he, take_nothing hx]

/-! ### Notices -/

/-- Some notice of the set is not in the mask. -/
theorem unmasked_iff (a b : BitVec 16) : a &&& ~~~b ≠ 0 ↔
    ∃ n < 16, a.getLsbD n = true ∧ b.getLsbD n = false := by
  rw [Ne, BitVec.eq_of_getLsbD_eq_iff]
  constructor
  · intro h
    simp only [not_forall] at h
    obtain ⟨i, hi, h⟩ := h
    refine ⟨i, hi, ?_⟩
    simpa [BitVec.getLsbD_and, BitVec.getLsbD_not, hi] using h
  · rintro ⟨n, hn, ha, hb⟩ h
    have := h n hn
    rw [BitVec.getLsbD_and, BitVec.getLsbD_not, ha, hb, decide_eq_true hn] at this
    simp at this

/-- Settles O58, bit by bit for ATTN, and by the clear mode. -/
theorem noticesAndOutputLines : Obligations.NoticesAndOutputLines := by
  intro x named s
  refine ⟨?_, ?_, fun hr hx hm => ?_, fun hr hx hm => ?_, fun hr hx => ?_⟩
  · rw [← unmasked_iff, State.attn]
    simp
  · rw [State.rdy]
    simp [Option.isSome_iff_ne_none]
  · simp only [exec, execReadNotices]
    refine take_command_of_eq hr hx ?_
    simp only [State.readNoticeSet, hm]
    rfl
  · simp only [exec, execReadNotices]
    rw [take_command hr hx]
    simp only [State.readNoticeSet, hm, settled_event, ended_nothing, State.clearNotices, BitVec.and_not_self]
  · simp only [exec, execClearNotices]
    rw [take_command hr hx]
    simp only [State.clearNoticeSet, settled_event, ended_nothing, State.clearNotices]

/-! ### Reads of the supervisor -/

/-- With no slot twice, the record in a slot is the one that a lookup finds (R2). -/
theorem rackInSlot?_of_mem {s : State} {r : Rack} (hn : (s.racks.map (·.slot)).Nodup) (h : r ∈ s.racks) :
    s.rackInSlot? r.slot = some r := by
  have hsome : (s.racks.find? (·.slot = r.slot)).isSome = true := by
    rw [List.find?_isSome]
    exact ⟨r, h, decide_eq_true rfl⟩
  obtain ⟨y, hy⟩ := Option.isSome_iff_exists.mp hsome
  have hslot : y.slot = r.slot := by simpa using List.find?_some hy
  rw [State.rackInSlot?, hy, List.inj_on_of_nodup_map hn (List.mem_of_find?_eq_some hy) h hslot]

theorem tunnelOf_of_number {n : Nat} {t : Tunnel} (h : n = tunnelNumber t) : tunnelOf n = some t := by
  subst h
  cases t <;> rfl

theorem tunnelOf_of_large {n : Nat} (h : 1 < n) : tunnelOf n = none := by
  obtain ⟨m, rfl⟩ := Nat.exists_eq_add_of_le' h
  rfl

/-- A window is starved when it is in ACCEPT and both its positions are free (R150). -/
theorem starved_eq (s : State) (w : Window) : s.starved w =
    decide (s.windows[w].mode = .accept ∧ s.fillRack w = none ∧ s.spareRack w = none) := by
  rw [State.starved, ← Bool.decide_and]
  refine decide_eq_decide.mpr (and_congr_right fun _ => ?_)
  simp only [State.occupied, State.count, State.fillRack, State.spareRack, List.head?_eq_none_iff,
    Nat.add_eq_zero_iff, List.length_eq_zero_iff]

/-- Settles O31: each read answers what its definition says, and nothing is owed at its end. -/
theorem readsAnswerTheState : Obligations.ReadsAnswerTheState := by
  intro x tag slot sel tb t r s hr
  refine ⟨fun hx => ?_, fun hx ht h => ?_, fun hx ht h => ?_, fun hx ht => ?_, fun hx hs hl hm he => ?_,
    fun hx hs hn => ?_, fun hx hs => ?_, fun hx => ?_, fun hx ht => ?_, fun hx ht => ?_, fun hx => ?_, fun hx => ?_⟩
  · exact take_command_of_eq hr hx rfl
  · refine take_command_of_eq hr hx ?_
    simp only [State.readRecordBy, (isTag_iff tag).mpr ht, h, if_true]
    rfl
  · refine take_command_of_eq hr hx ?_
    simp only [State.readRecordBy, (isTag_iff tag).mpr ht, h, if_true]
  · refine take_command_of_eq hr hx ?_
    simp only [State.readRecordBy, Bool.not_eq_true _ ▸ mt (isTag_iff tag).mp ht]
    rfl
  · refine take_command_of_eq hr hx ?_
    obtain ⟨-, hslots, -⟩ := hl
    have hfound := rackInSlot?_of_mem hslots hm
    rw [he] at hfound
    simp only [State.readRecordBy, if_pos (show slot.toNat < Config.tableSlots from hs), hfound]
    rfl
  · refine take_command_of_eq hr hx ?_
    have hnone : s.rackInSlot? slot.toNat = none := by
      rw [State.rackInSlot?, List.find?_eq_none]
      exact fun y hy => by simpa using hn y hy
    simp only [State.readRecordBy, if_pos (show slot.toNat < Config.tableSlots from hs), hnone]
  · refine take_command_of_eq hr hx ?_
    simp only [State.readRecordBy, if_neg (show ¬ slot.toNat < Config.tableSlots from Nat.not_lt.mpr hs)]
    rfl
  · simp only [exec, execReadRecord, command]
    cases hf : lengthFits x (recordKeyLength (.badSelector sel)) true
    · rw [take_refused hr hx]
    · rcases s.take_cases x true (fun s => s.readRecordBy (.badSelector sel)) with ⟨h, -⟩ | ⟨-, -, -, h⟩ | ⟨-, -, h, -⟩
      · simp [hr, hx] at h
      · rw [h, ended_settled]
        simp only [State.readRecordBy, State.badValue, settled_event, ended_nothing]
      · cases h
  · refine take_command_of_eq hr hx ?_
    simp only [tunnelOf_of_number ht]
    rfl
  · refine take_command_of_eq hr hx ?_
    simp only [tunnelOf_of_large ht]
    rfl
  · refine take_command_of_eq hr hx ?_
    simp only [← starved_eq]
    rfl
  · exact take_command_of_eq hr hx rfl

/-! ### Places -/

theorem insertBySlot_perm (r : Rack) (l : List Rack) : (insertBySlot r l).Perm (r :: l) := by
  induction l with
  | nil => exact .refl _
  | cons x xs ih =>
    rw [insertBySlot]
    split
    · exact .refl _
    · exact (ih.cons x).trans (.swap r x xs)

theorem bySlotOrder_perm (l : List Rack) : (bySlotOrder l).Perm l := by
  induction l with
  | nil => exact .refl _
  | cons r rs ih => exact (insertBySlot_perm r _).trans (ih.cons r)

theorem insertBySlot_ascends (r : Rack) (l : List Rack) (h : l.Pairwise fun a b => a.slot ≤ b.slot) :
    (insertBySlot r l).Pairwise fun a b => a.slot ≤ b.slot := by
  induction l with
  | nil => exact List.pairwise_singleton _ _
  | cons x xs ih =>
    obtain ⟨hx, hxs⟩ := List.pairwise_cons.mp h
    rw [insertBySlot]
    split
    · rename_i hle
      refine List.pairwise_cons.mpr ⟨fun y hy => ?_, h⟩
      rcases List.mem_cons.mp hy with rfl | hy
      · exact hle
      · exact hle.trans (hx y hy)
    · rename_i hgt
      refine List.pairwise_cons.mpr ⟨fun y hy => ?_, ih hxs⟩
      rcases List.mem_cons.mp ((insertBySlot_perm r xs).mem_iff.mp hy) with rfl | hy
      · omega
      · exact hx y hy

theorem bySlotOrder_ascends (l : List Rack) : (bySlotOrder l).Pairwise fun a b => a.slot ≤ b.slot := by
  induction l with
  | nil => exact .nil
  | cons r rs ih => exact insertBySlot_ascends r _ ih

/-- Every place but a lane is named by its code and index (R57). -/
theorem readablePlace_of_place {pl : Place} (h : ∀ t ∈ [Tunnel.a, .b], pl ≠ .tunnel t) :
    readablePlace pl.code pl.index = some pl := by
  cases pl with
  | tunnel t => exact absurd rfl (h t (by cases t <;> decide))
  | windowFill w | windowSpare w =>
    have hw : windowOf w.val = some w := dif_pos w.isLt
    exact congrArg (Option.map _) hw
  | unload t => cases t <;> rfl
  | _ => rfl

theorem windowOf_of_large {n : Nat} (h : 5 < n) : windowOf n = none := dif_neg (by omega)

/-- A lane, a code of no place, and an index that the place does not have name nothing (R57, R180). -/
theorem readablePlace_none {code index : Nat} (h : code = 3 ∨ 8 < code ∨ (code ≤ 1 ∧ 5 < index) ∨
    (code = 4 ∧ 1 < index) ∨ (code ∉ [0, 1, 3, 4] ∧ index ≠ 0)) : readablePlace code index = none := by
  rcases Nat.lt_or_ge 8 code with hc | hc
  · obtain ⟨m, rfl⟩ := Nat.exists_eq_add_of_le' hc
    rfl
  · have hw (hi : 5 < index) : windowOf index = none := windowOf_of_large hi
    have ht (hi : 1 < index) : tunnelOf index = none := tunnelOf_of_large hi
    interval_cases code <;> simp [readablePlace] at h ⊢
    · exact hw h
    · exact hw h
    · exact h
    · exact ht h
    all_goals exact h

/-- Settles O32: the report's members are the place's, sorted by slot where the place keeps no order. -/
theorem readPlaceListsItsMembers : Obligations.ReadPlaceListsItsMembers := by
  intro x code index pl s hr hx
  refine ⟨fun hl hc hi => ?_, fun h => ?_⟩
  · refine ⟨if pl.ordered then s.members pl else bySlotOrder (s.members pl), ?_, ?_, ?_, ?_⟩
    · refine take_command_of_eq hr hx ?_
      simp only [hc, hi, readablePlace_of_place hl]
      refine congrArg (fun b => (⟨s.event, .done, b⟩ : Taken)) (congrArg Body.place ?_)
      cases pl <;> rfl
    · split
      · exact .refl _
      · exact bySlotOrder_perm _
    · rintro (rfl | rfl | rfl | rfl) <;> rfl
    · rintro (rfl | rfl | rfl) <;> exact bySlotOrder_ascends _
  · refine take_command_of_eq hr hx ?_
    have hindex : index ≠ 0 ↔ index.toNat ≠ 0 := by
      rw [Ne, ← BitVec.toNat_inj]
      rfl
    rw [hindex] at h
    simp only [readablePlace_none h]
    rfl

/-! ### QUERY, the choice of a tunnel and of a demand entry -/

/-- Settles O24: QUERY is permitted to every role in use, and answers from the record. -/
theorem queryAnswersTheRecord : Obligations.QueryAnswersTheRecord := by
  intro p role tag r s hf hu ht
  have hk : ReqKind.query ∈ role.kinds := by cases role <;> simp [Role.kinds] at hu ⊢
  have hserve {st : Status} {f : Fields} (h : s.event.serveQuery tag.toNat = ⟨s.event, st, f⟩) :
      exec (.query p tag) s = .next (s.answered p .query (tagBytes tag.toNat) st f) :=
    exec_request_refused hf rfl hk (parse_tag_of_valid (g := .query) rfl ht) rfl h
  refine ⟨fun h => hserve ?_, fun h => hserve ?_⟩
  · simp only [Event.serveQuery, State.event_toState, h]
  · simp only [Event.serveQuery, State.event_toState, h]
    rfl

/-- Settles O54: the first entry that `find?` and `head?` give. -/
theorem pairingServesStarvedWindowsFirst : Obligations.PairingServesStarvedWindowsFirst := by
  intro r before after d s hd hm hc
  have hstarved {x : DemandEntry} (hx : s.windows[x.window].mode = .accept) :
      s.starved x.window = true ↔ s.occupied x.window = 0 := by
    rw [State.starved, hx, decide_eq_true rfl, Bool.true_and, decide_eq_true_eq]
  refine ⟨fun h0 hb => ?_, fun hb hs => ?_⟩
  · have hfirst : (s.demand.filter fun x => s.windows[x.window].mode = .accept ∧
        s.windows[x.window].cls = r.cls).find? (fun x => s.starved x.window) = some d := by
      rw [List.find?_filter, hd, List.find?_append, List.find?_eq_none.mpr, Option.none_or, List.find?_cons_of_pos]
      · simp only [decide_eq_true_eq]
        exact ⟨⟨hm, hc⟩, (hstarved hm).mpr h0⟩
      · intro x hx
        simp only [decide_eq_true_eq]
        rintro ⟨⟨hxm, hxc⟩, hxs⟩
        exact hb x hx hxm hxc ((hstarved hxm).mp hxs)
    simp only [State.pairingEntry, hfirst]
  · have hnone : (s.demand.filter fun x => s.windows[x.window].mode = .accept ∧
        s.windows[x.window].cls = r.cls).find? (fun x => s.starved x.window) = none := by
      rw [List.find?_eq_none]
      intro x hx hxs
      obtain ⟨hx, hxp⟩ := List.mem_filter.mp hx
      obtain ⟨hxm, hxc⟩ := of_decide_eq_true hxp
      exact hs x hx hxm hxc ((hstarved hxm).mp hxs)
    have hhead : (s.demand.filter fun x => s.windows[x.window].mode = .accept ∧
        s.windows[x.window].cls = r.cls).head? = some d := by
      rw [List.head?_filter, hd, List.find?_append, List.find?_eq_none.mpr, Option.none_or, List.find?_cons_of_pos]
      · exact decide_eq_true ⟨hm, hc⟩
      · exact fun x hx => by simpa only [decide_eq_true_eq] using hb x hx
    simp only [State.pairingEntry, hnone, hhead]

/-- No rack of a lane stands before section `st`. -/
theorem anyBefore_eq_false_iff (lane : List Rack) (st : Stage) : anyBefore lane st = false ↔
    ∀ r ∈ lane, ∀ x ∈ [Stage.pre, .wash, .rinse, .final], r.stage? = some x → st.code ≤ x.code := by
  rw [anyBefore, List.any_eq_false]
  refine forall₂_congr fun r _ => ?_
  cases hr : r.stage? with
  | none => simp
  | some x =>
    have hx : x ∈ [Stage.pre, .wash, .rinse, .final] := by cases x <;> decide
    simp only [Stage.before, decide_eq_true_eq, Nat.not_lt, Option.some.injEq]
    exact ⟨fun h y _ e => e ▸ h, fun h => h x hx rfl⟩

theorem chosenTunnel_of_one {s : State} {t : Tunnel} (h : s.eligible t = true) (h' : s.eligible t.other = false) :
    s.chosenTunnel = some t := by
  cases t <;> simp only [Tunnel.other] at h' <;> simp only [State.chosenTunnel, h, h']

theorem chosenTunnel_of_shorter {s : State} {t : Tunnel} (h : s.eligible t = true) (h' : s.eligible t.other = true)
    (hl : (s.lane t).length < (s.lane t.other).length) : s.chosenTunnel = some t := by
  cases t <;> simp only [Tunnel.other] at h' hl <;> simp only [State.chosenTunnel, h, h']
  · rw [if_pos hl]
  · rw [if_neg (by omega), if_pos hl]

theorem chosenTunnel_of_equal {s : State} {t : Tunnel} (h : s.eligible t = true) (h' : s.eligible t.other = true)
    (hl : (s.lane t).length = (s.lane t.other).length)
    (hc : s.lastChosen = some t.other ∨ (s.lastChosen = none ∧ t = .a)) : s.chosenTunnel = some t := by
  have hab : (s.lane .a).length = (s.lane .b).length := by
    cases t
    · exact hl
    · exact hl.symm
  cases t <;> simp only [Tunnel.other] at h' hc
  all_goals
    simp only [State.chosenTunnel, h, h']
    rw [if_neg (by omega), if_neg (by omega)]
  · rcases hc with hc | ⟨hc, -⟩
    · rw [hc]
      rfl
    · rw [hc]
  · rcases hc with hc | ⟨-, hc⟩
    · rw [hc]
      rfl
    · cases hc

/-- Settles O37: the conditions of eligibility one by one, and the cases of the choice. -/
theorem tunnelChoice : Obligations.TunnelChoice := by
  rintro t first s rfl
  refine ⟨?_, fun h h' => ?_, chosenTunnel_of_one, chosenTunnel_of_shorter, chosenTunnel_of_equal⟩
  · have hfirst : (if (s.config.enables.get t).pre then Stage.pre else if (s.config.enables.get t).wash then .wash
        else if (s.config.enables.get t).rinse then .rinse else .final) = s.entryStage t := rfl
    have hcap (st : Stage) : (if st = .pre ∨ st = .wash then 2 else 1) = st.capacity := by cases st <;> rfl
    have hspacing : (∀ x ∈ (s.lastAdmission.get t).toList, s.config.spacing ≤ (s.now - x).toNat) ↔
        s.spacingPassed t = true := by
      unfold State.spacingPassed
      cases s.lastAdmission.get t with
      | none => simp
      | some x =>
        simp only [Option.toList_some, List.mem_singleton, forall_eq]
        exact decide_eq_true_iff.symm
    have hbooster : (s.config.boosterWindow = 0 ∨
        (s.boosterHistory.filter fun x => decide ((s.now - x).toNat < s.config.boosterWindow)).length <
          s.config.boosterCount) ↔ s.boosterAllows = true := by
      rw [State.boosterAllows, Bool.or_eq_true, decide_eq_true_eq, decide_eq_true_eq]
      rfl
    rw [hfirst, hcap, hspacing, hbooster, ← anyBefore_eq_false_iff]
    simp only [State.eligible, State.admits, State.laneTakes, Bool.and_eq_true, Bool.or_eq_true, decide_eq_true_eq,
      Bool.not_eq_true', and_assoc]
    rfl
  · cases t <;> simp only [Tunnel.other] at h' <;> simp only [State.chosenTunnel, h, h']

end Sys2Proof.Proofs.Reads
end

section
/-! The Rack Table as a list: what a record put at the tail, changed in place, added or taken out does to lookups, to
the law of the table (R1 to R4, R34) and to the counts of the places. -/

namespace Sys2Proof.Proofs.Tables

open Sys2Proof.Machine

/-! ### Records by tag -/

/-- No tag twice. -/
abbrev Tags (l : List Rack) : Prop := (l.map (·.tag)).Nodup

/-- The list with the record of a tag changed in place. -/
def edited (l : List Rack) (tag : Nat) (f : Rack → Rack) : List Rack := l.map fun x => if x.tag = tag then f x else x

theorem eq_of_tag {l : List Rack} (h : Tags l) {r x : Rack} (hr : r ∈ l) (hx : x ∈ l) (ht : x.tag = r.tag) : x = r :=
  List.inj_on_of_nodup_map h hx hr ht

theorem mem_rejoined {l : List Rack} {r x : Rack} : x ∈ rejoined l r ↔ (x ∈ l ∧ x.tag ≠ r.tag) ∨ x = r := by
  simp [rejoined]

theorem mem_edited {l : List Rack} {tag : Nat} {f : Rack → Rack} {x : Rack} (h : x ∈ edited l tag f) :
    (x ∈ l ∧ x.tag ≠ tag) ∨ ∃ y ∈ l, y.tag = tag ∧ x = f y := by
  obtain ⟨y, hy, rfl⟩ := List.mem_map.mp h
  split
  · exact .inr ⟨y, hy, ‹_›, rfl⟩
  · exact .inl ⟨hy, ‹_›⟩

theorem filter_of_absent {l : List Rack} {tag : Nat} (h : ∀ x ∈ l, x.tag ≠ tag) : l.filter (·.tag ≠ tag) = l :=
  List.filter_eq_self.mpr fun x hx => decide_eq_true (h x hx)

theorem rejoined_of_absent {l : List Rack} {r : Rack} (h : ∀ x ∈ l, x.tag ≠ r.tag) : rejoined l r = l ++ [r] := by
  rw [rejoined, filter_of_absent h]

theorem edited_of_absent {l : List Rack} {tag : Nat} {f : Rack → Rack} (h : ∀ x ∈ l, x.tag ≠ tag) :
    edited l tag f = l :=
  (List.map_congr_left fun x hx => if_neg (h x hx)).trans (List.map_id'' (fun _ => rfl) l)

theorem absent_of_tags_cons {x : Rack} {xs : List Rack} (h : Tags (x :: xs)) : ∀ y ∈ xs, y.tag ≠ x.tag := by
  rw [Tags, List.map_cons, List.nodup_cons] at h
  exact fun y hy e => h.1 (e ▸ List.mem_map_of_mem hy)

theorem tags_of_cons {x : Rack} {xs : List Rack} (h : Tags (x :: xs)) : Tags xs := by
  rw [Tags, List.map_cons, List.nodup_cons] at h
  exact h.2

/-! ### Counting -/

/-- Without the record of a tag there is one record less. -/
theorem countP_without {l : List Rack} (h : Tags l) {r : Rack} (hr : r ∈ l) (P : Rack → Bool) :
    (l.filter (·.tag ≠ r.tag)).countP P + (if P r then 1 else 0) = l.countP P := by
  induction l with
  | nil => cases hr
  | cons x xs ih =>
    rcases List.mem_cons.mp hr with rfl | hr'
    · rw [List.filter_cons_of_neg (by simp), filter_of_absent (absent_of_tags_cons h), List.countP_cons]
    · have hne : x.tag ≠ r.tag := (absent_of_tags_cons h r hr').symm
      have := ih (tags_of_cons h) hr'
      rw [List.filter_cons_of_pos (by simpa using hne), List.countP_cons, List.countP_cons]
      omega

theorem countP_rejoined {l : List Rack} (h : Tags l) {r r' : Rack} (hr : r ∈ l) (ht : r'.tag = r.tag)
    (P : Rack → Bool) :
    (rejoined l r').countP P + (if P r then 1 else 0) = l.countP P + (if P r' then 1 else 0) := by
  rw [rejoined, List.countP_append, List.countP_singleton, ht, ← countP_without h hr P]
  omega

theorem countP_edited {l : List Rack} (h : Tags l) {r : Rack} (hr : r ∈ l) (f : Rack → Rack) (P : Rack → Bool) :
    (edited l r.tag f).countP P + (if P r then 1 else 0) = l.countP P + (if P (f r) then 1 else 0) := by
  induction l with
  | nil => cases hr
  | cons x xs ih =>
    rw [edited, List.map_cons, ← edited]
    rcases List.mem_cons.mp hr with rfl | hr'
    · rw [if_pos rfl, edited_of_absent (absent_of_tags_cons h), List.countP_cons, List.countP_cons]
      omega
    · rw [if_neg (absent_of_tags_cons h r hr').symm, List.countP_cons, List.countP_cons]
      have := ih (tags_of_cons h) hr'
      omega

theorem length_without {l : List Rack} (h : Tags l) {r : Rack} (hr : r ∈ l) :
    (l.filter (·.tag ≠ r.tag)).length + 1 = l.length := by
  simpa using countP_without h hr fun _ => true

theorem length_rejoined {l : List Rack} (h : Tags l) {r r' : Rack} (hr : r ∈ l) (ht : r'.tag = r.tag) :
    (rejoined l r').length = l.length := by
  rw [rejoined, List.length_append, ht, ← length_without h hr]
  rfl

/-! ### Tags and slots -/

theorem tags_rejoined {l : List Rack} (h : Tags l) (r : Rack) : Tags (rejoined l r) := by
  rw [Tags, rejoined, List.map_append, List.nodup_append]
  refine ⟨h.sublist (List.filter_sublist.map _), List.nodup_singleton _, ?_⟩
  simp only [List.mem_map, List.mem_filter, List.map_singleton, List.mem_singleton]
  rintro _ ⟨x, ⟨-, hx⟩, rfl⟩ _ rfl
  exact of_decide_eq_true hx

theorem slots_rejoined {l : List Rack} (h : (l.map (·.slot)).Nodup) {r : Rack}
    (hs : ∀ x ∈ l, x.tag ≠ r.tag → x.slot ≠ r.slot) : ((rejoined l r).map (·.slot)).Nodup := by
  rw [rejoined, List.map_append, List.nodup_append]
  refine ⟨h.sublist (List.filter_sublist.map _), List.nodup_singleton _, ?_⟩
  simp only [List.mem_map, List.mem_filter, List.map_singleton, List.mem_singleton]
  rintro _ ⟨x, ⟨hm, hx⟩, rfl⟩ _ rfl
  exact hs x hm (of_decide_eq_true hx)

theorem map_edited {α : Type} {l : List Rack} {tag : Nat} {f : Rack → Rack} {g : Rack → α}
    (h : ∀ x ∈ l, x.tag = tag → g (f x) = g x) : (edited l tag f).map g = l.map g := by
  rw [edited, List.map_map]
  refine List.map_congr_left fun x hx => ?_
  simp only [Function.comp_apply]
  split
  · exact h x hx ‹_›
  · rfl

/-! ### Lookups -/

/-- The record of a tag in a list. -/
def lookup (l : List Rack) (tag : Nat) : Option Rack := l.find? (·.tag = tag)

theorem lookup_without {l : List Rack} {tag tag' : Nat} (h : tag' ≠ tag) :
    lookup (l.filter (·.tag ≠ tag)) tag' = lookup l tag' := by
  rw [lookup, lookup, List.find?_filter]
  congr 1
  funext x
  by_cases hx : x.tag = tag' <;> simp [hx, h]

theorem lookup_rejoined {l : List Rack} {r : Rack} {tag : Nat} (h : tag ≠ r.tag) :
    lookup (rejoined l r) tag = lookup l tag := by
  rw [← lookup_without (l := l) h, rejoined, lookup, List.find?_append, List.find?_singleton,
    decide_eq_false h.symm, lookup]
  simp

theorem lookup_edited {l : List Rack} {f : Rack → Rack} {tag : Nat} (tag' : Nat)
    (hf : ∀ x ∈ l, x.tag = tag → (f x).tag = tag) :
    lookup (edited l tag f) tag' = (lookup l tag').map fun x => if x.tag = tag then f x else x := by
  induction l with
  | nil => rfl
  | cons x xs ih =>
    have hi := ih fun y hy => hf y (List.mem_cons_of_mem _ hy)
    rw [lookup, edited] at hi ⊢
    rw [lookup] at hi ⊢
    rw [List.map_cons, List.find?_cons, List.find?_cons, hi]
    have htag : (if x.tag = tag then f x else x).tag = x.tag := by
      split
      · rename_i hx
        rw [hf x List.mem_cons_self hx, hx]
      · rfl
    rw [htag]
    cases decide (x.tag = tag') <;> rfl

theorem lookup_of_mem {l : List Rack} (h : Tags l) {r : Rack} (hr : r ∈ l) : lookup l r.tag = some r :=
  State.rack?_of_mem (s := { State.reset with racks := l }) h hr

/-! ### The law of the table -/

/-- The law of the Rack Table, but for the pending admission's rack (R1, R2, R4, R34). -/
structure TableLaw (s : State) : Prop where
  tags : Tags s.racks
  slots : (s.racks.map (·.slot)).Nodup
  load : s.tableLoad ≤ Config.tableSlots
  sound : ∀ r ∈ s.racks, r.sound = true

theorem recordLaw_iff (s : State) : s.recordLaw ↔ TableLaw s ∧ s.pendingSound = true :=
  ⟨fun ⟨h1, h2, h3, h4, h5⟩ => ⟨⟨h1, h2, h3, h4⟩, h5⟩, fun ⟨⟨h1, h2, h3, h4⟩, h5⟩ => ⟨h1, h2, h3, h4, h5⟩⟩

/-- The pending admission of `s'` is that of `s`, or gone. -/
abbrev KeepsPending (s s' : State) : Prop :=
  s'.pendingAdmission = none ∨ s'.pendingAdmission = s.pendingAdmission

/-- The slots that the pending admission reserves. -/
def reserved (s : State) : Nat := if (s.pendingAdmission.bind (·.enrol)).isSome then 1 else 0

theorem tableLoad_eq (s : State) : s.tableLoad = s.racks.length + reserved s := by
  rw [State.tableLoad, reserved]
  rcases s.pendingAdmission with _ | ⟨_, _, _ | _⟩ <;> rfl

theorem reserved_le {s s' : State} (h : KeepsPending s s') : reserved s' ≤ reserved s := by
  rcases h with h | h
  · rw [reserved, h]
    exact Nat.zero_le _
  · rw [reserved, reserved, h]

theorem tableLoad_le {s s' : State} (hp : KeepsPending s s') (hl : s'.racks.length ≤ s.racks.length) :
    s'.tableLoad ≤ s.tableLoad := by
  have := reserved_le hp
  rw [tableLoad_eq, tableLoad_eq]
  omega

/-- With fewer than 160 records a slot is free, and the lowest free one is below 160 (R2). -/
theorem freeSlot_free {s : State} (h : s.racks.length < Config.tableSlots) :
    s.freeSlot < Config.tableSlots ∧ ∀ x ∈ s.racks, x.slot ≠ s.freeSlot := by
  unfold State.freeSlot
  cases hf : (List.range Config.tableSlots).find? fun n => s.racks.all (·.slot ≠ n) with
  | none =>
    rw [List.find?_eq_none] at hf
    have hsub : List.range Config.tableSlots ⊆ s.racks.map (·.slot) := fun n hn => by
      have := hf n hn
      simp only [List.all_eq_true, decide_eq_true_eq, not_forall, not_not] at this
      obtain ⟨r, hr, rfl⟩ := this
      exact List.mem_map_of_mem hr
    have := (List.subperm_of_subset List.nodup_range hsub).length_le
    rw [List.length_range, List.length_map] at this
    omega
  | some n =>
    have hall : (s.racks.all fun x => decide (x.slot ≠ n)) = true :=
      List.find?_some (p := fun n => s.racks.all fun x => decide (x.slot ≠ n)) hf
    exact ⟨List.mem_range.mp (List.mem_of_find?_eq_some hf), fun x hx =>
      of_decide_eq_true (List.all_eq_true.mp hall x hx)⟩

section

variable {s s' : State} (h : TableLaw s) (hp : KeepsPending s s')

include h hp

theorem TableLaw.of_racks (hr : s'.racks = s.racks) : TableLaw s' where
  tags := hr ▸ h.tags
  slots := hr ▸ h.slots
  load := (tableLoad_le hp (by rw [hr])).trans h.load
  sound := hr ▸ h.sound

theorem TableLaw.rejoined {r r' : Rack} (hr : r ∈ s.racks) (ht : r'.tag = r.tag) (hs : r'.slot = r.slot)
    (hsound : r'.sound = true) (he : s'.racks = rejoined s.racks r') : TableLaw s' where
  tags := he ▸ tags_rejoined h.tags r'
  slots := he ▸ slots_rejoined h.slots fun x hx hne e =>
    hne (ht ▸ congrArg (·.tag) (List.inj_on_of_nodup_map h.slots hx hr (e.trans hs)))
  load := (tableLoad_le hp (by rw [he, length_rejoined h.tags hr ht])).trans h.load
  sound := by
    rw [he]
    intro x hx
    rcases mem_rejoined.mp hx with ⟨hx, -⟩ | rfl
    · exact h.sound x hx
    · exact hsound

theorem TableLaw.without {tag : Nat} (he : s'.racks = s.racks.filter (·.tag ≠ tag)) : TableLaw s' where
  tags := he ▸ h.tags.sublist (List.filter_sublist.map _)
  slots := he ▸ h.slots.sublist (List.filter_sublist.map _)
  load := (tableLoad_le hp (by rw [he]; exact List.length_filter_le _ _)).trans h.load
  sound := he ▸ fun x hx => h.sound x (List.mem_filter.mp hx).1

theorem TableLaw.edited {tag : Nat} {f : Rack → Rack} (he : s'.racks = edited s.racks tag f)
    (hf : ∀ x ∈ s.racks, x.tag = tag → (f x).tag = x.tag ∧ (f x).slot = x.slot ∧ (f x).sound = true) :
    TableLaw s' where
  tags := by
    rw [he, Tags, map_edited fun x hx ht => (hf x hx ht).1]
    exact h.tags
  slots := by
    rw [he, map_edited fun x hx ht => (hf x hx ht).2.1]
    exact h.slots
  load := (tableLoad_le hp (by rw [he, Tables.edited, List.length_map])).trans h.load
  sound := by
    rw [he]
    intro x hx
    rcases mem_edited hx with ⟨hx, -⟩ | ⟨y, hy, ht, rfl⟩
    · exact h.sound x hx
    · exact (hf y hy ht).2.2

end

theorem TableLaw.added {s s' : State} (h : TableLaw s) {r : Rack} (ha : ∀ x ∈ s.racks, x.tag ≠ r.tag)
    (hs : r.slot = s.freeSlot)
    (hl : s.racks.length + reserved s' < Config.tableSlots) (hsound : r.sound = true)
    (he : s'.racks = Machine.rejoined s.racks r) : TableLaw s' where
  tags := he ▸ tags_rejoined h.tags r
  slots := he ▸ slots_rejoined h.slots fun x hx _ => by
    rw [hs]
    exact (freeSlot_free (by omega)).2 x hx
  load := by
    rw [tableLoad_eq, he, rejoined_of_absent ha, List.length_append, List.length_singleton]
    omega
  sound := by
    rw [he]
    intro x hx
    rcases mem_rejoined.mp hx with ⟨hx, -⟩ | rfl
    · exact h.sound x hx
    · exact hsound

/-! ### The pending admission -/

/-- The pending admission stays sound while its tag's record is found as before, as far as it may be admitted. -/
theorem pendingSound_of_lookup {s s' : State} (h : s.pendingSound = true)
    (hq : ∀ q, s'.pendingAdmission = some q → s.pendingAdmission = some q ∧
      (s'.rack? q.tag).map (·.admissible) = (s.rack? q.tag).map (·.admissible)) : s'.pendingSound = true := by
  unfold State.pendingSound at h ⊢
  cases hp : s'.pendingAdmission with
  | none => rfl
  | some q =>
    obtain ⟨hs, hr⟩ := hq q hp
    rw [hs] at h
    rw [Bool.and_eq_true] at h ⊢
    refine ⟨h.1, ?_⟩
    have h2 := h.2
    revert h2 hr
    cases q.enrol <;> cases s.rack? q.tag <;> cases s'.rack? q.tag <;> simp_all

theorem pendingSound_of_none {s : State} (h : s.pendingAdmission = none) : s.pendingSound = true := by
  rw [State.pendingSound, h]

/-- What a sound pending admission is: of a tag that is not in the table with a deferred enrolment, and of a rack that
may be admitted without one. -/
theorem pendingSound_iff {s : State} {q : PendingAdmission} (hq : s.pendingAdmission = some q) :
    s.pendingSound = true ↔ isTag q.tag = true ∧
      ((q.enrol.isSome = true ∧ s.rack? q.tag = none) ∨
        (q.enrol = none ∧ ∃ r, s.rack? q.tag = some r ∧ r.admissible = true)) := by
  rw [State.pendingSound, hq, Bool.and_eq_true]
  refine and_congr_right fun _ => ?_
  cases q.enrol <;> cases s.rack? q.tag <;> simp

/-- The pending admission is not of a rack that may not be admitted. -/
theorem pending_tag_ne {s : State} (h : s.recordLaw) {q : PendingAdmission} (hq : s.pendingAdmission = some q)
    {r : Rack} (hr : r ∈ s.racks) (ha : r.admissible = false) : q.tag ≠ r.tag := by
  obtain ⟨ht, hp⟩ := (recordLaw_iff s).mp h
  intro e
  have hlookup : s.rack? q.tag = some r := e ▸ State.rack?_of_mem ht.tags hr
  rw [pendingSound_iff hq, hlookup] at hp
  rcases hp with ⟨-, ⟨-, hn⟩ | ⟨-, x, hx, hxa⟩⟩
  · cases hn
  · cases hx
    rw [ha] at hxa
    cases hxa

theorem admissible_iff (r : Rack) : r.admissible = true ↔
    (r.state = .soiled ∧ r.place = .collect) ∨ (r.state = .held ∧ r.place = .unknown) := by
  simp only [Rack.admissible, Bool.or_eq_true, Bool.and_eq_true, decide_eq_true_eq]

theorem not_admissible_of_place {r : Rack} (hc : r.place ≠ .collect) (hu : r.place ≠ .unknown) :
    r.admissible = false := by
  rw [← Bool.not_eq_true, admissible_iff]
  rintro (⟨-, h⟩ | ⟨-, h⟩)
  · exact hc h
  · exact hu h

/-! ### Sound records -/

/-- The rack stands in no lane. -/
abbrev OffLane (r : Rack) : Prop := ∀ t, r.place ≠ .tunnel t

/-- What `Rack.sound` says, taken apart. -/
structure SoundRack (r : Rack) : Prop where
  tag : isTag r.tag = true
  slot : r.slot < Config.tableSlots
  placed : r.placed = true
  outcome : r.outcomeFits = true
  inLane : ∀ t, r.place = .tunnel t → ∃ p, r.sheet = some p ∧ p.fits t = true
  offLane : OffLane r → r.sheet = none
  destination : r.place ≠ .returnLoop → r.destination = none
  passes : r.passes ≤ 3
  cycles : r.cycles ≤ Config.maxCycles

theorem sound_iff (r : Rack) : r.sound = true ↔ SoundRack r := by
  have hd : (r.destination.isNone || decide (r.place = .returnLoop)) = true ↔
      (r.place ≠ .returnLoop → r.destination = none) := by
    rw [Bool.or_eq_true, Option.isNone_iff_eq_none, decide_eq_true_eq, or_comm, or_iff_not_imp_left]
  constructor
  · intro h
    simp only [Rack.sound, Bool.and_eq_true, decide_eq_true_eq, hd] at h
    obtain ⟨⟨⟨⟨⟨⟨⟨htag, hslot⟩, hplaced⟩, hout⟩, hsheet⟩, hdest⟩, hpasses⟩, hcycles⟩ := h
    refine ⟨htag, hslot, hplaced, hout, fun t ht => ?_, fun ho => ?_, hdest, hpasses, hcycles⟩
    · split at hsheet
      · rename_i t' p ht' hp
        cases ht.symm.trans ht'
        exact ⟨p, hp, hsheet⟩
      · cases hsheet
      · cases hsheet
      · rename_i hne
        exact absurd ht (hne t)
    · split at hsheet
      · exact absurd ‹r.place = _› (ho _)
      · cases hsheet
      · cases hsheet
      · assumption
  · rintro ⟨htag, hslot, hplaced, hout, hin, hoff, hdest, hpasses, hcycles⟩
    simp only [Rack.sound, Bool.and_eq_true, decide_eq_true_eq, hd]
    refine ⟨⟨⟨⟨⟨⟨⟨htag, hslot⟩, hplaced⟩, hout⟩, ?_⟩, hdest⟩, hpasses⟩, hcycles⟩
    split
    · rename_i t p ht hp
      obtain ⟨p', hp', hf⟩ := hin t ht
      cases hp.symm.trans hp'
      exact hf
    · rename_i t ht hp
      obtain ⟨p', hp', -⟩ := hin t ht
      cases hp.symm.trans hp'
    · rename_i p hp hne
      cases hp.symm.trans (hoff hne)
    · rfl

/-! ### Destinations -/

/-- `b` is `a` but for its destination, which only a rack on RETURN can have changed. -/
def Rerouted (a b : Rack) : Prop :=
  ∃ d, b = { a with destination := d } ∧ (a.place ≠ .returnLoop → d = a.destination)

theorem Rerouted.refl (a : Rack) : Rerouted a a := ⟨a.destination, rfl, fun _ => rfl⟩

theorem Rerouted.trans {a b c : Rack} (h : Rerouted a b) (h' : Rerouted b c) : Rerouted a c := by
  obtain ⟨d, rfl, hd⟩ := h
  obtain ⟨d', rfl, hd'⟩ := h'
  exact ⟨d', rfl, fun hp => (hd' hp).trans (hd hp)⟩

/-- Racks of one list and of another with some destinations changed. -/
abbrev AllRerouted (l l' : List Rack) : Prop := List.Forall₂ Rerouted l l'

theorem AllRerouted.refl (l : List Rack) : AllRerouted l l := List.forall₂_same.mpr fun x _ => .refl x

theorem AllRerouted.trans {a b c : List Rack} (h : AllRerouted a b) (h' : AllRerouted b c) : AllRerouted a c := by
  induction h generalizing c with
  | nil => exact h'
  | cons hx _ ih =>
    cases h' with
    | cons hx' h' => exact .cons (hx.trans hx') (ih h')

theorem allRerouted_edited {l : List Rack} {tag : Nat} {d : Option Window}
    (h : ∀ x ∈ l, x.tag = tag → x.place = .returnLoop) :
    AllRerouted l (edited l tag fun x => { x with destination := d }) := by
  rw [edited, AllRerouted, List.forall₂_map_right_iff, List.forall₂_same]
  intro x hx
  split
  · exact ⟨d, rfl, fun hne => absurd (h x hx ‹_›) hne⟩
  · exact .refl x

/-- A function of a rack that does not look at its destination. -/
theorem AllRerouted.map_eq {l l' : List Rack} (h : AllRerouted l l') {α : Type} {g : Rack → α}
    (hg : ∀ a d, g { a with destination := d } = g a) : l'.map g = l.map g := by
  induction h with
  | nil => rfl
  | cons hx _ ih =>
    obtain ⟨d, rfl, -⟩ := hx
    rw [List.map_cons, List.map_cons, ih, hg]

theorem AllRerouted.mem {l l' : List Rack} (h : AllRerouted l l') {b : Rack} (hb : b ∈ l') :
    ∃ a ∈ l, Rerouted a b := by
  induction h with
  | nil => cases hb
  | cons hx _ ih =>
    rcases List.mem_cons.mp hb with rfl | hb
    · exact ⟨_, List.mem_cons_self, hx⟩
    · obtain ⟨a, ha, hr⟩ := ih hb
      exact ⟨a, List.mem_cons_of_mem _ ha, hr⟩

theorem AllRerouted.countP_eq {l l' : List Rack} (h : AllRerouted l l') {P : Rack → Bool}
    (hP : ∀ a d, P { a with destination := d } = P a) : l'.countP P = l.countP P := by
  have := congrArg (List.countP id) (h.map_eq hP)
  rwa [List.countP_map, List.countP_map] at this

/-- The racks of a place but RETURN are the same. -/
theorem AllRerouted.filter_place {l l' : List Rack} (h : AllRerouted l l') {p : Place} (hp : p ≠ .returnLoop) :
    l'.filter (·.place = p) = l.filter (·.place = p) := by
  induction h with
  | nil => rfl
  | cons hx _ ih =>
    obtain ⟨d, rfl, hd⟩ := hx
    rw [List.filter_cons, List.filter_cons, ih]
    simp only [decide_eq_true_eq]
    refine if_ctx_congr Iff.rfl (fun hpl => ?_) fun _ => rfl
    rw [hd (hpl ▸ hp)]

theorem AllRerouted.lookup {l l' : List Rack} (h : AllRerouted l l') {α : Type} {g : Rack → α}
    (hg : ∀ a d, g { a with destination := d } = g a) (tag : Nat) :
    (Tables.lookup l' tag).map g = (Tables.lookup l tag).map g := by
  induction h with
  | nil => rfl
  | @cons a b l l' hx _ ih =>
    obtain ⟨d, rfl, -⟩ := hx
    rw [Tables.lookup, Tables.lookup, List.find?_cons, List.find?_cons]
    cases decide (a.tag = tag)
    · exact ih
    · exact congrArg some (hg a d)

theorem sound_rerouted {a b : Rack} (h : Rerouted a b) (ha : a.sound = true) : b.sound = true := by
  obtain ⟨d, rfl, hd⟩ := h
  have hs := (sound_iff a).mp ha
  exact (sound_iff _).mpr ⟨hs.tag, hs.slot, hs.placed, hs.outcome, hs.inLane, hs.offLane,
    fun hp => (hd hp).trans (hs.destination hp), hs.passes, hs.cycles⟩

theorem TableLaw.rerouted {s s' : State} (h : TableLaw s) (hp : KeepsPending s s')
    (hr : AllRerouted s.racks s'.racks) : TableLaw s' where
  tags := by
    rw [Tags, hr.map_eq fun _ _ => rfl]
    exact h.tags
  slots := by
    rw [hr.map_eq fun _ _ => rfl]
    exact h.slots
  load := (tableLoad_le hp hr.length_eq.ge).trans h.load
  sound := fun b hb => by
    obtain ⟨a, ha, hab⟩ := hr.mem hb
    exact sound_rerouted hab (h.sound a ha)

end Sys2Proof.Proofs.Tables
end

section
/-! What an event can do to the Rack Table, the windows, the tunnels and the pending admission: a list of acts, each
with
the conditions under which the model takes it, such that every event is a chain of them. An invariant is then a property
that every act keeps. -/

namespace Sys2Proof.Proofs.Acts

open Sys2Proof.Machine Sys2Proof.Proofs.Tables

/-! ### Acts -/

/-- The part of a tunnel's context that its law speaks of (table 4.1). -/
def timersOf (c : TunnelContext) : TunnelState × Option Tick × Option Tick × Option Tick × Option Tick :=
  (c.state, c.idleStart, c.economyStart, c.restartTimer, c.flushTimer)

/-- `e'` is `e` but for parts of the state that the laws of racks, places, demand and tunnels do not speak of. -/
structure Same (e e' : Event) : Prop where
  racks : e'.racks = e.racks
  windows : e'.windows = e.windows
  demand : e'.demand = e.demand
  pending : e'.pendingAdmission = e.pendingAdmission
  timers : ∀ t, timersOf (e'.tunnels.get t) = timersOf (e.tunnels.get t)
  pairing : e.wantPairing = true → e'.wantPairing = true

/-- `r'` is `r` but for what may be written at its move: outcome, load code, passes, cycles and service due. -/
structure Alike (r r' : Rack) : Prop where
  tag : r'.tag = r.tag
  slot : r'.slot = r.slot
  cls : r'.cls = r.cls
  baseLevel : r'.baseLevel = r.baseLevel
  isProtected : r'.isProtected = r.isProtected
  place : r'.place = r.place
  destination : r'.destination = r.destination
  sheet : r'.sheet = r.sheet
  passes : r'.passes ≤ 3
  cycles : r'.cycles ≤ Config.maxCycles

/-- A place that a rack outside the lanes can be moved to by DISPATCH, EMPTIED and RELOCATE, with its state there; HOLD
with a cause. -/
inductive Goes : RackState → Place → Option HoldCause → Prop
  | collect : Goes .soiled .collect none
  | hold (c : HoldCause) : Goes .held .hold (some c)
  | store : Goes .empty .store none
  | returnLoop : Goes .empty .returnLoop none

/-- A rack that SIGHT can take at `w` (R151): on its route, or against an entry. -/
inductive Offered (e : Event) (w : Window) (r : Rack) : Bool → Prop
  | routed : r.place = .returnLoop → r.destination = some w → Offered e w r false
  | unassigned : r.place = .returnLoop → r.destination = none → e.toState.entriesOf w ≠ [] → Offered e w r true
  | stored : r.place = .store → e.toState.entriesOf w ≠ [] → Offered e w r true

/-- The last six clauses of the law of a tunnel: its state against its lane and its timers (table 4.1). -/
abbrev TimersFit (c : TunnelContext) (lane : List Rack) : Prop :=
  (c.state.laneless = true → lane = []) ∧ (c.state = .closing → lane ≠ []) ∧
    (c.idleStart.isSome = true ↔ (c.state = .ready ∨ c.state = .running) ∧ lane = []) ∧
    (c.economyStart.isSome = true ↔ c.state = .economy) ∧
    (c.restartTimer.isSome = true ↔ c.state = .restarting) ∧
    (c.flushTimer.isSome = true ↔ c.state = .flushing)

/-- The rack of this tag stood in FINAL of `t`. -/
def StoodInFinal (s : State) (t : Tunnel) (tag : Nat) : Prop :=
  ∃ r ∈ s.racks, r.tag = tag ∧ r.place = .tunnel t ∧ r.inFinal = true

/-- A change of the pass sheet of the rack `r` of the lane of `t` that is no advance: a verdict is new only on a rack
that stood in FINAL. -/
structure SheetKept (s₀ : State) (t : Tunnel) (r : Rack) (f : PassSheet → PassSheet) : Prop where
  fits : ∀ p, r.sheet = some p → p.fits t = true → (f p).fits t = true
  stage : ∀ p, r.sheet = some p → (f p).stage = p.stage
  verdict : ∀ p, r.sheet = some p → (f p).verdict ≠ none → p.verdict ≠ none ∨ StoodInFinal s₀ t r.tag

/-- An act of an event of a command that began in state `s₀`. -/
inductive Act (s₀ : State) : Event → Event → Prop
  | same {e e' : Event} : Same e e' → Act s₀ e e'
  | moved {e : Event} {r r' : Rack} {st : RackState} {p : Place} {cause : Option HoldCause} : r ∈ e.racks → OffLane r →
    Alike r r' → Goes st p cause → e.toState.hasRoom p = true →
    Act s₀ e ((e.move r' st p cause).cancelPending r.tag)
  | retired {e : Event} {r : Rack} : r ∈ e.racks → OffLane r → Act s₀ e (e.retireRack r)
  | taken {e : Event} {w : Window} {r : Rack} {b : Bool} {st : RackState} {p : Place} : r ∈ e.racks →
    Offered e w r b → e.toState.freePosition w = some (st, p) →
    Act s₀ e ((if b then e.consumeEntry w else e).join (r.moved st p none e.now))
  | enrolledAt {e : Event} {w : Window} {tag : Nat} {a : EnrolAttributes} {st : RackState} {p : Place} :
    isTag tag = true → s₀.rack? tag = none → e.toState.rack? tag = none → e.toState.tableLoad < Config.tableSlots →
    e.toState.entriesOf w ≠ [] → e.toState.freePosition w = some (st, p) →
    Act s₀ e ((e.consumeEntry w).enrol tag a st p)
  | enrolledOnReturn {e : Event} {tag : Nat} {a : EnrolAttributes} : isTag tag = true → s₀.rack? tag = none →
    e.toState.rack? tag = none → e.toState.tableLoad < Config.tableSlots → e.toState.hasRoom .returnLoop = true →
    Act s₀ e (e.enrol tag a .empty .returnLoop)
  | released {e : Event} {t : Tunnel} {r : Rack} {v : Verdict} {d : Destination} {cause : Option HoldCause} :
    e.toState.finalRack t = some r → r.sheet.bind (·.verdict) = some v →
    e.toState.gateDestination t v r.passes = some (d, cause) → Act s₀ e (e.release t r v d cause)
  | tornDown {e : Event} {t : Tunnel} : Act s₀ e (e.enterFault t)
  | mismatched {e : Event} {t : Tunnel} {p : Port} {tag : Nat} {r read : Rack} : e.toState.finalRack t = some r →
    e.toState.rack? tag = some read → read.place = .tunnel t → r.tag ≠ tag →
    Act s₀ e (e.exitMismatch t p tag).event
  | admitted {e : Event} {t : Tunnel} {r : Rack} : r ∈ e.racks → r.admissible = true → e.pendingAdmission = none →
    e.toState.eligible t = true → Act s₀ e (e.admitRack t r)
  | enrolledInLane {e : Event} {t : Tunnel} {tag : Nat} {a : EnrolAttributes} : isTag tag = true →
    s₀.rack? tag = none → e.toState.rack? tag = none → e.racks.length < Config.tableSlots →
    e.pendingAdmission = none → e.toState.eligible t = true → Act s₀ e (e.admitNew t tag a)
  | sheet {e : Event} {t : Tunnel} {r : Rack} {f : PassSheet → PassSheet} : r ∈ e.racks → r.place = .tunnel t →
    SheetKept s₀ t r f → Act s₀ e (e.modifySheet r.tag f)
  | advanced {e : Event} {t : Tunnel} {r : Rack} {p : PassSheet} {st : Stage} {x : Fragment} : r ∈ e.toState.lane t →
    r.sheet = some p → p.stage = st → st ≠ .final → e.toState.advanceRoom t r.tag (p.required.next st) = true →
    Act s₀ e (e.modifySheet r.tag fun p' => (p'.withFragment st x).enterStage (p.required.next st) e.now)
  | turned {e : Event} {t : Tunnel} {c : TunnelContext} {fresh : Bool} :
    (TimersFit (e.tunnels.get t) (e.toState.lane t) → TimersFit c (e.toState.lane t)) →
    (c.state = .flushing → (e.tunnels.get t.other).state ≠ .flushing) →
    Act s₀ e ((e.setTunnel t c).enter t c.state fresh)
  | becamePending {e : Event} {q : PendingAdmission} : e.pendingAdmission = none →
    (q.enrol ≠ none → s₀.rack? q.tag = none ∧ e.racks.length < Config.tableSlots) →
    State.pendingSound { e.toState with pendingAdmission := some q } = true →
    Act s₀ e { e with pendingAdmission := some q }
  | dropped {e : Event} : Act s₀ e e.dropPending
  | paired {e : Event} : Act s₀ e e.pair
  | modeSet {e : Event} {w : Window} {m : WindowMode} : Act s₀ e (e.setMode w m)
  | clsSet {e : Event} {w : Window} {k : RackClass} : Act s₀ e (e.setClass w k)

/-! ### What the shared operations leave of the table and of the pending admission -/

@[simp] theorem post_racks (e : Event) (w : Window) : (e.post w).racks = e.racks := by
  rcases e.post_cases w with ⟨-, h⟩ | ⟨-, h⟩ <;> rw [h]

@[simp] theorem post_pending (e : Event) (w : Window) : (e.post w).pendingAdmission = e.pendingAdmission := by
  rcases e.post_cases w with ⟨-, h⟩ | ⟨-, h⟩ <;> rw [h]

@[simp] theorem join_pending (e : Event) (r : Rack) : (e.join r).pendingAdmission = e.pendingAdmission := by
  rcases e.join_cases r with h | ⟨-, h⟩ | ⟨-, h⟩ <;> simp [h]

@[simp] theorem join_now (e : Event) (r : Rack) : (e.join r).now = e.now := by
  rcases e.join_cases r with h | ⟨-, h⟩ | ⟨-, h⟩ <;> simp [h]

@[simp] theorem swap_pending (e : Event) (w : Window) : (e.swap w).pendingAdmission = e.pendingAdmission := by
  rcases e.swap_cases w with h | ⟨r, -, -, h⟩ <;> simp [h]

@[simp] theorem noteStarved_racks (e : Event) (w : Window) : (e.noteStarved w).racks = e.racks := by
  rcases e.noteStarved_cases w with ⟨-, h⟩ | ⟨-, h⟩
  · rw [h]
    rfl
  · rw [h]

@[simp] theorem noteStarved_pending (e : Event) (w : Window) :
    (e.noteStarved w).pendingAdmission = e.pendingAdmission := by
  rcases e.noteStarved_cases w with ⟨-, h⟩ | ⟨-, h⟩
  · rw [h]
    rfl
  · rw [h]

/-- What a lane departure can do: end CLOSING, start the idle period, or nothing but ask for a re-evaluation. -/
theorem laneDeparted_cases (e : Event) (t : Tunnel) :
    (e.toState.lane t ≠ [] ∧ e.laneDeparted t = { e with wantReeval := true }) ∨
    (e.toState.lane t = [] ∧ (e.tunnels.get t).state = .closing ∧
      e.laneDeparted t = ({ e with wantReeval := true } : Event).enter t .off) ∨
    (e.toState.lane t = [] ∧ ((e.tunnels.get t).state = .ready ∨ (e.tunnels.get t).state = .running) ∧
      e.laneDeparted t = ({ e with wantReeval := true } : Event).setTunnel t
        { e.tunnels.get t with idleStart := some e.now }) ∨
    (e.toState.lane t = [] ∧ (e.tunnels.get t).state ≠ .closing ∧ (e.tunnels.get t).state ≠ .ready ∧
      (e.tunnels.get t).state ≠ .running ∧ e.laneDeparted t = { e with wantReeval := true }) := by
  by_cases h : e.toState.lane t = []
  · refine .inr ?_
    cases hst : (e.tunnels.get t).state
    case closing => exact .inl ⟨h, rfl, by simp [Event.laneDeparted, h, hst]⟩
    case ready | running => exact .inr (.inl ⟨h, by simp, by simp [Event.laneDeparted, h, hst]⟩)
    all_goals exact .inr (.inr ⟨h, by simp, by simp, by simp, by simp [Event.laneDeparted, h, hst]⟩)
  · exact .inl ⟨h, by simp [Event.laneDeparted, h]⟩

@[simp] theorem laneDeparted_racks (e : Event) (t : Tunnel) : (e.laneDeparted t).racks = e.racks := by
  rcases laneDeparted_cases e t with ⟨-, h⟩ | ⟨-, -, h⟩ | ⟨-, -, h⟩ | ⟨-, -, -, -, h⟩ <;> simp [h]

@[simp] theorem laneDeparted_pending (e : Event) (t : Tunnel) :
    (e.laneDeparted t).pendingAdmission = e.pendingAdmission := by
  rcases laneDeparted_cases e t with ⟨-, h⟩ | ⟨-, -, h⟩ | ⟨-, -, h⟩ | ⟨-, -, -, -, h⟩ <;> simp [h]

@[simp] theorem departed_pending (e : Event) (r : Rack) : (e.departed r).pendingAdmission = e.pendingAdmission := by
  unfold Event.departed
  split
  case h_1 | h_2 | h_7 => simp
  case h_6 => split <;> simp
  all_goals rfl

/-- A departure leaves the table as it is, but for the swap at a window's FILL (R41). -/
theorem departed_racks (e : Event) (r : Rack) :
    (e.departed r).racks = e.racks ∨ ∃ w x, r.place = .windowFill w ∧ e.toState.fillRack w = none ∧
      e.toState.spareRack w = some x ∧
      (e.departed r).racks = rejoined e.racks (x.moved .filling (.windowFill w) none e.now) := by
  unfold Event.departed
  split
  case h_1 w hw =>
    rcases e.swap_cases w with h | ⟨x, hf, hx, h⟩
    · exact .inl (by simp [h])
    · exact .inr ⟨w, x, hw, hf, hx, by simp [h]⟩
  case h_2 | h_7 => exact .inl (by simp)
  case h_6 =>
    left
    split <;> simp
  all_goals exact .inl rfl

theorem mem_of_spareRack {s : State} {w : Window} {x : Rack} (h : s.spareRack w = some x) :
    x ∈ s.racks ∧ x.place = .windowSpare w := by
  have := List.mem_of_mem_head? h
  simpa [State.members] using this

theorem mem_of_fillRack {s : State} {w : Window} {x : Rack} (h : s.fillRack w = some x) :
    x ∈ s.racks ∧ x.place = .windowFill w := by
  have := List.mem_of_mem_head? h
  simpa [State.members] using this

/-- The rack in FINAL of a lane is a member of it that stands in FINAL. -/
theorem mem_of_finalRack {s : State} {t : Tunnel} {x : Rack} (h : s.finalRack t = some x) :
    x ∈ s.racks ∧ x.place = .tunnel t ∧ x.inFinal = true := by
  have hm := List.mem_of_find?_eq_some h
  have hf := List.find?_some h
  simp only [State.lane, State.members, List.mem_filter, decide_eq_true_eq] at hm
  exact ⟨hm.1, hm.2, hf⟩

/-! ### Sound records after a move -/

theorem Alike.refl {r : Rack} (h : SoundRack r) : Alike r r :=
  ⟨rfl, rfl, rfl, rfl, rfl, rfl, rfl, rfl, h.passes, h.cycles⟩

/-- A move to a place that is no lane leaves a sound record, when state and outcome fit the place. -/
theorem sound_moved {r r' : Rack} (h : SoundRack r) (ha : Alike r r') {st : RackState} {p : Place}
    {cause : Option HoldCause} {now : Tick} (hp : ∀ t, p ≠ .tunnel t)
    (hplaced : (r'.moved st p cause now).placed = true) (hout : (r'.moved st p cause now).outcomeFits = true) :
    (r'.moved st p cause now).sound = true := by
  refine (sound_iff _).mpr ⟨?_, ?_, hplaced, hout, fun t ht => absurd ht (hp t), fun _ => ?_, fun _ => ?_, ha.passes,
    ha.cycles⟩
  · exact (congrArg isTag ha.tag).trans h.tag
  · exact ha.slot.symm ▸ h.slot
  · simp only [Rack.moved, ha.place, ha.sheet]
    split
    · rfl
    · exact h.offLane (by assumption)
  · simp only [Rack.moved, ha.place, ha.destination]
    split
    · rfl
    · exact h.destination ‹_›

theorem sound_goes {r r' : Rack} (h : SoundRack r) (ha : Alike r r') {st : RackState} {p : Place}
    {cause : Option HoldCause} {now : Tick} (hg : Goes st p cause) : (r'.moved st p cause now).sound = true := by
  cases hg <;> exact sound_moved h ha (fun _ => nofun) rfl rfl

end Sys2Proof.Proofs.Acts
end

section
/-! Every act keeps the law of the Rack Table (R1 to R4, R7, R10, R11, R34, R35). -/

namespace Sys2Proof.Proofs.ActsKeepTheTable

open Sys2Proof.Machine Sys2Proof.Proofs.Tables Sys2Proof.Proofs.Acts

/-- The law of the Rack Table in an event of a command that began in `s₀`, and no deferred enrolment of a tag that the
table held then. -/
structure Lawful (s₀ : State) (e : Event) : Prop where
  law : e.toState.recordLaw
  fresh : ∀ q, e.pendingAdmission = some q → q.enrol ≠ none → s₀.rack? q.tag = none

variable {s₀ : State} {e e' : Event}

theorem Lawful.table (h : Lawful s₀ e) : TableLaw e.toState := ((recordLaw_iff _).mp h.law).1

theorem Lawful.tags (h : Lawful s₀ e) : Tags e.racks := h.table.tags

theorem Lawful.soundRack (h : Lawful s₀ e) {r : Rack} (hr : r ∈ e.racks) : SoundRack r :=
  (sound_iff r).mp (h.table.sound r hr)

/-- The law is kept by what keeps the table's own and leaves the pending admission, or ends it. -/
theorem Lawful.of_table (h : Lawful s₀ e) (ht : TableLaw e'.toState)
    (hq : ∀ q, e'.pendingAdmission = some q → e.pendingAdmission = some q ∧
      (e'.toState.rack? q.tag).map (·.admissible) = (e.toState.rack? q.tag).map (·.admissible)) : Lawful s₀ e' where
  law := (recordLaw_iff _).mpr ⟨ht, pendingSound_of_lookup ((recordLaw_iff _).mp h.law).2 hq⟩
  fresh := fun q hp he => h.fresh q (hq q hp).1 he

theorem Lawful.of_racks (h : Lawful s₀ e) (hr : e'.racks = e.racks) (hp : KeepsPending e.toState e'.toState) :
    Lawful s₀ e' := by
  refine h.of_table (h.table.of_racks hp hr) fun q hq => ?_
  have hlookup : e'.toState.rack? q.tag = e.toState.rack? q.tag := congrArg (lookup · q.tag) hr
  rw [hlookup]
  rcases hp with hp | hp
  · rw [hq] at hp
    cases hp
  · exact ⟨hp ▸ hq, rfl⟩

/-! ### Cancelling -/

@[simp] theorem cancelPending_racks (e : Event) (tag : Nat) : (e.cancelPending tag).racks = e.racks := by
  rcases e.cancelPending_cases tag with ⟨q, -, -, h⟩ | ⟨-, h⟩
  · rw [h]
    rfl
  · rw [h]

theorem pending_of_cancelPending {e : Event} {tag : Nat} {q : PendingAdmission}
    (h : (e.cancelPending tag).pendingAdmission = some q) : e.pendingAdmission = some q ∧ q.tag ≠ tag := by
  rcases e.cancelPending_cases tag with ⟨q', -, -, he⟩ | ⟨hn, he⟩
  · rw [he] at h
    cases h
  · rw [he] at h
    refine ⟨h, fun ht => hn ?_⟩
    rw [h, Option.map_some, ht]

theorem keepsPending_cancelPending (e : Event) (tag : Nat) : KeepsPending e.toState (e.cancelPending tag).toState := by
  rcases e.cancelPending_cases tag with ⟨q, -, -, h⟩ | ⟨-, h⟩ <;> rw [h]
  · exact .inl rfl
  · exact .inr rfl

/-! ### Moves and departures -/

theorem sound_atFill {r : Rack} (h : SoundRack r) (w : Window) (now : Tick) :
    (r.moved .filling (.windowFill w) none now).sound = true := sound_moved h (.refl h) (fun _ => nofun) rfl rfl

theorem sound_atSpare {r : Rack} (h : SoundRack r) (w : Window) (now : Tick) :
    (r.moved .empty (.windowSpare w) none now).sound = true := sound_moved h (.refl h) (fun _ => nofun) rfl rfl

theorem tableLaw_departed (h : TableLaw e.toState) (r : Rack) : TableLaw (e.departed r).toState := by
  have hp : KeepsPending e.toState (e.departed r).toState := .inr (departed_pending e r)
  rcases departed_racks e r with he | ⟨w, x, -, -, hx, he⟩
  · exact h.of_racks hp he
  · have hm := (mem_of_spareRack hx).1
    have hs := (sound_iff x).mp (h.sound x hm)
    exact h.rejoined (r' := x.moved _ _ _ _) hp hm rfl rfl (sound_atFill hs w e.now) he

theorem lookup_departed {e : Event} {r : Rack} {tag : Nat}
    (h : ∀ x ∈ e.racks, ∀ w, x.place = .windowSpare w → x.tag ≠ tag) :
    lookup (e.departed r).racks tag = lookup e.racks tag := by
  rcases departed_racks e r with he | ⟨w, x, -, -, hx, he⟩
  · rw [he]
  · obtain ⟨hm, hw⟩ := mem_of_spareRack hx
    rw [he, lookup_rejoined (r := x.moved _ _ _ _) (h x hm w hw).symm]

/-- A rack gone from its place, its departure and the cancelling of its admission. -/
theorem lawful_departed {e₁ : Event} {r : Rack} {tag : Nat} (h : Lawful s₀ e) (ht : TableLaw e₁.toState)
    (hpend : e₁.pendingAdmission = e.pendingAdmission)
    (hspare : ∀ x ∈ e₁.racks, ∀ w, x.place = .windowSpare w → x ∈ e.racks)
    (hlook : ∀ tag', tag' ≠ tag → lookup e₁.racks tag' = lookup e.racks tag') :
    Lawful s₀ ((e₁.departed r).cancelPending tag) := by
  refine h.of_table ?_ fun q hq => ?_
  · exact (tableLaw_departed ht r).of_racks (keepsPending_cancelPending _ _) (cancelPending_racks _ _)
  · obtain ⟨hq, hne⟩ := pending_of_cancelPending hq
    rw [departed_pending, hpend] at hq
    refine ⟨hq, congrArg (Option.map _) ?_⟩
    change lookup ((e₁.departed r).cancelPending tag).racks q.tag = lookup e.racks q.tag
    rw [cancelPending_racks, lookup_departed, hlook _ hne]
    intro x hx w hw e'
    exact pending_tag_ne h.law hq (hspare x hx w hw)
      (not_admissible_of_place (by rw [hw]; nofun) (by rw [hw]; nofun)) e'.symm

theorem lawful_moved {r r' : Rack} {st : RackState} {p : Place} {cause : Option HoldCause} (h : Lawful s₀ e)
    (hr : r ∈ e.racks) (ha : Alike r r') (hg : Goes st p cause) :
    Lawful s₀ ((e.move r' st p cause).cancelPending r.tag) := by
  have ht : TableLaw (e.join (r'.moved st p cause e.now)).toState :=
    h.table.rejoined (r' := r'.moved st p cause e.now) (.inr (join_pending _ _)) hr ha.tag ha.slot
      (sound_goes (h.soundRack hr) ha hg)
      (Event.join_racks _ _)
  refine lawful_departed h ht (join_pending _ _) (fun x hx w hw => ?_) fun tag hne => ?_
  · rw [Event.join_racks] at hx
    rcases mem_rejoined.mp hx with ⟨hx, -⟩ | rfl
    · exact hx
    · cases hg <;> cases hw
  · rw [Event.join_racks]
    refine lookup_rejoined fun e => hne ?_
    rw [e]
    exact ha.tag

theorem lawful_retired {r : Rack} (h : Lawful s₀ e) : Lawful s₀ (e.retireRack r) := by
  refine lawful_departed h (h.table.without (.inr rfl) rfl) rfl (fun x hx w _ => ?_) fun tag hne => ?_
  · exact (List.mem_filter.mp hx).1
  · exact lookup_without hne

/-- A record of a rack that may not be admitted put at the tail of its place. -/
theorem lawful_rejoined {r r' : Rack} (h : Lawful s₀ e) (hr : r ∈ e.racks) (ha : r.admissible = false)
    (ht : r'.tag = r.tag) (hs : r'.slot = r.slot) (hsound : r'.sound = true) (he : e'.racks = rejoined e.racks r')
    (hp : KeepsPending e.toState e'.toState) : Lawful s₀ e' := by
  refine h.of_table (h.table.rejoined hp hr ht hs hsound he) fun q hq => ?_
  have hq' : e.pendingAdmission = some q := by
    rcases hp with hp | hp
    · rw [hq] at hp
      cases hp
    · exact hp ▸ hq
  refine ⟨hq', congrArg (Option.map _) ?_⟩
  change lookup e'.racks q.tag = lookup e.racks q.tag
  rw [he, lookup_rejoined]
  exact ht ▸ pending_tag_ne h.law hq' hr ha

theorem freePosition_cases {s : State} {w : Window} {st : RackState} {p : Place}
    (h : s.freePosition w = some (st, p)) :
    (st = .filling ∧ p = .windowFill w ∧ s.hasRoom (.windowFill w) = true) ∨
      (st = .empty ∧ p = .windowSpare w ∧ s.hasRoom (.windowFill w) = false ∧
        s.hasRoom (.windowSpare w) = true) := by
  unfold State.freePosition at h
  split at h
  · cases h
    exact .inl ⟨rfl, rfl, ‹_›⟩
  · split at h
    · cases h
      exact .inr ⟨rfl, rfl, Bool.eq_false_iff.mpr ‹_›, ‹_›⟩
    · cases h

theorem place_of_offered {w : Window} {r : Rack} {b : Bool} (h : Offered e w r b) :
    r.place = .returnLoop ∨ r.place = .store := by
  cases h
  case routed h _ | unassigned h _ _ => exact .inl h
  case stored h _ => exact .inr h

theorem lawful_taken {w : Window} {r : Rack} {b : Bool} {st : RackState} {p : Place} (h : Lawful s₀ e)
    (hr : r ∈ e.racks) (ho : Offered e w r b) (hf : e.toState.freePosition w = some (st, p)) :
    Lawful s₀ ((if b then e.consumeEntry w else e).join (r.moved st p none e.now)) := by
  have ha : r.admissible = false := by
    rcases place_of_offered ho with hp | hp <;> exact not_admissible_of_place (by rw [hp]; nofun) (by rw [hp]; nofun)
  have hs := h.soundRack hr
  have hsound : (r.moved st p none e.now).sound = true := by
    rcases freePosition_cases hf with ⟨rfl, rfl, -⟩ | ⟨rfl, rfl, -⟩
    · exact sound_atFill hs w e.now
    · exact sound_atSpare hs w e.now
  refine lawful_rejoined (r' := r.moved st p none e.now) h hr ha rfl rfl hsound ?_ (.inr ?_)
  · rw [Event.join_racks]
    cases b <;> rfl
  · rw [join_pending]
    cases b <;> rfl

/-! ### Enrolment -/

theorem sound_newRack {tag slot : Nat} {a : EnrolAttributes} {st : RackState} {p : Place} {now : Tick}
    (ht : isTag tag = true) (hs : slot < Config.tableSlots) (hp : ∀ t, p ≠ .tunnel t)
    (hplaced : (newRack tag slot a st p now).placed = true)
    (hout : (newRack tag slot a st p now).outcomeFits = true) : (newRack tag slot a st p now).sound = true :=
  (sound_iff _).mpr ⟨ht, hs, hplaced, hout, fun t e => absurd e (hp t), fun _ => rfl, fun _ => rfl, Nat.zero_le _,
    Nat.zero_le _⟩

/-- A record of a tag that is not in the table added, and a pending admission of the tag cancelled or gone. -/
theorem lawful_added {r : Rack} (h : Lawful s₀ e) (ha : e.toState.rack? r.tag = none) (hs : r.slot = e.toState.freeSlot)
    (hl : e.racks.length + reserved e'.toState < Config.tableSlots) (hsound : r.sound = true)
    (he : e'.racks = rejoined e.racks r)
    (hq : ∀ q, e'.pendingAdmission = some q → e.pendingAdmission = some q ∧ q.tag ≠ r.tag) : Lawful s₀ e' := by
  refine h.of_table (h.table.added (State.rack?_none ha) hs hl hsound he) fun q hp => ?_
  obtain ⟨hq, hne⟩ := hq q hp
  refine ⟨hq, congrArg (Option.map _) ?_⟩
  change lookup e'.racks q.tag = lookup e.racks q.tag
  rw [he, lookup_rejoined hne]

theorem lawful_enrol {e₁ : Event} {tag : Nat} {a : EnrolAttributes} {st : RackState} {p : Place} (h : Lawful s₀ e)
    (hr : e₁.racks = e.racks) (hpend : e₁.pendingAdmission = e.pendingAdmission) (ht : isTag tag = true)
    (ha : e.toState.rack? tag = none) (hl : e.toState.tableLoad < Config.tableSlots) (hp : ∀ t, p ≠ .tunnel t)
    (hplaced : ∀ slot now, (newRack tag slot a st p now).placed = true)
    (hout : ∀ slot now, (newRack tag slot a st p now).outcomeFits = true) : Lawful s₀ (e₁.enrol tag a st p) := by
  rw [tableLoad_eq] at hl
  have hslot : e₁.toState.freeSlot = e.toState.freeSlot := by
    unfold State.freeSlot
    rw [hr]
  have hkeep : KeepsPending e.toState (e₁.enrol tag a st p).toState :=
    (keepsPending_cancelPending (e₁.join _) tag).imp_right fun hc => hc.trans ((join_pending _ _).trans hpend)
  have hres := reserved_le hkeep
  have hfree := freeSlot_free (s := e.toState) (by omega)
  refine lawful_added h (r := newRack tag e₁.toState.freeSlot a st p e₁.now) ha hslot (by omega)
    (sound_newRack ht (hslot ▸ hfree.1) hp (hplaced _ _) (hout _ _)) ?_ fun q hq => ?_
  · rw [Event.enrol, cancelPending_racks, Event.join_racks, hr]
  · obtain ⟨hq, hne⟩ := pending_of_cancelPending hq
    exact ⟨hpend ▸ (join_pending _ _) ▸ hq, hne⟩

/-! ### Releases -/

/-- The rows of R139 that a release takes. -/
theorem gateDestination_cases {s : State} {t : Tunnel} {v : Verdict} {n : Nat} {d : Destination}
    {cause : Option HoldCause} (h : s.gateDestination t v n = some (d, cause)) :
    (v = .pass ∧ d = .unload t ∧ cause = none ∧ s.hasRoom (.unload t) = true) ∨
      (v ≠ .pass ∧ d = .collect ∧ cause = none ∧ s.hasRoom .collect = true) ∨
      (v ≠ .pass ∧ d = .hold ∧ cause ≠ none ∧ s.hasRoom .hold = true) := by
  unfold State.gateDestination at h
  split at h
  · rename_i hv
    split at h
    · rename_i hroom
      cases h
      exact .inl ⟨hv, rfl, rfl, hroom⟩
    · cases h
  · rename_i hv
    split at h
    · split at h
      · cases h
        exact .inr (.inl ⟨hv, rfl, rfl, ‹_›⟩)
      · split at h
        · cases h
          exact .inr (.inr ⟨hv, rfl, nofun, ‹_›⟩)
        · cases h
    · split at h
      · cases h
        exact .inr (.inr ⟨hv, rfl, nofun, ‹_›⟩)
      · cases h

theorem move_from_lane {t : Tunnel} {r : Rack} (hr : r.place = .tunnel t) (e : Event) (st : RackState) (p : Place)
    (cause : Option HoldCause) :
    e.move r st p cause = (e.join (r.moved st p cause e.now)).laneDeparted t := by
  unfold Event.move Event.departed
  simp only [hr]

theorem release_racks {t : Tunnel} {r : Rack} (hr : r.place = .tunnel t) (e : Event) (v : Verdict) (d : Destination)
    (cause : Option HoldCause) :
    (e.release t r v d cause).racks = rejoined e.racks (r.released v d cause e.now) := by
  unfold Event.release
  dsimp only
  rw [move_from_lane (r := { r with lastOutcome := some (.verdict v) }) hr, laneDeparted_racks, Event.join_racks,
    ← Rack.moved_of_release r t v d cause e.now hr]
  split <;> rfl

theorem release_pending (e : Event) (t : Tunnel) (r : Rack) (v : Verdict) (d : Destination)
    (cause : Option HoldCause) : (e.release t r v d cause).pendingAdmission = e.pendingAdmission := by
  unfold Event.release Event.move
  simp only [departed_pending, join_pending]
  split <;> rfl

theorem sound_released {t : Tunnel} {r : Rack} {v : Verdict} {d : Destination} {cause : Option HoldCause} {now : Tick}
    {s : State} (h : SoundRack r) (hr : r.place = .tunnel t)
    (hg : s.gateDestination t v r.passes = some (d, cause)) : (r.released v d cause now).sound = true := by
  have hdest : r.destination = none := h.destination (by rw [hr]; nofun)
  refine (sound_iff _).mpr ⟨h.tag, h.slot, ?_, ?_, fun t' e => absurd e (d.place_ne_tunnel t'), fun _ => rfl,
    fun _ => hdest, h.passes, h.cycles⟩
  · rcases gateDestination_cases hg with ⟨-, rfl, -, -⟩ | ⟨-, rfl, -, -⟩ | ⟨-, rfl, -, -⟩ <;> rfl
  · rcases gateDestination_cases hg with ⟨-, rfl, -, -⟩ | ⟨-, rfl, -, -⟩ | ⟨-, rfl, hc, -⟩
    · rfl
    · rfl
    · cases cause with
      | none => exact absurd rfl hc
      | some c => rfl

theorem lawful_released {t : Tunnel} {r : Rack} {v : Verdict} {d : Destination} {cause : Option HoldCause}
    (h : Lawful s₀ e) (hf : e.toState.finalRack t = some r)
    (hg : e.toState.gateDestination t v r.passes = some (d, cause)) : Lawful s₀ (e.release t r v d cause) := by
  obtain ⟨hm, hp, -⟩ := mem_of_finalRack hf
  refine lawful_rejoined (r' := r.released v d cause e.now) h hm ?_ rfl rfl (sound_released (h.soundRack hm) hp hg)
    (release_racks hp e v d cause) (.inr (release_pending e t r v d cause))
  exact not_admissible_of_place (by rw [hp]; nofun) (by rw [hp]; nofun)

/-! ### Lost racks -/

theorem loseRacks_pending (cause : HoldCause) (rs : List Rack) : ∀ e : Event,
    (e.loseRacks cause rs).pendingAdmission = e.pendingAdmission := by
  induction rs with
  | nil => exact fun e => rfl
  | cons r rs ih => exact fun e => (ih _).trans (join_pending _ _)

/-- The racks after some of them are lost: they go to the tail, in their order. -/
theorem loseRacks_racks (cause : HoldCause) (rs : List Rack) : ∀ e : Event, Tags rs →
    (e.loseRacks cause rs).racks = e.racks.filter (fun x => decide (x.tag ∉ rs.map (·.tag))) ++
      rs.map fun r => r.moved .held .unknown (some cause) e.now := by
  induction rs with
  | nil =>
    intro e _
    simp [Event.loseRacks]
  | cons r rs ih =>
    intro e hd
    have hr : r.tag ∉ rs.map (·.tag) := by
      rintro hm
      obtain ⟨y, hy, e'⟩ := List.mem_map.mp hm
      exact absent_of_tags_cons hd y hy e'
    rw [Event.loseRacks, ih _ (tags_of_cons hd), join_now, Event.join_racks, rejoined, List.filter_append,
      List.filter_filter, List.filter_singleton, decide_eq_true (show (r.moved _ _ _ _).tag ∉ _ from hr),
      List.append_assoc]
    congr 1
    refine List.filter_congr fun x _ => ?_
    rw [← Bool.decide_and]
    refine decide_eq_decide.mpr ?_
    rw [List.map_cons, List.mem_cons, not_or, and_comm]
    rfl

theorem sound_lost {r : Rack} (h : SoundRack r) {cause : HoldCause} (hc : cause = .tunnelFault ∨ cause = .lostTrack)
    (now : Tick) : (r.moved .held .unknown (some cause) now).sound = true := by
  refine sound_moved h (.refl h) (fun _ => nofun) rfl ?_
  rcases hc with rfl | rfl <;> rfl

/-- Losing racks of a lane keeps the law. -/
theorem lawful_loseRacks {cause : HoldCause} (hc : cause = .tunnelFault ∨ cause = .lostTrack) {t : Tunnel}
    (rs : List Rack) : ∀ e : Event, Lawful s₀ e → Tags rs → (∀ r ∈ rs, r ∈ e.racks ∧ r.place = .tunnel t) →
    Lawful s₀ (e.loseRacks cause rs) := by
  induction rs with
  | nil => exact fun e h _ _ => h
  | cons r rs ih =>
    intro e h hd hm
    obtain ⟨hr, hp⟩ := hm r List.mem_cons_self
    have hl : Lawful s₀ (e.join (r.moved .held .unknown (some cause) e.now)) :=
      lawful_rejoined (r' := r.moved .held .unknown (some cause) e.now) h hr
        (not_admissible_of_place (by rw [hp]; nofun) (by rw [hp]; nofun)) rfl rfl (sound_lost (h.soundRack hr) hc _)
        (Event.join_racks _ _) (.inr (join_pending _ _))
    refine ih _ hl (tags_of_cons hd) fun x hx => ?_
    obtain ⟨hxm, hxp⟩ := hm x (List.mem_cons_of_mem _ hx)
    rw [Event.join_racks]
    exact ⟨mem_rejoined.mpr (.inl ⟨hxm, absent_of_tags_cons hd x hx⟩), hxp⟩

theorem abandonExit_racks (e : Event) (t : Tunnel) : (e.abandonExit t).racks = e.racks := by
  unfold Event.abandonExit
  dsimp only
  split <;> rfl

theorem abandonExit_pending (e : Event) (t : Tunnel) : (e.abandonExit t).pendingAdmission = e.pendingAdmission := by
  unfold Event.abandonExit
  dsimp only
  split <;> rfl

theorem tags_lane (h : Lawful s₀ e) (t : Tunnel) : Tags (e.toState.lane t) :=
  h.tags.sublist (List.filter_sublist.map _)

theorem mem_lane {s : State} {t : Tunnel} {x : Rack} : x ∈ s.lane t ↔ x ∈ s.racks ∧ x.place = .tunnel t := by
  simp [State.lane, State.members]

theorem lawful_enterFault (h : Lawful s₀ e) (t : Tunnel) : Lawful s₀ (e.enterFault t) := by
  have hq : Lawful s₀ (e.abandonExit t) := h.of_racks (abandonExit_racks e t) (.inr (abandonExit_pending e t))
  have hq' : Lawful s₀ ((e.abandonExit t).setTunnel t ((e.abandonExit t).tunnels.get t).withoutTimers) :=
    hq.of_racks rfl (.inr rfl)
  exact (lawful_loseRacks (.inl rfl) _ _ hq' (tags_lane hq' t) fun r hr => mem_lane.mp hr).of_racks rfl (.inr rfl)

/-! ### Pass sheets -/

/-- What `PassSheet.fits` says, taken apart. -/
theorem fits_iff (p : PassSheet) (t : Tunnel) : p.fits t = true ↔
    p.tunnel = t ∧ p.required.has p.stage = true ∧ p.credit ≤ Config.maxCredit ∧
      (p.finalEntry.isSome = true ↔ p.stage = .final) ∧ (p.reference.isSome = true ↔ p.stage = .final) ∧
      (p.stage ≠ .final → p.credit = 0 ∧ p.gap = false ∧ p.orderFault = false ∧ p.verdict = none ∧
        p.exitRequested = false) := by
  have hbeq (a : Bool) (q : Prop) [Decidable q] : (a == decide q) = true ↔ (a = true ↔ q) := by
    cases a <;> by_cases hq : q <;> simp [hq]
  simp only [PassSheet.fits, Bool.and_eq_true, Bool.or_eq_true, decide_eq_true_eq, hbeq, Bool.not_eq_true',
    Option.isNone_iff_eq_none, and_assoc, or_iff_not_imp_left]

/-- A pass sheet changed in place. -/
theorem lawful_modifySheet {t : Tunnel} {r : Rack} {f : PassSheet → PassSheet} (h : Lawful s₀ e) (hr : r ∈ e.racks)
    (hp : r.place = .tunnel t) (hf : ∀ p, r.sheet = some p → p.fits t = true → (f p).fits t = true) :
    Lawful s₀ (e.modifySheet r.tag f) := by
  have hedit : (e.modifySheet r.tag f).racks = edited e.racks r.tag fun x => { x with sheet := x.sheet.map f } := rfl
  refine h.of_table (h.table.edited (.inr rfl) hedit fun x hx ht => ⟨rfl, rfl, ?_⟩) fun q hq => ⟨hq, ?_⟩
  · obtain rfl := eq_of_tag h.tags hr hx ht
    have hs := h.soundRack hx
    refine (sound_iff _).mpr ⟨hs.tag, hs.slot, hs.placed, hs.outcome, fun t' ht' => ?_, fun ho => ?_, hs.destination,
      hs.passes, hs.cycles⟩
    · obtain ⟨p, hsheet, hfit⟩ := hs.inLane t' ht'
      obtain rfl : t' = t := by
        have := ht'.symm.trans hp
        simpa using this
      exact ⟨f p, by rw [hsheet, Option.map_some], hf p hsheet hfit⟩
    · exact absurd hp (ho t)
  · change (lookup (e.modifySheet r.tag f).racks q.tag).map _ = (lookup e.racks q.tag).map _
    rw [hedit, lookup_edited q.tag (f := fun x => { x with sheet := x.sheet.map f }) fun x _ ht => ht, Option.map_map]
    refine Option.map_congr fun x _ => ?_
    simp only [Function.comp_apply]
    split <;> rfl

theorem has_next (s : Stages) (st : Stage) : s.has (s.next st) = true := by
  cases st <;> simp only [Stages.next]
  case pre =>
    split
    · assumption
    · split
      · assumption
      · rfl
  case wash =>
    split
    · assumption
    · rfl
  all_goals rfl

theorem has_first (s : Stages) : s.has s.first = true := by
  unfold Stages.first
  split
  · assumption
  · split
    · assumption
    · split
      · assumption
      · rfl

/-- The fields of a sheet that a fragment does not touch. -/
theorem withFragment_fields (p : PassSheet) (st : Stage) (x : Fragment) :
    (p.withFragment st x).tunnel = p.tunnel ∧ (p.withFragment st x).required = p.required ∧
      (p.withFragment st x).stage = p.stage ∧ (p.withFragment st x).finalEntry = p.finalEntry ∧
      (p.withFragment st x).reference = p.reference ∧ (p.withFragment st x).credit = p.credit ∧
      (p.withFragment st x).gap = p.gap ∧ (p.withFragment st x).orderFault = p.orderFault ∧
      (p.withFragment st x).verdict = p.verdict ∧ (p.withFragment st x).exitRequested = p.exitRequested := by
  cases st <;> exact ⟨rfl, rfl, rfl, rfl, rfl, rfl, rfl, rfl, rfl, rfl⟩

/-- An advance leaves a sheet that fits. -/
theorem fits_advanced {p : PassSheet} {t : Tunnel} {st : Stage} (h : p.fits t = true) (hst : p.stage = st)
    (hne : st ≠ .final) (x : Fragment) (now : Tick) :
    ((p.withFragment st x).enterStage (p.required.next st) now).fits t = true := by
  obtain ⟨ht, -, hc, hfe, href, hzero⟩ := (fits_iff p t).mp h
  obtain ⟨f1, f2, f3, f4, f5, f6, f7, f8, f9, f10⟩ := withFragment_fields p st x
  have hnf : p.stage ≠ .final := hst ▸ hne
  rw [fits_iff]
  unfold PassSheet.enterStage
  split
  · exact ⟨f1.trans ht, by rfl, f6 ▸ hc, by simp, by simp, fun h => absurd rfl h⟩
  · rename_i hn
    refine ⟨f1.trans ht, ?_, f6 ▸ hc, ?_, ?_, fun _ => ?_⟩
    · simp only [f2]
      exact has_next p.required st
    · simp only [f4, hfe]
      exact iff_of_false hnf hn
    · simp only [f5, href]
      exact iff_of_false hnf hn
    · simp only [f6, f7, f8, f9, f10]
      exact hzero hnf

theorem fits_placedInFinal {p : PassSheet} {t : Tunnel} (h : p.fits t = true) (now : Tick) :
    (p.placedInFinal now).fits t = true := by
  obtain ⟨ht, -, hc, -⟩ := (fits_iff p t).mp h
  exact (fits_iff _ _).mpr ⟨ht, rfl, hc, by simp [PassSheet.placedInFinal], by simp [PassSheet.placedInFinal],
    fun h => absurd rfl h⟩

/-! ### EXIT out of order -/

theorem mem_olderThan {lane : List Rack} {tag : Nat} {x : Rack} (h : x ∈ olderThan lane tag) :
    x ∈ lane ∧ x.tag ≠ tag := by
  unfold olderThan at h
  exact ⟨(List.takeWhile_sublist _).subset h, by simpa using List.mem_takeWhile_imp h⟩

theorem lawful_exitMismatch {t : Tunnel} {p : Port} {tag : Nat} {read : Rack} (h : Lawful s₀ e)
    (hr : e.toState.rack? tag = some read) (hp : read.place = .tunnel t) :
    Lawful s₀ (e.exitMismatch t p tag).event := by
  obtain ⟨hm, ht⟩ := State.rack?_some hr
  have hq : Lawful s₀ (e.abandonExit t) := h.of_racks (abandonExit_racks e t) (.inr (abandonExit_pending e t))
  have holder : Tags (olderThan ((e.abandonExit t).toState.lane t) tag) :=
    (tags_lane hq t).sublist ((List.takeWhile_sublist _).map _)
  have hl := lawful_loseRacks (.inr rfl) (t := t) (olderThan ((e.abandonExit t).toState.lane t) tag) _ hq holder
    fun x hx => mem_lane.mp (mem_olderThan hx).1
  have hread :
      read ∈ ((e.abandonExit t).loseRacks .lostTrack (olderThan ((e.abandonExit t).toState.lane t) tag)).racks := by
    rw [loseRacks_racks _ _ _ holder, abandonExit_racks]
    refine List.mem_append_left _ (List.mem_filter.mpr ⟨hm, decide_eq_true fun hx => ?_⟩)
    obtain ⟨y, hy, e'⟩ := List.mem_map.mp hx
    exact (mem_olderThan hy).2 (e'.trans ht)
  have hs := lawful_modifySheet (f := fun sh => sh.placedInFinal ((e.abandonExit t).loseRacks .lostTrack
    (olderThan ((e.abandonExit t).toState.lane t) tag)).now) hl hread hp fun p _ hfit => fits_placedInFinal hfit _
  rw [ht] at hs
  exact hs.of_racks rfl (.inr rfl)

/-! ### Admissions -/

theorem admittedRack_sound {s : State} {t : Tunnel} {r : Rack} (ht : isTag r.tag = true)
    (hs : r.slot < Config.tableSlots) (hd : r.place ≠ .returnLoop → r.destination = none)
    (hc : r.cycles ≤ Config.maxCycles) : (s.admittedRack t r).sound = true := by
  refine (sound_iff _).mpr ⟨ht, hs, rfl, rfl, fun t' e => ?_, fun ho => absurd rfl (ho t), fun _ => ?_,
    Nat.min_le_left _ _, hc⟩
  · obtain rfl : t = t' := by simpa [State.admittedRack, Rack.moved] using e
    refine ⟨_, rfl, (fits_iff _ _).mpr ⟨rfl, has_first _, Nat.zero_le _, ?_, ?_, fun _ => ⟨rfl, rfl, rfl, rfl, rfl⟩⟩⟩
    all_goals
      simp only [State.newSheet]
      split <;> simp_all
  · simp only [State.admittedRack, Rack.moved]
    split
    · rfl
    · exact hd ‹_›

theorem countAdmission_racks (e : Event) (t : Tunnel) : (e.countAdmission t).racks = e.racks := by
  unfold Event.countAdmission
  dsimp only
  split <;> rfl

theorem countAdmission_pending (e : Event) (t : Tunnel) :
    (e.countAdmission t).pendingAdmission = e.pendingAdmission := by
  unfold Event.countAdmission
  dsimp only
  split <;> rfl

theorem not_fill_of_admissible {r : Rack} (h : r.admissible = true) (w : Window) : r.place ≠ .windowFill w := by
  rcases (admissible_iff r).mp h with ⟨-, h⟩ | ⟨-, h⟩ <;> rw [h] <;> nofun

theorem admitRack_racks {r : Rack} (h : r.admissible = true) (e : Event) (t : Tunnel) :
    (e.admitRack t r).racks = rejoined e.racks (e.toState.admittedRack t r) := by
  unfold Event.admitRack
  rcases departed_racks ((e.join (e.toState.admittedRack t r)).countAdmission t) r with he | ⟨w, -, hw, -⟩
  · rw [he, countAdmission_racks, Event.join_racks]
  · exact absurd hw (not_fill_of_admissible h w)

theorem admitRack_pending (e : Event) (t : Tunnel) (r : Rack) :
    (e.admitRack t r).pendingAdmission = e.pendingAdmission := by
  rw [Event.admitRack, departed_pending, countAdmission_pending, join_pending]

theorem lawful_admitRack {t : Tunnel} {r : Rack} (h : Lawful s₀ e) (hr : r ∈ e.racks) (ha : r.admissible = true)
    (hn : e.pendingAdmission = none) : Lawful s₀ (e.admitRack t r) := by
  have hs := h.soundRack hr
  have hp : (e.admitRack t r).pendingAdmission = none := (admitRack_pending e t r).trans hn
  refine h.of_table (h.table.rejoined (r' := e.toState.admittedRack t r) (.inl hp) hr rfl rfl
    (admittedRack_sound hs.tag hs.slot hs.destination hs.cycles) (admitRack_racks ha e t)) fun q hq => ?_
  rw [hp] at hq
  cases hq

theorem admitNew_racks (e : Event) (t : Tunnel) (tag : Nat) (a : EnrolAttributes) : (e.admitNew t tag a).racks =
    rejoined e.racks (e.toState.admittedRack t (newRack tag e.toState.freeSlot a .washing (.tunnel t) e.now)) := by
  rw [Event.admitNew, countAdmission_racks, Event.join_racks]

theorem admitNew_pending (e : Event) (t : Tunnel) (tag : Nat) (a : EnrolAttributes) :
    (e.admitNew t tag a).pendingAdmission = e.pendingAdmission := by
  rw [Event.admitNew, countAdmission_pending, join_pending]

theorem lawful_admitNew {t : Tunnel} {tag : Nat} {a : EnrolAttributes} (h : Lawful s₀ e) (ht : isTag tag = true)
    (ha : e.toState.rack? tag = none) (hl : e.racks.length < Config.tableSlots) (hn : e.pendingAdmission = none) :
    Lawful s₀ (e.admitNew t tag a) := by
  have hp : (e.admitNew t tag a).pendingAdmission = none := (admitNew_pending e t tag a).trans hn
  have hres : reserved (e.admitNew t tag a).toState = 0 := by
    rw [reserved, hp]
    rfl
  refine lawful_added (r := e.toState.admittedRack t (newRack tag e.toState.freeSlot a .washing (.tunnel t) e.now)) h ha
    rfl (by omega) (admittedRack_sound ht (freeSlot_free hl).1 (fun _ => rfl) (Nat.zero_le _))
    (admitNew_racks e t tag a) fun q hq => ?_
  rw [hp] at hq
  cases hq

/-! ### Routes -/

/-- Whatever of these racks the event still has stands on RETURN. -/
def OnReturn (e : Event) (rs : List Rack) : Prop := ∀ r ∈ rs, ∀ x ∈ e.racks, x.tag = r.tag → x.place = .returnLoop

theorem OnReturn.rerouted {rs : List Rack} (h : OnReturn e rs) (hr : AllRerouted e.racks e'.racks) :
    OnReturn e' rs := by
  intro r hm x hx ht
  obtain ⟨a, ha, d, rfl, -⟩ := hr.mem hx
  exact h r hm a ha ht

theorem onReturn_of_mem {rs : List Rack} (h : Tags e.racks) (hm : ∀ r ∈ rs, r ∈ e.racks ∧ r.place = .returnLoop) :
    OnReturn e rs := by
  intro r hr x hx ht
  obtain ⟨hmr, hp⟩ := hm r hr
  rw [eq_of_tag h hmr hx ht, hp]

theorem pairOne_rerouted {r : Rack} (h : OnReturn e [r]) : AllRerouted e.racks (e.pairOne r).racks := by
  unfold Event.pairOne
  split
  · exact .refl _
  · exact allRerouted_edited fun x hx ht => h r (List.mem_singleton_self r) x hx ht

theorem pairAll_rerouted (rs : List Rack) : ∀ e : Event, OnReturn e rs → AllRerouted e.racks (e.pairAll rs).racks := by
  induction rs with
  | nil => exact fun e _ => .refl _
  | cons r rs ih =>
    intro e h
    have h1 := pairOne_rerouted (e := e) (r := r) fun x hx => h x (List.mem_cons.mpr (.inl (List.mem_singleton.mp hx)))
    have hrest : OnReturn e rs := fun x hx => h x (List.mem_cons_of_mem _ hx)
    exact h1.trans (ih _ (hrest.rerouted h1))

theorem clearRoutes_rerouted (rs : List Rack) : ∀ (e : Event) {l : List Rack}, e.racks = l → OnReturn e rs →
    AllRerouted l (e.clearRoutes rs).racks := by
  induction rs with
  | nil =>
    rintro e l rfl _
    exact .refl _
  | cons r rs ih =>
    rintro e l rfl h
    have h1 : AllRerouted e.racks ((e.modifyRack r.tag fun x => { x with destination := none }).sendRole .windows
        (.route r.tag none)).racks :=
      allRerouted_edited fun x hx ht => h r List.mem_cons_self x hx ht
    have hrest : OnReturn e rs := fun x hx => h x (List.mem_cons_of_mem _ hx)
    exact h1.trans (ih _ rfl (hrest.rerouted h1))

theorem pairOne_pending (e : Event) (r : Rack) : (e.pairOne r).pendingAdmission = e.pendingAdmission := by
  unfold Event.pairOne
  split <;> rfl

theorem pairAll_pending (rs : List Rack) : ∀ e : Event, (e.pairAll rs).pendingAdmission = e.pendingAdmission := by
  induction rs with
  | nil => exact fun e => rfl
  | cons r rs ih => exact fun e => (ih _).trans (pairOne_pending e r)

theorem clearRoutes_pending (rs : List Rack) : ∀ e : Event,
    (e.clearRoutes rs).pendingAdmission = e.pendingAdmission := by
  induction rs with
  | nil => exact fun e => rfl
  | cons r rs ih => exact fun e => ih _

@[simp] theorem postMany_racks (w : Window) (n : Nat) : ∀ e : Event, (e.postMany w n).racks = e.racks := by
  induction n with
  | zero => exact fun e => rfl
  | succ n ih => exact fun e => (ih _).trans (post_racks e w)

@[simp] theorem postMany_pending (w : Window) (n : Nat) : ∀ e : Event,
    (e.postMany w n).pendingAdmission = e.pendingAdmission := by
  induction n with
  | zero => exact fun e => rfl
  | succ n ih => exact fun e => (ih _).trans (post_pending e w)

theorem mem_routedTo {s : State} {w : Window} {x : Rack} :
    x ∈ s.routedTo w ↔ x ∈ s.racks ∧ x.place = .returnLoop ∧ x.destination = some w := by
  simp only [State.routedTo, State.members, List.mem_filter, decide_eq_true_eq, and_assoc]

theorem mem_unassigned {s : State} {x : Rack} :
    x ∈ s.unassigned ↔ x ∈ s.racks ∧ x.place = .returnLoop ∧ x.destination = none := by
  simp only [State.unassigned, State.members, List.mem_filter, decide_eq_true_eq, and_assoc]

theorem onReturn_unassigned (h : Tags e.racks) : OnReturn e e.toState.unassigned :=
  onReturn_of_mem h fun _ hr => ⟨(mem_unassigned.mp hr).1, (mem_unassigned.mp hr).2.1⟩

theorem onReturn_routedTo (h : Tags e.racks) {w : Window} {rs : List Rack} (hs : ∀ r ∈ rs, r ∈ e.toState.routedTo w) :
    OnReturn e rs :=
  onReturn_of_mem h fun r hr => ⟨(mem_routedTo.mp (hs r hr)).1, (mem_routedTo.mp (hs r hr)).2.1⟩

/-- What setting a mode can do. -/
theorem setMode_cases (e : Event) (w : Window) (m : WindowMode) :
    (e.windows[w].mode = m ∧ e.setMode w m = e) ∨
    (e.windows[w].mode ≠ .stop ∧ m = .stop ∧ e.setMode w m = e.enterStop w) ∨
    (e.windows[w].mode = .stop ∧ m ≠ .stop ∧ e.setMode w m = e.leaveStop w m) ∨
    (e.windows[w].mode = .pause ∧ m = .accept ∧ e.setMode w m = { (e.writeMode w m) with wantPairing := true }) ∨
    (e.windows[w].mode = .accept ∧ m = .pause ∧ e.setMode w m = e.writeMode w m) := by
  unfold Event.setMode
  generalize e.windows[w].mode = old
  cases old <;> cases m <;> simp

theorem setMode_rerouted (h : Tags e.racks) (w : Window) (m : WindowMode) :
    AllRerouted e.racks (e.setMode w m).racks := by
  rcases setMode_cases e w m with ⟨-, he⟩ | ⟨-, -, he⟩ | ⟨-, -, he⟩ | ⟨-, -, he⟩ | ⟨-, -, he⟩ <;> rw [he]
  · exact .refl _
  · exact clearRoutes_rerouted _ _ rfl (onReturn_routedTo (w := w) h fun r hr => hr)
  · simp only [Event.leaveStop, postMany_racks]
    exact .refl _
  · exact .refl _
  · exact .refl _

theorem setMode_pending (e : Event) (w : Window) (m : WindowMode) :
    (e.setMode w m).pendingAdmission = e.pendingAdmission := by
  rcases setMode_cases e w m with ⟨-, he⟩ | ⟨-, -, he⟩ | ⟨-, -, he⟩ | ⟨-, -, he⟩ | ⟨-, -, he⟩ <;> rw [he]
  · exact clearRoutes_pending _ _
  · simp only [Event.leaveStop, postMany_pending]
    rfl
  · rfl
  · rfl

theorem setClass_rerouted (h : Tags e.racks) (w : Window) (k : RackClass) :
    AllRerouted e.racks (e.setClass w k).racks := by
  unfold Event.setClass
  split
  · exact .refl _
  · dsimp only
    rw [postMany_racks]
    exact clearRoutes_rerouted _ _ rfl (onReturn_routedTo (w := w) h fun r hr => (List.mem_filter.mp hr).1)

theorem setClass_pending (e : Event) (w : Window) (k : RackClass) :
    (e.setClass w k).pendingAdmission = e.pendingAdmission := by
  unfold Event.setClass
  split
  · rfl
  · dsimp only
    rw [postMany_pending]
    exact clearRoutes_pending _ _

theorem lawful_rerouted (h : Lawful s₀ e) (hr : AllRerouted e.racks e'.racks)
    (hp : e'.pendingAdmission = e.pendingAdmission) : Lawful s₀ e' :=
  h.of_table (h.table.rerouted (.inr hp) hr) fun q hq =>
    ⟨hp ▸ hq, hr.lookup (g := (·.admissible)) (fun _ _ => rfl) q.tag⟩

/-! ### Acts -/

theorem lawful_becamePending {q : PendingAdmission} (h : Lawful s₀ e)
    (hf : q.enrol ≠ none → s₀.rack? q.tag = none ∧ e.racks.length < Config.tableSlots)
    (hs : State.pendingSound { e.toState with pendingAdmission := some q } = true) :
    Lawful s₀ { e with pendingAdmission := some q } where
  law := by
    have ht := h.table
    refine (recordLaw_iff _).mpr ⟨⟨ht.tags, ht.slots, ?_, ht.sound⟩, hs⟩
    have hl := ht.load
    rw [tableLoad_eq] at hl ⊢
    cases he : q.enrol with
    | none => simpa [reserved, he] using (Nat.le_add_right _ _).trans hl
    | some a =>
      have := (hf (by rw [he]; nofun)).2
      simpa [reserved, he] using this
  fresh := fun q' hq' he => by
    cases hq'
    exact (hf he).1

/-- Every act keeps the law of the Rack Table. -/
theorem lawful_act (h : Lawful s₀ e) (ha : Act s₀ e e') : Lawful s₀ e' := by
  cases ha
  case same hs => exact h.of_racks hs.racks (.inr hs.pending)
  case moved r r' st p cause hr _ hal hg _ => exact lawful_moved h hr hal hg
  case retired => exact lawful_retired h
  case taken w r b st p hr ho hf => exact lawful_taken h hr ho hf
  case enrolledAt w tag a st p ht _ ha hl _ hf =>
    rcases freePosition_cases hf with ⟨rfl, rfl, -⟩ | ⟨rfl, rfl, -⟩ <;>
      exact lawful_enrol h rfl rfl ht ha hl (fun _ => nofun) (fun _ _ => rfl) fun _ _ => rfl
  case enrolledOnReturn tag a ht _ ha hl _ =>
    exact lawful_enrol h rfl rfl ht ha hl (fun _ => nofun) (fun _ _ => rfl) fun _ _ => rfl
  case released t r v d cause hf _ hg => exact lawful_released h hf hg
  case tornDown t => exact lawful_enterFault h t
  case mismatched t p tag r read _ hr hp _ => exact lawful_exitMismatch h hr hp
  case admitted t r hr ha hn _ => exact lawful_admitRack h hr ha hn
  case enrolledInLane t tag a ht _ ha hl hn _ => exact lawful_admitNew h ht ha hl hn
  case sheet t r f hr hp hk => exact lawful_modifySheet h hr hp hk.fits
  case advanced t r p st x hr hs hst hne _ =>
    obtain ⟨hm, hp⟩ := mem_lane.mp hr
    refine lawful_modifySheet h hm hp fun p' hp' hfit => ?_
    cases hs.symm.trans hp'
    exact fits_advanced hfit hst hne x e.now
  case turned => exact h.of_racks rfl (.inr rfl)
  case becamePending q _ hf hs => exact lawful_becamePending h hf hs
  case dropped => exact h.of_racks rfl (.inl rfl)
  case paired =>
    exact lawful_rerouted h (pairAll_rerouted _ e (onReturn_unassigned h.tags)) (pairAll_pending _ e)
  case modeSet w m => exact lawful_rerouted h (setMode_rerouted h.tags w m) (setMode_pending e w m)
  case clsSet w k => exact lawful_rerouted h (setClass_rerouted h.tags w k) (setClass_pending e w k)

/-- A chain of acts. -/
abbrev Acts (s₀ : State) : Event → Event → Prop := Relation.ReflTransGen (Act s₀)

theorem lawful_acts (h : Lawful s₀ e) (ha : Acts s₀ e e') : Lawful s₀ e' := by
  induction ha with
  | refl => exact h
  | tail _ hstep ih => exact lawful_act ih hstep

end Sys2Proof.Proofs.ActsKeepTheTable
end

section
/-! Every event is a chain of acts: what a row begins, and the end of an event. -/

namespace Sys2Proof.Proofs.Chains

open Sys2Proof.Machine Sys2Proof.Proofs.Tables Sys2Proof.Proofs.Acts Sys2Proof.Proofs.ActsKeepTheTable
  Sys2Proof.Proofs.Effects Sys2Proof.Proofs.Registers

variable {s₀ : State} {e e' e'' : Event}

/-! ### Small acts -/

theorem Same.refl (e : Event) : Same e e := ⟨rfl, rfl, rfl, rfl, fun _ => rfl, id⟩

theorem tunnel_eq_or_other (t t' : Tunnel) : t' = t ∨ t' = t.other := by cases t <;> cases t' <;> decide

theorem same_setTunnel {t : Tunnel} {c : TunnelContext} (h : timersOf c = timersOf (e.tunnels.get t)) :
    Same e (e.setTunnel t c) := by
  refine ⟨rfl, rfl, rfl, rfl, fun t' => ?_, id⟩
  rcases tunnel_eq_or_other t t' with rfl | rfl
  · exact (congrArg timersOf (PerTunnel.get_set_same _ _ _)).trans h
  · exact congrArg timersOf (PerTunnel.get_set_other _ _ _)

theorem acts_same (h : Same e e') : Acts s₀ e e' := .single (.same h)

/-- An act after which the event is `e''` but for what the laws do not speak of. -/
theorem acts_then_same (h : Acts s₀ e e') (h' : Same e' e'') : Acts s₀ e e'' := h.trans (acts_same h')

theorem enter_setTunnel (e : Event) (t : Tunnel) (c : TunnelContext) (st : TunnelState) (fresh : Bool) :
    (e.setTunnel t c).enter t st fresh = (e.setTunnel t { c with state := st }).enter t st fresh := by
  simp [Event.enter, Event.setTunnel]

/-- A tunnel's change of state, with a new context. -/
theorem act_turned {t : Tunnel} {c : TunnelContext} {st : TunnelState} {fresh : Bool}
    (h : TimersFit (e.tunnels.get t) (e.toState.lane t) → TimersFit { c with state := st } (e.toState.lane t))
    (hf : st = .flushing → (e.tunnels.get t.other).state ≠ .flushing) :
    Act s₀ e ((e.setTunnel t c).enter t st fresh) := by
  rw [enter_setTunnel]
  exact Act.turned (c := { c with state := st }) h hf

theorem act_entered {t : Tunnel} {st : TunnelState} {fresh : Bool}
    (h : TimersFit (e.tunnels.get t) (e.toState.lane t) →
      TimersFit { e.tunnels.get t with state := st } (e.toState.lane t))
    (hf : st = .flushing → (e.tunnels.get t.other).state ≠ .flushing) : Act s₀ e (e.enter t st fresh) := by
  have := act_turned (s₀ := s₀) (fresh := fresh) h hf
  rwa [show e.setTunnel t (e.tunnels.get t) = e by simp [Event.setTunnel]] at this

/-! ### The gate -/

theorem acts_releaseTest (t : Tunnel) (grant : Bool) : Acts s₀ e (e.releaseTest t grant).1 := by
  rcases e.releaseTest_cases t grant with h | ⟨r, v, -, -, -, h⟩ | ⟨r, v, d, cause, e', hf, hv, hg, he, h⟩
  · rw [h]
  · rw [h]
    refine acts_same ⟨rfl, rfl, rfl, rfl, ?_, id⟩
    exact (same_setTunnel (e := e) (t := t) (c := { e.tunnels.get t with gateShut := true }) rfl).timers
  · rw [h]
    rcases he with rfl | ⟨p, -, -, rfl⟩
    · exact .single (.released hf hv hg)
    · have hsend : Same e (e.send p (.grantExit r.tag v d)) := ⟨rfl, rfl, rfl, rfl, fun _ => rfl, id⟩
      exact (acts_same hsend).tail (.released (e := e.send p (.grantExit r.tag v d)) hf hv hg)

theorem stage_of_inFinal {r : Rack} {p : PassSheet} (h : r.inFinal = true) (hp : r.sheet = some p) :
    p.stage = .final := by
  simpa [Rack.inFinal, Rack.stage?, hp] using h

theorem fits_final_iff {p : PassSheet} (hs : p.stage = .final) (t : Tunnel) : p.fits t = true ↔
    p.tunnel = t ∧ p.credit ≤ Config.maxCredit ∧ p.finalEntry.isSome = true ∧ p.reference.isSome = true := by
  rw [fits_iff, hs]
  simp [Stages.has]

/-- A change of the sheet of the rack in FINAL that leaves it there. -/
theorem sheetKept_final {t : Tunnel} {r : Rack} {f : PassSheet → PassSheet} (hf : r.inFinal = true)
    (htunnel : ∀ p, (f p).tunnel = p.tunnel) (hstage : ∀ p, (f p).stage = p.stage)
    (hentry : ∀ p, (f p).finalEntry = p.finalEntry)
    (hcredit : ∀ p : PassSheet, p.credit ≤ Config.maxCredit → (f p).credit ≤ Config.maxCredit)
    (href : ∀ p : PassSheet, p.reference.isSome = true → (f p).reference.isSome = true)
    (hverdict : ∀ p, r.sheet = some p → (f p).verdict ≠ none → p.verdict ≠ none ∨ StoodInFinal s₀ t r.tag) :
    SheetKept s₀ t r f where
  fits := fun p hp hfit => by
    have hs := stage_of_inFinal hf hp
    obtain ⟨h1, h2, h3, h4⟩ := (fits_final_iff hs t).mp hfit
    exact (fits_final_iff ((hstage p).trans hs) t).mpr
      ⟨(htunnel p).trans h1, hcredit p h2, (hentry p).symm ▸ h3, href p h4⟩
  stage := fun p _ => hstage p
  verdict := hverdict

/-- The judged sheet, field by field. -/
theorem judged_fields (p : PassSheet) (c : Configuration) (now : Tick) :
    (p.judged c now).tunnel = p.tunnel ∧ (p.judged c now).stage = p.stage ∧
      (p.judged c now).finalEntry = p.finalEntry ∧ (p.judged c now).credit = p.credit ∧
      (p.judged c now).reference = p.reference ∧ (p.judged c now).exitRequested = p.exitRequested := by
  unfold PassSheet.judged
  dsimp only
  split <;> exact ⟨rfl, rfl, rfl, rfl, rfl, rfl⟩

/-- The racks in FINAL stood there when the command began. -/
def FinalsFrom (s₀ : State) (e : Event) : Prop :=
  ∀ x ∈ e.racks, ∀ t, x.place = .tunnel t → x.inFinal = true → StoodInFinal s₀ t x.tag

theorem FinalsFrom.event (s : State) : FinalsFrom s s.event := fun x hx _ hp hf => ⟨x, hx, rfl, hp, hf⟩

theorem FinalsFrom.of_racks (h : FinalsFrom s₀ e) (hr : e'.racks = e.racks) : FinalsFrom s₀ e' :=
  fun x hx => h x (hr ▸ hx)

theorem FinalsFrom.without (h : FinalsFrom s₀ e) {q : Rack → Bool} (hr : e'.racks = e.racks.filter q) :
    FinalsFrom s₀ e' :=
  fun x hx => h x (List.mem_filter.mp (hr ▸ hx)).1

theorem FinalsFrom.rejoined (h : FinalsFrom s₀ e) {r : Rack} (hp : OffLane r) (hr : e'.racks = rejoined e.racks r) :
    FinalsFrom s₀ e' := by
  intro x hx t ht
  rcases mem_rejoined.mp (hr ▸ hx) with ⟨hx, -⟩ | rfl
  · exact h x hx t ht
  · exact absurd ht (hp t)

theorem FinalsFrom.modifySheet (h : FinalsFrom s₀ e) {tag : Nat} {f : PassSheet → PassSheet}
    (hf : ∀ p, (f p).stage = p.stage) : FinalsFrom s₀ (e.modifySheet tag f) := by
  intro x hx t ht hfin
  obtain ⟨y, hy, rfl⟩ := List.mem_map.mp hx
  have hstage : ({ y with sheet := y.sheet.map f } : Rack).inFinal = y.inFinal := by
    simp only [Rack.inFinal, Rack.stage?, Option.map_map]
    congr 2
    exact Option.map_congr fun p _ => hf p
  split at ht
  · rw [if_pos ‹_›, hstage] at hfin
    rw [if_pos ‹_›]
    exact h y hy t ht hfin
  · rw [if_neg ‹_›] at hfin ⊢
    exact h y hy t ht hfin

theorem finalsFrom_releaseTest (h : FinalsFrom s₀ e) (t : Tunnel) (grant : Bool) :
    FinalsFrom s₀ (e.releaseTest t grant).1 := by
  rcases e.releaseTest_cases t grant with he | ⟨r, v, -, -, -, he⟩ | ⟨r, v, d, cause, e', hf, hv, hg, he, h'⟩
  · rw [he]
    exact h
  · rw [he]
    exact h
  · rw [h']
    have hr : r.place = .tunnel t := (mem_of_finalRack hf).2.1
    rcases he with rfl | ⟨p, -, -, rfl⟩
    · exact h.rejoined (fun t' => d.place_ne_tunnel t') (release_racks hr e' v d cause)
    · exact h.rejoined (fun t' => d.place_ne_tunnel t') (release_racks hr _ v d cause)

theorem stoodInFinal_of_finalRack (h : FinalsFrom s₀ e) {t : Tunnel} {r : Rack} (hf : e.toState.finalRack t = some r) :
    StoodInFinal s₀ t r.tag := by
  obtain ⟨hm, hp, hfin⟩ := mem_of_finalRack hf
  exact h r hm t hp hfin

/-- A readiness test forms the verdict of a rack that stands in FINAL, and may release it. -/
theorem acts_readinessTest (h : FinalsFrom s₀ e) (t : Tunnel) :
    Acts s₀ e (e.readinessTest t) ∧ FinalsFrom s₀ (e.readinessTest t) := by
  rcases e.readinessTest_cases t with he | ⟨r, p, hf, hp, -, -, he⟩
  · rw [he]
    exact ⟨.refl, h⟩
  · obtain ⟨hm, hpl, hfin⟩ := mem_of_finalRack hf
    have hjudge : Act s₀ e (e.modifySheet r.tag fun p => p.judged e.config e.now) :=
      .sheet hm hpl (sheetKept_final hfin (fun p => (judged_fields p _ _).1) (fun p => (judged_fields p _ _).2.1)
        (fun p => (judged_fields p _ _).2.2.1) (fun p hc => (judged_fields p _ _).2.2.2.1.trans_le hc)
        (fun p hr => by rw [(judged_fields p _ _).2.2.2.2.1]; exact hr)
        fun _ _ _ => .inr (stoodInFinal_of_finalRack h hf))
    have hkept : FinalsFrom s₀ (e.modifySheet r.tag fun p => p.judged e.config e.now) :=
      h.modifySheet fun p => (judged_fields p _ _).2.1
    rw [he]
    split
    · exact ⟨(Relation.ReflTransGen.single hjudge).trans (acts_releaseTest t true),
        finalsFrom_releaseTest hkept t true⟩
    · exact ⟨.single hjudge, hkept⟩

/-! ### The end of an event -/

theorem acts_roomReport (t : Tunnel) : Acts s₀ e (e.roomReport t) := by
  unfold Event.roomReport
  split
  · have hroom : Acts s₀ e { e with room := e.room.set t false } := acts_same ⟨rfl, rfl, rfl, rfl, fun _ => rfl, id⟩
    dsimp only
    split
    · exact hroom.trans (acts_releaseTest t true)
    · exact hroom
  · exact .refl

theorem restart_of_other {t : Tunnel} (h : (e.tunnels.get t).state ≠ .economy) : e.restart t = e := by
  unfold Event.restart
  dsimp only
  split
  · exact absurd ‹_› h
  · rfl

theorem restart_of_economy {t : Tunnel} (h : (e.tunnels.get t).state = .economy) : e.restart t =
    if (e.tunnels.get t).economyStart.any fun x => decide (elapsed e.now x < e.config.coolTime) then
      (e.setTunnel t { e.tunnels.get t with
        economyStart := none
        restartTimer := some (e.now + BitVec.ofNat 32 e.config.restartDelay) }).enter t .restarting
    else (e.setTunnel t { e.tunnels.get t with economyStart := none }).enter t .warming := by
  unfold Event.restart
  simp only [h]
  cases (e.tunnels.get t).economyStart <;> rfl

theorem acts_restart (t : Tunnel) : Acts s₀ e (e.restart t) := by
  by_cases hst : (e.tunnels.get t).state = .economy
  · rw [restart_of_economy hst]
    split
    · refine .single (act_turned (fun ⟨h1, _, h3, h4, h5, h6⟩ => ?_) nofun)
      refine ⟨fun _ => h1 (by rw [hst]; rfl), nofun, ?_, ?_, ?_, ?_⟩ <;> simp_all
    · refine .single (act_turned (fun ⟨_, _, h3, h4, h5, h6⟩ => ?_) nofun)
      refine ⟨nofun, nofun, ?_, ?_, ?_, ?_⟩ <;> simp_all
  · rw [restart_of_other hst]

theorem acts_wake : Acts s₀ e e.wake := by
  unfold Event.wake
  dsimp only
  split
  · exact .refl
  · split
    · exact acts_restart .a
    · split
      · exact acts_restart .b
      · exact .refl

theorem acts_idleExpire (t : Tunnel) : Acts s₀ e (e.idleExpire t) := by
  unfold Event.idleExpire
  split
  · rename_i hd
    have hlane : e.toState.lane t = [] := by
      simp only [State.idleDue, Bool.and_eq_true, List.isEmpty_iff] at hd
      exact hd.1.2
    have hstate : (e.tunnels.get t).state = .ready ∨ (e.tunnels.get t).state = .running := by
      simp only [State.idleDue, Bool.and_eq_true, Bool.or_eq_true, decide_eq_true_eq] at hd
      exact hd.1.1.1.1
    refine .single (act_turned (fun h => ?_) nofun)
    obtain ⟨h1, h2, h3, h4, h5, h6⟩ := h
    refine ⟨fun _ => hlane, nofun, ?_, ?_, ?_, ?_⟩ <;> rcases hstate with hst | hst <;> simp_all
  · exact .refl

/-- The grant of the pending admission (R93). -/
theorem acts_grant (h : Lawful s₀ e) {q : PendingAdmission} (hq : e.pendingAdmission = some q) {t : Tunnel}
    (ht : e.toState.eligible t = true) : Acts s₀ e (e.grant q t) := by
  obtain ⟨htag, hs⟩ := (pendingSound_iff hq).mp ((recordLaw_iff _).mp h.law).2
  have hsend : Same e.dropPending (e.dropPending.send q.port (.grantAdmit q.tag t)) :=
    ⟨rfl, rfl, rfl, rfl, fun _ => rfl, id⟩
  have hdrop : Acts s₀ e (e.dropPending.send q.port (.grantAdmit q.tag t)) :=
    acts_then_same (.single .dropped) hsend
  unfold Event.grant
  rcases hs with ⟨he, hnone⟩ | ⟨he, r, hr, ha⟩
  · obtain ⟨a, ha⟩ := Option.isSome_iff_exists.mp he
    have hload := h.table.load
    rw [tableLoad_eq, reserved, hq, Option.bind_some, if_pos he] at hload
    simp only [ha]
    refine hdrop.tail (.enrolledInLane htag (h.fresh q hq (by rw [ha]; nofun)) hnone ?_ rfl ht)
    exact Nat.lt_of_succ_le hload
  · have hr' : (e.dropPending.send q.port (.grantAdmit q.tag t)).toState.rack? q.tag = some r := hr
    simp only [he, hr']
    exact hdrop.tail (.admitted (State.rack?_some hr).1 ha rfl ht)

theorem acts_reevaluate (h : Lawful s₀ e) : Acts s₀ e e.reevaluate := by
  unfold Event.reevaluate
  split
  · have hflag : Same e { e with wantReeval := false } := ⟨rfl, rfl, rfl, rfl, fun _ => rfl, id⟩
    have h' : Lawful s₀ { e with wantReeval := false } := lawful_act h (.same hflag)
    refine (acts_same hflag).trans ?_
    dsimp only
    split
    · exact .refl
    · rename_i q hq
      split
      · rename_i t ht
        exact acts_grant h' hq (eligible_of_chosen ht)
      · exact acts_wake
  · exact .refl

theorem acts_pass (h : Lawful s₀ e) : Acts s₀ e e.pass := by
  have hroom : Acts s₀ e e.roomReports := (acts_roomReport .a).trans (acts_roomReport .b)
  exact hroom.trans (acts_reevaluate (lawful_acts h hroom))

theorem acts_pairIfWanted : Acts s₀ e e.pairIfWanted := by
  unfold Event.pairIfWanted
  split
  · exact .single .paired
  · exact .refl

theorem acts_idleIfWanted : Acts s₀ e e.idleIfWanted := by
  unfold Event.idleIfWanted
  split
  · have hflag : Same e { e with wantIdle := false } := ⟨rfl, rfl, rfl, rfl, fun _ => rfl, id⟩
    exact (acts_same hflag).trans ((acts_idleExpire .a).trans (acts_idleExpire .b))
  · exact .refl

theorem acts_settle (h : Lawful s₀ e) : Acts s₀ e e.settle := by
  have step {e' : Event} (ha : Acts s₀ e e') : Acts s₀ e e'.pass := ha.trans (acts_pass (lawful_acts h ha))
  exact (step (step (step (step acts_pairIfWanted)))).trans acts_idleIfWanted

end Sys2Proof.Proofs.Chains
end

section
/-! What each row begins is a chain of acts. -/

namespace Sys2Proof.Proofs.Beginnings

open Sys2Proof.Machine Sys2Proof.Proofs.Tables Sys2Proof.Proofs.Acts Sys2Proof.Proofs.ActsKeepTheTable
  Sys2Proof.Proofs.Chains Sys2Proof.Proofs.Effects Sys2Proof.Proofs.Registers

variable {s : State}

theorem lawful_event (h : s.recordLaw) : Lawful s s.event where
  law := h
  fresh := fun q hq he => by
    have hs := ((recordLaw_iff s).mp h).2
    obtain ⟨-, ⟨-, hn⟩ | ⟨hn, -⟩⟩ := (pendingSound_iff hq).mp hs
    · exact hn
    · exact absurd hn he

theorem acts_raise {s₀ : State} (e : Event) (n : Notice) : Acts s₀ e (e.raise n) :=
  acts_same ⟨rfl, rfl, rfl, rfl, fun _ => rfl, id⟩

theorem offLane_of_state {r : Rack} (h : SoundRack r) (hs : r.state ≠ .washing) : OffLane r := by
  intro t ht
  have := h.placed
  rw [Rack.placed, ht] at this
  exact hs (of_decide_eq_true this)

/-! ### Windows -/

/-- What the tests of an enrolment can answer. -/
theorem enrolTests_cases (e : Event) (tag : Nat) (own : TagWindow → Option Status) :
    (∃ e' st, e.enrolTests tag own = .error (e', st) ∧ (e' = e ∨ ∃ n, e' = e.raise n)) ∨
      ∃ w, e.config.classify tag = some w ∧ own w = none ∧ e.toState.tableLoad < Config.tableSlots ∧
        e.enrolTests tag own = .ok w.attributes := by
  unfold Event.enrolTests
  split
  · exact .inl ⟨_, _, rfl, .inr ⟨_, rfl⟩⟩
  · rename_i w hw
    split
    · split
      · exact .inl ⟨_, _, rfl, .inl rfl⟩
      · rename_i ho
        split
        · rename_i hl
          exact .inr ⟨w, hw, ho, hl, rfl⟩
        · exact .inl ⟨_, _, rfl, .inr ⟨_, rfl⟩⟩
    · exact .inl ⟨_, _, rfl, .inl rfl⟩

theorem acts_enrolTests_error {s₀ : State} {e e' : Event} {tag : Nat} {own : TagWindow → Option Status} {st : Status}
    (h : e.enrolTests tag own = .error (e', st)) : Acts s₀ e e' := by
  rcases enrolTests_cases e tag own with ⟨e₁, st₁, h₁, he⟩ | ⟨w, -, -, -, h₁⟩
  · cases h.symm.trans h₁
    rcases he with rfl | ⟨n, rfl⟩
    · exact .refl
    · exact acts_raise e n
  · cases h.symm.trans h₁

theorem enrolTests_ok {e : Event} {tag : Nat} {own : TagWindow → Option Status} {a : EnrolAttributes}
    (h : e.enrolTests tag own = .ok a) :
    e.toState.tableLoad < Config.tableSlots ∧ ∃ w, e.config.classify tag = some w ∧ own w = none := by
  rcases enrolTests_cases e tag own with ⟨e₁, st₁, h₁, -⟩ | ⟨w, hw, ho, hl, -⟩
  · cases h.symm.trans h₁
  · exact ⟨hl, w, hw, ho⟩

theorem acts_takeAtWindow {s₀ : State} {e : Event} {w : Window} {r : Rack} {b : Bool} (hr : r ∈ e.racks)
    (ho : Offered e w r b) : Acts s₀ e (e.takeAtWindow w r b).event := by
  unfold Event.takeAtWindow
  split
  · exact .refl
  · rename_i st p hf
    have hact : Act s₀ e _ := .taken hr ho hf
    cases b <;> exact .single hact

theorem acts_sight (w : Window) {tag : Nat} (ht : isTag tag = true) :
    Acts s s.event (s.event.serveSight w tag).event := by
  unfold Event.serveSight
  split
  · rename_i r hr
    have hm : r ∈ s.event.racks := (State.rack?_some hr).1
    unfold Event.sightKnown
    split
    · exact .refl
    · split
      · rename_i hp hd
        split
        · rename_i hw
          exact acts_takeAtWindow hm (.routed hp (hw ▸ hd))
        · exact .refl
      · rename_i hp hd
        split
        · exact .refl
        · split
          · exact .refl
          · rename_i hn
            exact acts_takeAtWindow hm (.unassigned hp hd (not_or.mp hn).2)
      · rename_i hp
        split
        · exact .refl
        · split
          · exact .refl
          · rename_i hn
            exact acts_takeAtWindow hm (.stored hp (not_or.mp hn).2)
      · exact .refl
  · rename_i hr
    unfold Event.sightUnknown
    split
    · exact acts_enrolTests_error ‹_›
    · rename_i a ha
      obtain ⟨hl, tw, -, hown⟩ := enrolTests_ok ha
      split
      · exact .refl
      · rename_i st p hf
        have hentries : s.event.toState.entriesOf w ≠ [] := by
          unfold Event.sightTests at hown
          split at hown
          · cases hown
          · split at hown
            · cases hown
            · exact (not_or.mp ‹_›).2
        exact .single (.enrolledAt ht hr hr hl hentries hf)

theorem cancelPending_of_offered {e e' : Event} {s₀ : State} (h : Lawful s₀ e) {r : Rack} (hr : r ∈ e.racks)
    (ha : r.admissible = false) (hp : e'.pendingAdmission = e.pendingAdmission) : e'.cancelPending r.tag = e' := by
  refine Event.cancelPending_of_ne fun ht => ?_
  rw [hp] at ht
  obtain ⟨q, hq, he⟩ := Option.map_eq_some_iff.mp ht
  exact pending_tag_ne h.law hq hr ha he

theorem move_pending (e : Event) (r : Rack) (st : RackState) (p : Place) (cause : Option HoldCause) :
    (e.move r st p cause).pendingAdmission = e.pendingAdmission := (departed_pending _ _).trans (join_pending _ _)

/-- A move of a rack that may not be admitted. -/
theorem acts_move {s₀ : State} {e : Event} (h : Lawful s₀ e) {r r' : Rack} {st : RackState} {p : Place}
    {cause : Option HoldCause} (hr : r ∈ e.racks) (ho : OffLane r) (hc : r.place ≠ .collect) (hu : r.place ≠ .unknown)
    (ha : Alike r r') (hg : Goes st p cause) (hroom : e.toState.hasRoom p = true) :
    Acts s₀ e (e.move r' st p cause) := by
  have hact : Act s₀ e ((e.move r' st p cause).cancelPending r.tag) := .moved hr ho ha hg hroom
  rw [cancelPending_of_offered h hr (not_admissible_of_place hc hu) (move_pending e r' st p cause)] at hact
  exact .single hact

theorem acts_dispatch (h : s.recordLaw) (w : Window) (l : Option (Fin 8)) :
    Acts s s.event (s.event.serveDispatch w l).event := by
  unfold Event.serveDispatch
  split
  · exact .refl
  · rename_i r hr
    obtain ⟨hm, hp⟩ := mem_of_fillRack hr
    split
    · exact .refl
    · rename_i hroom
      have hs := (lawful_event h).soundRack hm
      have hcount : s.event.toState.hasRoom .collect = true := by
        simp only [State.hasRoom, decide_eq_true_eq]
        change ¬ Config.collectCapacity - _ ≤ _ at hroom
        omega
      exact acts_move (lawful_event h) hm (fun t => by rw [hp]; nofun) (by rw [hp]; nofun) (by rw [hp]; nofun)
        ⟨rfl, rfl, rfl, rfl, rfl, rfl, rfl, rfl, Nat.zero_le _, hs.cycles⟩ .collect hcount

/-! ### Racks -/

theorem acts_retire {r : Rack} {s₀ : State} {e : Event} (hr : r ∈ e.racks) (ho : OffLane r) :
    Acts s₀ e (e.retireRack r) := .single (.retired hr ho)

theorem acts_withdraw (h : s.recordLaw) (tag : Nat) : Acts s s.event (s.event.serveWithdraw tag).event := by
  unfold Event.serveWithdraw
  split
  · exact .refl
  · rename_i r hr
    have hm : r ∈ s.event.racks := (State.rack?_some hr).1
    split
    · exact .refl
    · split
      · exact .refl
      · exact acts_retire hm (offLane_of_state ((lawful_event h).soundRack hm) ‹_›)

theorem alike_emptied {r : Rack} (c : Configuration) : Alike r (c.emptiedRack r) :=
  ⟨rfl, rfl, rfl, rfl, rfl, rfl, rfl, rfl, Nat.zero_le _, Nat.min_le_right _ _⟩

theorem acts_emptied (h : s.recordLaw) (t : Tunnel) {tag : Nat} (ht : isTag tag = true) :
    Acts s s.event (s.event.serveEmptied t tag).event := by
  unfold Event.serveEmptied
  split
  · rename_i hr
    unfold Event.emptiedUnknown
    split
    · exact acts_enrolTests_error ‹_›
    · rename_i a ha
      obtain ⟨hl, tw, -, hown⟩ := enrolTests_ok ha
      have hroom : s.event.toState.hasRoom .returnLoop = true := by
        split at hown
        · assumption
        · cases hown
      exact (acts_raise s.event .unproven).tail
        (.enrolledOnReturn (e := s.event.raise .unproven) ht hr hr hl hroom)
  · rename_i r hr
    have hm : r ∈ s.event.racks := (State.rack?_some hr).1
    split
    · rename_i hp
      have hraise (e : Event) (he : e = s.event ∨ e = s.event.raise .serviceDue) : Lawful s e := by
        rcases he with rfl | rfl
        · exact lawful_event h
        · exact lawful_acts (lawful_event h) (acts_raise _ _)
      have hmove (e : Event) (he : e = s.event ∨ e = s.event.raise .serviceDue) {st : RackState} {p : Place}
          {cause : Option HoldCause} (hg : Goes st p cause) (hroom : s.hasRoom p = true) :
          Acts s s.event (e.move (s.event.config.emptiedRack r) st p cause) := by
        have hac : Acts s s.event e := by
          rcases he with rfl | rfl
          · exact .refl
          · exact acts_raise _ _
        refine hac.trans ?_
        have hm' : r ∈ e.racks := by rcases he with rfl | rfl <;> exact hm
        have hroom' : e.toState.hasRoom p = true := by rcases he with rfl | rfl <;> exact hroom
        exact acts_move (hraise e he) hm' (fun t => by rw [hp]; nofun) (by rw [hp]; nofun) (by rw [hp]; nofun)
          (alike_emptied _) hg hroom'
      unfold Event.emptiedKnown
      dsimp only
      split
      · rename_i hd
        exact hmove _ (.inr rfl) (.hold _) (Bool.and_eq_true_iff.mp hd).2
      · split
        · rename_i hroom
          dsimp only
          split
          · exact hmove _ (.inr rfl) .returnLoop hroom
          · exact hmove _ (.inl rfl) .returnLoop hroom
        · exact .refl
    · exact .refl

theorem alike_relocated {r : Rack} (h : SoundRack r) (g : Target) : Alike r (r.relocated g) := by
  have hpasses : (r.relocated g).passes = if g = .collect then 0 else r.passes := by
    unfold Rack.relocated
    dsimp only
    split <;> split <;> rfl
  have hcycles : (r.relocated g).cycles = if r.heldForService = true then 0 else r.cycles := by
    unfold Rack.relocated
    dsimp only
    split <;> split <;> rfl
  constructor
  case passes =>
    rw [hpasses]
    split
    · exact Nat.zero_le _
    · exact h.passes
  case cycles =>
    rw [hcycles]
    split
    · exact Nat.zero_le _
    · exact h.cycles
  all_goals
    unfold Rack.relocated
    dsimp only
    split <;> split <;> rfl

theorem acts_relocate (h : s.recordLaw) (tag : Nat) (g : Target) :
    Acts s s.event (s.event.serveRelocate tag g).event := by
  unfold Event.serveRelocate
  split
  · exact .refl
  · rename_i r hr
    obtain ⟨hm, htag⟩ := State.rack?_some hr
    have hm' : r ∈ s.event.racks := hm
    have hs := (lawful_event h).soundRack hm'
    split
    · exact .refl
    · rename_i hst
      split
      · split
        · rename_i hroom
          have hg : Goes g.rackState g.place (if g = .hold then some .manual else none) := by cases g <;> constructor
          subst htag
          exact .single (.moved hm' (offLane_of_state hs hst) (alike_relocated hs g) hg hroom)
        · exact .refl
      · exact .refl

/-! ### Admission -/

theorem acts_becomePending {q : PendingAdmission} (hn : s.pendingAdmission = none)
    (hf : q.enrol ≠ none → s.rack? q.tag = none ∧ s.racks.length < Config.tableSlots)
    (hs : State.pendingSound { s with pendingAdmission := some q } = true) :
    Acts s s.event (s.event.becomePending q).event := by
  have hact : Act s s.event { s.event with pendingAdmission := some q } := .becamePending hn hf hs
  exact (Relation.ReflTransGen.single hact).trans acts_wake

theorem acts_admit (p : Port) {tag : Nat} (ht : isTag tag = true) :
    Acts s s.event (s.event.serveAdmit p tag).event := by
  unfold Event.serveAdmit
  split
  · exact .refl
  · rename_i hpend
    have hn : s.pendingAdmission = none := Option.not_isSome_iff_eq_none.mp hpend
    split
    · rename_i hr
      have hr' : s.rack? tag = none := hr
      split
      · exact acts_enrolTests_error ‹_›
      · rename_i a ha
        have hl : s.racks.length < Config.tableSlots := by
          have hload : s.tableLoad < Config.tableSlots := (enrolTests_ok ha).1
          rw [tableLoad_eq] at hload
          omega
        split
        · exact .single (.enrolledInLane ht hr hr hl hn (eligible_of_chosen ‹_›))
        · refine acts_becomePending hn (fun _ => ⟨hr, hl⟩) ?_
          exact (pendingSound_iff (q := ⟨tag, p, some a⟩) rfl).mpr ⟨ht, .inl ⟨rfl, hr'⟩⟩
    · rename_i r hr
      have hm : r ∈ s.event.racks := (State.rack?_some hr).1
      split
      · rename_i ha
        split
        · exact .single (.admitted hm ha hn (eligible_of_chosen ‹_›))
        · refine acts_becomePending hn (fun he => absurd rfl he) ?_
          exact (pendingSound_iff (q := ⟨tag, p, none⟩) rfl).mpr ⟨ht, .inr ⟨rfl, r, hr, ha⟩⟩
      · exact .refl

/-! ### Reports and the gate -/

theorem acts_section (t : Tunnel) {st : Stage} (seq : Byte) (m fault : Nat) (hst : st ≠ .final) :
    Acts s s.event (s.event.serveSection t st seq m fault).event := by
  unfold Event.serveSection
  split
  · exact acts_raise _ _
  · rename_i r hr
    have hm : r ∈ s.event.toState.lane t := List.mem_of_find?_eq_some hr
    have hstage : r.stage? = some st := by simpa using List.find?_some hr
    split
    · exact acts_raise _ _
    · rename_i p hp
      dsimp only
      split
      · rename_i hroom
        have hpst : p.stage = st := by simpa [Rack.stage?, hp] using hstage
        exact acts_then_same (.single (.advanced hm hp hpst hst hroom)) ⟨rfl, rfl, rfl, rfl, fun _ => rfl, id⟩
      · exact acts_raise _ _

theorem sampled_credit_le (p : PassSheet) (x : Nat) (now : Tick) : (p.sampled x now).credit ≤ Config.maxCredit :=
  Nat.min_le_right _ _

theorem acts_sample (t : Tunnel) (x : Nat) : Acts s s.event (s.event.serveSample t x).event := by
  have hsame : Same s.event (s.event.setTunnel t { s.event.tunnels.get t with lastSample := some s.event.now }) :=
    same_setTunnel rfl
  have hfinals : FinalsFrom s (s.event.setTunnel t { s.event.tunnels.get t with lastSample := some s.event.now }) :=
    (FinalsFrom.event s).of_racks rfl
  unfold Event.serveSample
  dsimp only
  generalize s.event.setTunnel t { s.event.tunnels.get t with lastSample := some s.event.now } = e at hsame hfinals
  split
  · exact acts_same hsame
  · rename_i r hr
    split
    · exact acts_same hsame
    · obtain ⟨hm, hp, hfin⟩ := mem_of_finalRack hr
      have hsheet : Act s e (e.modifySheet r.tag fun p => p.sampled x e.now) :=
        .sheet hm hp (sheetKept_final hfin (fun _ => rfl) (fun _ => rfl) (fun _ => rfl)
          (fun p _ => sampled_credit_le p x e.now) (fun _ _ => rfl) fun _ _ hv => .inl hv)
      have hfinals' : FinalsFrom s (e.modifySheet r.tag fun p => p.sampled x e.now) := hfinals.modifySheet fun _ => rfl
      exact ((acts_same hsame).tail hsheet).trans (acts_readinessTest hfinals' t).1

theorem acts_exit (t : Tunnel) (p : Port) (tag : Nat) : Acts s s.event (s.event.serveExit t p tag).event := by
  unfold Event.serveExit
  split
  · exact acts_raise _ _
  · rename_i read hread
    split
    · exact acts_raise _ _
    · rename_i r hr
      obtain ⟨hm, hp, hfin⟩ := mem_of_finalRack hr
      split
      · unfold Event.exitMatch
        split
        · exact .refl
        · split
          · exact .refl
          · have hsheet : Act s s.event (s.event.modifySheet r.tag fun sh => { sh with exitRequested := true }) :=
              .sheet hm hp (sheetKept_final hfin (fun _ => rfl) (fun _ => rfl) (fun _ => rfl) (fun _ h => h)
                (fun _ h => h) fun _ _ hv => .inl hv)
            dsimp only
            generalize s.event.modifySheet r.tag (fun sh => { sh with exitRequested := true }) = e at hsheet
            have hport : Acts s s.event (e.setTunnel t { e.tunnels.get t with deferredExit := some p }) :=
              acts_then_same (.single hsheet) (same_setTunnel rfl)
            generalize e.setTunnel t { e.tunnels.get t with deferredExit := some p } = e' at hport
            have htest : Acts s s.event (e'.releaseTest t false).1 := hport.trans (acts_releaseTest t false)
            split <;> exact htest
      · rename_i hne
        split
        · rename_i hplace
          exact .single (.mismatched hr hread hplace hne)
        · exact acts_raise _ _

theorem acts_tank (t : Tunnel) (c : TankCondition) : Acts s s.event (s.event.serveTank t c).event := by
  change Acts s s.event (s.event.tankReport t c)
  unfold Event.tankReport
  dsimp only
  split
  · rename_i hst
    split
    · rename_i hlane
      have hl : s.event.toState.lane t = [] := List.isEmpty_iff.mp hlane
      refine .single (act_turned (fun ⟨_, _, h3, h4, h5, h6⟩ => ?_) nofun)
      refine ⟨nofun, nofun, ?_, ?_, ?_, ?_⟩ <;> simp_all
    · rename_i hlane
      refine .single (act_entered (fun ⟨_, _, h3, h4, h5, h6⟩ => ?_) nofun)
      rw [List.isEmpty_iff] at hlane
      refine ⟨nofun, nofun, ?_, ?_, ?_, ?_⟩ <;> simp_all
  · rename_i hst
    refine .single (act_turned (fun ⟨_, _, h3, h4, h5, h6⟩ => ?_) nofun)
    refine ⟨nofun, nofun, ?_, ?_, ?_, ?_⟩ <;> simp_all
  · rename_i hst
    refine .single (act_turned (fun ⟨_, _, h3, h4, h5, h6⟩ => ?_) nofun)
    refine ⟨nofun, nofun, ?_, ?_, ?_, ?_⟩ <;> simp_all
  · rename_i hst
    refine .single (act_turned (fun ⟨_, _, h3, h4, h5, h6⟩ => ?_) nofun)
    refine ⟨nofun, nofun, ?_, ?_, ?_, ?_⟩ <;> simp_all
  · rename_i hst
    refine .single (act_turned (fun ⟨_, _, h3, h4, h5, h6⟩ => ?_) nofun)
    refine ⟨nofun, nofun, ?_, ?_, ?_, ?_⟩ <;> simp_all
  · exact .refl
  · exact .refl
  · exact .single .tornDown
  · exact .refl

/-- What a served request begins. -/
theorem acts_owner (h : s.recordLaw) (p : Port) (t : Tunnel) (req : Request) (hv : valid req) :
    Acts s s.event (s.event.owner p t req).event := by
  cases req
  case sight w tag => exact acts_sight w hv
  case dispatch w l => exact acts_dispatch h w l
  case mode w m => exact .single .modeSet
  case withdraw tag => exact acts_withdraw h tag
  case query tag =>
    change Acts s s.event (s.event.serveQuery tag).event
    unfold Event.serveQuery
    split <;> exact .refl
  case admitRequest tag => exact acts_admit p hv
  case sectionReport st seq m f => exact acts_section t seq m f hv.1
  case sample x => exact acts_sample t x
  case exit tag => exact acts_exit t p tag
  case tank c => exact acts_tank t c
  case emptied tag => exact acts_emptied h t hv
  case relocate tag g => exact acts_relocate h tag g

/-! ### Commands and expiries -/

theorem acts_start (t : Tunnel) : Acts s s.event (s.event.startTunnel t).1 := by
  unfold Event.startTunnel
  dsimp only
  split
  · rename_i hst
    refine .single (act_turned (fun ⟨_, _, h3, h4, h5, h6⟩ => ?_) nofun)
    refine ⟨nofun, nofun, ?_, ?_, ?_, ?_⟩ <;> simp_all
  · exact .refl

theorem stop_fits {c : TunnelContext} {lane : List Rack} :
    TimersFit { c.withoutTimers with state := if lane.isEmpty then .off else .closing } lane := by
  cases lane with
  | nil => refine ⟨fun _ => rfl, nofun, ?_, ?_, ?_, ?_⟩ <;> simp [TunnelContext.withoutTimers]
  | cons x xs => refine ⟨nofun, fun _ => nofun, ?_, ?_, ?_, ?_⟩ <;> simp [TunnelContext.withoutTimers]

theorem acts_stop (t : Tunnel) : Acts s s.event (s.event.stopTunnel t).1 := by
  have hstop : Acts s s.event ((s.event.setTunnel t (s.event.tunnels.get t).withoutTimers).enter t
      (if (s.event.toState.lane t).isEmpty then .off else .closing)) :=
    .single (act_turned (fun _ => stop_fits) fun hf => by split at hf <;> cases hf)
  unfold Event.stopTunnel
  dsimp only
  split
  case h_1 | h_2 | h_3 | h_4 | h_5 => exact hstop
  all_goals exact .refl

theorem acts_flush (t : Tunnel) : Acts s s.event (s.event.flushTunnel t).1 := by
  unfold Event.flushTunnel
  dsimp only
  split
  · exact .refl
  · rename_i hother
    split
    · rename_i hc
      obtain ⟨hst, hlane⟩ := hc
      rw [List.isEmpty_iff] at hlane
      refine .single (act_turned (fun ⟨_, _, h3, h4, h5, h6⟩ => ?_) fun _ => hother)
      refine ⟨fun _ => hlane, nofun, ?_, ?_, ?_, ?_⟩ <;> rcases hst with hst | hst <;> simp_all
    · exact .refl

theorem acts_clearFault (t : Tunnel) : Acts s s.event (s.event.clearFault t).1 := by
  unfold Event.clearFault
  split
  · rename_i hst
    refine .single (act_entered (fun ⟨h1, _, h3, h4, h5, h6⟩ => ?_) nofun)
    refine ⟨fun _ => h1 (by rw [hst]; rfl), nofun, ?_, ?_, ?_, ?_⟩ <;> simp_all
  · exact .refl

theorem acts_restartExpire {t : Tunnel} (hst : (s.tunnels.get t).state = .restarting) :
    Acts s s.event (s.event.restartExpire t) := by
  have hst' : (s.event.tunnels.get t).state = .restarting := hst
  unfold Event.restartExpire
  refine .single (act_turned (fun ⟨h1, _, h3, h4, h5, h6⟩ => ?_) nofun)
  have hlane := h1 (by rw [hst']; rfl)
  refine ⟨nofun, nofun, ?_, ?_, ?_, ?_⟩ <;> simp_all

/-! ### WRITE_CONFIG -/

/-- What has happened so far in a WRITE_CONFIG: acts that bring no rack to FINAL. -/
structure SoFar (s : State) (e : Event) : Prop where
  acts : Acts s s.event e
  finals : FinalsFrom s e

theorem SoFar.lawful {e : Event} (h : s.recordLaw) (hs : SoFar s e) : Lawful s e := lawful_acts (lawful_event h) hs.acts

theorem SoFar.same {e e' : Event} (h : SoFar s e) (hs : Same e e') : SoFar s e' :=
  ⟨acts_then_same h.acts hs, h.finals.of_racks hs.racks⟩

theorem soFar_cancelExit {e : Event} (h : SoFar s e) (p : Port) (t : Tunnel) : SoFar s (e.cancelExit p t) := by
  unfold Event.cancelExit
  split
  · dsimp only
    split
    · rename_i r hr
      obtain ⟨hm, hp, hfin⟩ := mem_of_finalRack hr
      have hsheet : Act s e (e.modifySheet r.tag fun sh => { sh with exitRequested := false }) :=
        .sheet hm hp (sheetKept_final hfin (fun _ => rfl) (fun _ => rfl) (fun _ => rfl) (fun _ h => h)
          (fun _ h => h) fun _ _ hv => .inl hv)
      exact SoFar.same ⟨h.acts.tail hsheet, h.finals.modifySheet fun _ => rfl⟩ (same_setTunnel rfl)
    · exact h.same (same_setTunnel rfl)
  · exact h

theorem soFar_roleChanged {e : Event} (h : SoFar s e) (p : Port) : SoFar s (e.roleChanged p) := by
  unfold Event.roleChanged
  dsimp only
  refine soFar_cancelExit (soFar_cancelExit ?_ p .a) p .b
  have hports : SoFar s { e with ports := e.ports.set p { e.ports[p] with queue := e.ports[p].queue.take 1 } } :=
    h.same ⟨rfl, rfl, rfl, rfl, fun _ => rfl, id⟩
  split
  · exact ⟨hports.acts.tail .dropped, hports.finals.of_racks rfl⟩
  · exact hports

theorem soFar_rolesChanged (old : Configuration) (ps : List Port) : ∀ e : Event, SoFar s e →
    SoFar s (e.rolesChanged old ps) := by
  induction ps with
  | nil => exact fun e h => h
  | cons p ps ih =>
    intro e h
    rw [Event.rolesChanged]
    split
    · exact ih _ h
    · exact ih _ (soFar_roleChanged h p)

/-- A record in UNKNOWN leaves the table with nothing set off but the cancelling of its admission. -/
theorem retireRack_racks_of_unknown {e : Event} {r : Rack} (hp : r.place = .unknown) :
    (e.retireRack r).racks = e.racks.filter (·.tag ≠ r.tag) := by
  rw [Event.retireRack, cancelPending_racks, Event.remove, Event.departed]
  simp only [hp]

theorem soFar_loseRecords (rs : List Rack) : ∀ e : Event, SoFar s e → Tags rs →
    (∀ r ∈ rs, r ∈ e.racks ∧ r.place = .unknown) → SoFar s (e.loseRecords rs) := by
  induction rs with
  | nil => exact fun e h _ _ => h
  | cons r rs ih =>
    intro e h hd hm
    obtain ⟨hr, hp⟩ := hm r List.mem_cons_self
    have hraise : SoFar s (e.raise .lostRetired) := h.same ⟨rfl, rfl, rfl, rfl, fun _ => rfl, id⟩
    have hracks : (e.loseRecord r).racks = e.racks.filter (·.tag ≠ r.tag) := retireRack_racks_of_unknown hp
    have hlose : SoFar s (e.loseRecord r) :=
      ⟨hraise.acts.tail (.retired hr fun t => by rw [hp]; nofun), hraise.finals.without hracks⟩
    refine ih _ hlose (tags_of_cons hd) fun x hx => ?_
    obtain ⟨hxm, hxp⟩ := hm x (List.mem_cons_of_mem _ hx)
    rw [hracks]
    exact ⟨List.mem_filter.mpr ⟨hxm, decide_eq_true (absent_of_tags_cons hd x hx)⟩, hxp⟩

theorem soFar_testAfterWrite {e : Event} (h : SoFar s e) (old : Configuration) (written : List Item) (t : Tunnel) :
    SoFar s (e.testAfterWrite old written t) := by
  unfold Event.testAfterWrite
  split
  · obtain ⟨ha, hf⟩ := acts_readinessTest h.finals t
    exact ⟨h.acts.trans ha, hf⟩
  · exact h

theorem place_of_lostDue {r : Rack} (h : s.lostDue r = true) : r.place = .unknown := by
  simp only [State.lostDue, Bool.and_eq_true, decide_eq_true_eq] at h
  exact h.1.1.1

theorem acts_afterWrite (h : s.recordLaw) (new old : Configuration) (items : List Item) :
    Acts s s.event (({ s.event with config := new } : Event).afterWrite old items) := by
  have hconfig : SoFar s { s.event with config := new } :=
    SoFar.same ⟨.refl, FinalsFrom.event s⟩ ⟨rfl, rfl, rfl, rfl, fun _ => rfl, id⟩
  have hroles := soFar_rolesChanged old allPorts _ hconfig
  unfold Event.afterWrite
  dsimp only
  generalize ({ s.event with config := new } : Event).rolesChanged old allPorts = e at hroles
  have hlost : SoFar s (if .lostTimeout ∈ items then e.loseRecords (e.racks.filter e.toState.lostDue) else e) := by
    split
    · refine soFar_loseRecords _ e hroles ?_ fun r hr => ?_
      · exact (hroles.lawful h).tags.sublist (List.filter_sublist.map _)
      · obtain ⟨hm, hd⟩ := List.mem_filter.mp hr
        exact ⟨hm, place_of_lostDue hd⟩
    · exact hroles
  have htests := soFar_testAfterWrite (soFar_testAfterWrite hlost old items .a) old items .b
  exact acts_then_same htests.acts ⟨rfl, rfl, rfl, rfl, fun _ => rfl, id⟩

/-! ### Rows -/

/-- Every row but LINE_RESTART begins a chain of acts. -/
theorem acts_begun {c : Instr} {e : Event} (h : s.recordLaw) (hl : ∀ x, c ≠ .lineRestart x) (hb : Begun c s e) :
    Acts s s.event e := by
  cases hb
  case restart x hx => exact absurd hx (hl x)
  case nothing => exact .refl
  case owner p t req _ hv => exact acts_owner h p t req hv
  case notices => exact acts_same ⟨rfl, rfl, rfl, rfl, fun _ => rfl, id⟩
  case write new items _ => exact acts_afterWrite h new s.config items
  case retire tag r hr hst =>
    have hm : r ∈ s.event.racks := (State.rack?_some hr).1
    exact acts_retire hm (offLane_of_state ((lawful_event h).soundRack hm) hst)
  case relocate tag g => exact acts_relocate h tag g
  case start t => exact acts_start t
  case stop t => exact acts_stop t
  case flush t => exact acts_flush t
  case clearFault t => exact acts_clearFault t
  case mode => exact .single .modeSet
  case cls => exact .single .clsSet
  case lost tag r hr hd =>
    have hm : r ∈ (s.event.raise .lostRetired).racks := (State.rack?_some hr).1
    exact (acts_raise s.event .lostRetired).trans (acts_retire hm fun t => by rw [place_of_lostDue hd]; nofun)
  case idle t => exact acts_idleExpire t
  case restarted t hst => exact acts_restartExpire hst
  case fault t _ => exact .single .tornDown
  case reevaluation => exact acts_same ⟨rfl, rfl, rfl, rfl, fun _ => rfl, id⟩
  case readiness t => exact (acts_readinessTest (FinalsFrom.event s) t).1

/-- The parts of the state that the laws of racks, places, demand, pairing and tunnels speak of. -/
structure Core where
  racks : List Rack
  windows : Vector WindowContext 6
  demand : List DemandEntry
  tunnels : PerTunnel TunnelContext
  pendingAdmission : Option PendingAdmission

def coreOf (s : State) : Core := ⟨s.racks, s.windows, s.demand, s.tunnels, s.pendingAdmission⟩

theorem recordLaw_of_core {s t : State} (hc : coreOf t = coreOf s) (h : s.recordLaw) : t.recordLaw := by
  cases s
  cases t
  cases hc
  exact h

/-- What a command leaves of the core: nothing changed, or a chain of acts and the end of its event, from a state with
the same core. -/
inductive CoreStep (s : State) (t : State) : Prop
  | still : coreOf t = coreOf s → CoreStep s t
  | acts (s₁ : State) (e : Event) : coreOf s₁ = coreOf s → Acts s₁ s₁.event e → coreOf t = coreOf e.settle.toState →
    CoreStep s t

theorem CoreStep.of_core {s s₁ t : State} (h : CoreStep s₁ t) (hc : coreOf s₁ = coreOf s) : CoreStep s t := by
  cases h
  case still h => exact .still (h.trans hc)
  case acts s₂ e h₂ ha ht => exact .acts s₂ e (h₂.trans hc) ha ht

theorem core_deliver (s : State) (ms : List (Port × Message)) : coreOf (s.deliver ms) = coreOf s := by
  simp only [coreOf, State.deliver_racks, State.deliver_windows, State.deliver_demand, State.deliver_tunnels,
    State.deliver_pendingAdmission]

theorem core_finish (e : Event) (reply : Option (Port × Answer)) :
    coreOf (e.finish reply) = coreOf e.settle.toState := by
  unfold Event.finish
  dsimp only
  rw [core_deliver]
  split <;> rfl

theorem coreStep_serve {c : Instr} {s s₁ : State} (hcore : coreOf s₁ = coreOf s) (h : s.recordLaw)
    (hc : c.servesRequests = true) (p : Port) (r : RawRequest) : CoreStep s (s₁.serve p r) := by
  have hl : ∀ x, c ≠ .lineRestart x := by
    rintro x rfl
    cases hc
  exact .acts s₁ _ hcore (acts_begun (recordLaw_of_core hcore h) hl (begun_judge hc s₁ p r)) (core_finish _ _)

theorem coreStep_arrive {c : Instr} {s s₁ : State} (hcore : coreOf s₁ = coreOf s) (h : s.recordLaw)
    (hc : c.servesRequests = true) (p : Port) (r : RawRequest) : CoreStep s (s₁.arrive p r) := by
  rcases s₁.arrive_cases p r with ⟨-, he⟩ | ⟨-, he⟩ | ⟨-, -, he⟩ | ⟨-, -, he⟩ <;> rw [he]
  · exact coreStep_serve (by exact hcore) h hc p r
  · exact .still hcore
  · exact .still hcore
  · exact .still hcore

theorem coreStep_frameSent {c : Instr} {s : State} (h : s.recordLaw) (hc : c.servesRequests = true) (p : Port) :
    CoreStep s (s.frameSent p) := by
  unfold State.frameSent
  split
  · exact .still rfl
  · dsimp only
    split
    · unfold State.serveHead
      split
      · exact .still rfl
      · exact coreStep_serve (by rfl) h hc p _
    all_goals exact .still rfl

theorem coreStep_reevaluationEvent {s : State} : CoreStep s s.reevaluationEvent :=
  .acts s { s.event with wantReeval := true } rfl (acts_same ⟨rfl, rfl, rfl, rfl, fun _ => rfl, id⟩) (core_finish _ _)

theorem coreStep_effect {c : Instr} {s t : State} (h : s.recordLaw) (hl : ∀ x, c ≠ .lineRestart x)
    (he : Effect c s t) : CoreStep s t := by
  cases he
  case nothing | tick | assembly | wrongLine | buffers | ageOut | removal => exact .still rfl
  case arrival p a r hc => exact coreStep_arrive (by rfl) h hc p r
  case sent p hc => exact coreStep_frameSent h hc p
  case command e x r _ hb => exact .acts s e rfl (acts_begun h hl hb) (core_finish e none)
  case expiry e hb => exact .acts s e rfl (acts_begun h hl hb) (core_finish e none)
  case ageOutExpiry => exact CoreStep.of_core coreStep_reevaluationEvent rfl
  case removalExpiry => exact CoreStep.of_core coreStep_reevaluationEvent rfl

/-- What LINE_RESTART leaves of the core. -/
theorem core_lineRestart {x : Transfer} {s t : State} (h : exec (.lineRestart x) s = .next t) :
    coreOf t = coreOf s ∨ coreOf t = coreOf s.lineEmptied := by
  simp only [exec, execLineRestart, command] at h
  cases h
  rcases s.take_cases x (lengthFits x 0 true) State.restartLine with ⟨-, h⟩ | ⟨-, -, -, h⟩ | ⟨-, -, -, h⟩ <;> rw [h]
  · exact .inl rfl
  · right
    change coreOf ((s.restartLine).event.finish none) = _
    rw [core_finish, State.restartLine]
    simp only [Reads.restartPorts_eq, Reads.announceOff_eq]
    rw [Event.settle_of_nothing_owed rfl rfl rfl rfl]
    rfl
  · exact .inl rfl

end Sys2Proof.Proofs.Beginnings
end

section
/-! Where each record after an act comes from; and with it the law of the Rack Table as an invariant (R1 to R4), the
fields that are fixed at enrolment (R3, R12), and the unload tables (R44, R137). -/

namespace Sys2Proof.Proofs.Records

open Sys2Proof.Machine Sys2Proof.Proofs.Tables Sys2Proof.Proofs.Acts Sys2Proof.Proofs.ActsKeepTheTable
  Sys2Proof.Proofs.Chains Sys2Proof.Proofs.Beginnings Sys2Proof.Proofs.Effects Sys2Proof.Proofs.Reads

/-! ### Steps -/

/-- What a command leaves of the core. -/
theorem core_of_exec {c : Instr} {s t : State} (h : s.recordLaw) (he : exec c s = .next t) :
    coreOf t = coreOf State.reset ∨ coreOf t = coreOf s.lineEmptied ∨ CoreStep s t := by
  cases hr : c.isReset
  · by_cases hl : ∃ x, c = .lineRestart x
    · obtain ⟨x, rfl⟩ := hl
      rcases core_lineRestart he with hc | hc
      · exact .inr (.inr (.still hc))
      · exact .inr (.inl hc)
    · exact .inr (.inr (coreStep_effect h (fun x hx => hl ⟨x, hx⟩) (effect_of_exec hr he)))
  · left
    cases c
    case powerOn x | rstRelease x =>
      cases he
      rw [sampled_resetValues]
      rfl
    case rstAssert =>
      cases he
      rfl
    all_goals cases hr

/-- A property of the core that the resets, LINE_RESTART and every event keep is kept by every step. -/
theorem law_of_step {P : State → Prop} (hcore : ∀ {s t : State}, coreOf t = coreOf s → P s → P t)
    (hrecord : ∀ s, P s → s.recordLaw) (hreset : P State.reset) (hempty : ∀ s : State, P s.lineEmptied)
    (hacts : ∀ (s : State) (e : Event), P s → Acts s s.event e → P e.settle.toState) (s t : State) (hs : P s)
    (h : step s = .next t) : P t := by
  unfold step at h
  split at h
  · cases h
    exact hs
  · rename_i c rest _
    have hs' : P { s with pending := rest } := hcore (s := s) rfl hs
    rcases core_of_exec (hrecord _ hs') h with hc | hc | hc
    · exact hcore hc hreset
    · exact hcore hc (hempty _)
    · rcases hc with hc | ⟨s₁, e, h₁, ha, hc⟩
      · exact hcore hc hs'
      · exact hcore hc (hacts s₁ e (hcore h₁ hs') ha)

theorem recordLaw_lineEmptied (s : State) : s.lineEmptied.recordLaw := by
  have hr : s.lineEmptied.racks = [] := rfl
  have hp : s.lineEmptied.pendingAdmission = none := rfl
  simp [State.recordLaw, State.tableLoad, State.pendingSound, hr, hp]

theorem lawful_settle {s : State} {e : Event} (h : s.recordLaw) (ha : Acts s s.event e) : Lawful s e.settle :=
  have hl := lawful_acts (lawful_event h) ha
  lawful_acts hl (acts_settle hl)

/-- Settles O8: every act keeps the law, and every event is a chain of acts. -/
theorem everyStepKeepsTheRecordLaw : Obligations.EveryStepKeepsTheRecordLaw :=
  law_of_step recordLaw_of_core (fun _ h => h) (by decide) recordLaw_lineEmptied fun _ _ h ha =>
    (lawful_settle h ha).law

/-! ### Where a record comes from -/

/-- The fields of a record that are fixed at its enrolment. -/
def fixedFields (r : Rack) : Nat × Nat × RackClass × Nat × Bool := (r.tag, r.slot, r.cls, r.baseLevel, r.isProtected)

/-- The verdict of a rack in a lane. -/
def verdictOf (r : Rack) : Option Verdict := r.sheet.bind (·.verdict)

/-- Where the record `r'` after an act on `e` comes from. -/
inductive From (s₀ : State) (e : Event) (r' : Rack) : Prop
  | kept (x : Rack) : x ∈ e.racks → fixedFields r' = fixedFields x → r'.place = x.place →
    r'.lastOutcome = x.lastOutcome →
    (∀ t, r'.place = .tunnel t → verdictOf r' ≠ none → verdictOf x ≠ none ∨ StoodInFinal s₀ t r'.tag) → From s₀ e r'
  | moved (x : Rack) : x ∈ e.racks → fixedFields r' = fixedFields x → (∀ t, r'.place ≠ .unload t) →
    verdictOf r' = none → From s₀ e r'
  | released (x : Rack) (t : Tunnel) : x ∈ e.racks → fixedFields r' = fixedFields x → x.place = .tunnel t →
    verdictOf x = some .pass → r'.place = .unload t → r'.lastOutcome = some (.verdict .pass) → From s₀ e r'
  | fresh : s₀.rack? r'.tag = none → (∀ t, r'.place ≠ .unload t) → verdictOf r' = none → From s₀ e r'

variable {s₀ : State} {e e' : Event}

theorem From.self {r : Rack} (h : r ∈ e.racks) : From s₀ e r := .kept r h rfl rfl rfl fun _ _ hv => .inl hv

theorem verdictOf_offLane {r : Rack} (h : SoundRack r) (ho : OffLane r) : verdictOf r = none := by
  rw [verdictOf, h.offLane ho]
  rfl

/-- A record moved out of the lanes, but not to an unload table. -/
theorem from_offLane {r' x : Rack} (h' : Lawful s₀ e') (hm : r' ∈ e'.racks) (hx : x ∈ e.racks)
    (hf : fixedFields r' = fixedFields x) (ho : OffLane r') (hu : ∀ t, r'.place ≠ .unload t) : From s₀ e r' :=
  .moved x hx hf hu (verdictOf_offLane (h'.soundRack hm) ho)

theorem from_rerouted (h : AllRerouted e.racks e'.racks) {r' : Rack} (hr : r' ∈ e'.racks) : From s₀ e r' := by
  obtain ⟨x, hx, d, rfl, -⟩ := h.mem hr
  exact .kept x hx rfl rfl rfl fun _ _ hv => .inl hv

/-- What a departure leaves: the records before it, and the one that a swap has moved. -/
theorem from_departed {e₁ : Event} {r : Rack} {tag : Nat} (h' : Lawful s₀ ((e₁.departed r).cancelPending tag))
    (hfrom : ∀ x ∈ e₁.racks, From s₀ e x)
    (hspare : ∀ x ∈ e₁.racks, ∀ w, x.place = .windowSpare w → x ∈ e.racks) :
    ∀ r' ∈ ((e₁.departed r).cancelPending tag).racks, From s₀ e r' := by
  intro r' hr'
  have hm := hr'
  rw [cancelPending_racks] at hm
  rcases departed_racks e₁ r with he | ⟨w, x, -, -, hx, he⟩
  · exact hfrom r' (he ▸ hm)
  · obtain ⟨hxm, hxp⟩ := mem_of_spareRack hx
    rcases mem_rejoined.mp (he ▸ hm) with ⟨hm, -⟩ | rfl
    · exact hfrom r' hm
    · exact from_offLane h' hr' (hspare x hxm w hxp) rfl (fun _ => nofun) fun _ => nofun

theorem from_moved {r r' : Rack} {st : RackState} {p : Place} {cause : Option HoldCause} (h : Lawful s₀ e)
    (hr : r ∈ e.racks) (ha : Alike r r') (hg : Goes st p cause) :
    ∀ x ∈ ((e.move r' st p cause).cancelPending r.tag).racks, From s₀ e x := by
  have hfields : fixedFields (r'.moved st p cause e.now) = fixedFields r := by
    simp only [fixedFields, Rack.moved, ha.tag, ha.slot, ha.cls, ha.baseLevel, ha.isProtected]
  have hverdict : verdictOf (r'.moved st p cause e.now) = none := by
    refine verdictOf_offLane ((sound_iff _).mp (sound_goes (h.soundRack hr) ha hg)) fun t => ?_
    cases hg <;> nofun
  refine from_departed (lawful_moved h hr ha hg) (fun x hx => ?_) fun x hx w hw => ?_
  · rcases mem_rejoined.mp (Event.join_racks _ _ ▸ hx) with ⟨hx, -⟩ | rfl
    · exact .self hx
    · exact .moved r hr hfields (fun t => by cases hg <;> nofun) hverdict
  · rcases mem_rejoined.mp (Event.join_racks _ _ ▸ hx) with ⟨hx, -⟩ | rfl
    · exact hx
    · cases hg <;> cases hw

/-- A record joined at the tail of a list of records that come from `e`. -/
theorem from_rejoined {l : List Rack} {r' : Rack} (he : e'.racks = rejoined l r') (hl : ∀ x ∈ l, x ∈ e.racks)
    (hr' : From s₀ e r') : ∀ x ∈ e'.racks, From s₀ e x := by
  intro x hx
  rcases mem_rejoined.mp (he ▸ hx) with ⟨hx, -⟩ | rfl
  · exact .self (hl x hx)
  · exact hr'

theorem from_released {t : Tunnel} {r : Rack} {v : Verdict} {d : Destination} {cause : Option HoldCause}
    (hf : e.toState.finalRack t = some r) (hv : r.sheet.bind (·.verdict) = some v)
    (hg : e.toState.gateDestination t v r.passes = some (d, cause)) :
    ∀ x ∈ (e.release t r v d cause).racks, From s₀ e x := by
  obtain ⟨hm, hp, -⟩ := mem_of_finalRack hf
  refine from_rejoined (release_racks hp e v d cause) (fun x hx => hx) ?_
  rcases gateDestination_cases hg with ⟨rfl, rfl, rfl, -⟩ | ⟨-, rfl, -, -⟩ | ⟨-, rfl, -, -⟩
  · exact .released r t hm rfl hp hv rfl rfl
  · exact .moved r hm rfl (fun _ => nofun) rfl
  · exact .moved r hm rfl (fun _ => nofun) rfl

theorem from_lost {cause : HoldCause} {rs : List Rack} (hd : Tags rs) (hm : ∀ r ∈ rs, r ∈ e.racks)
    (ht : ∀ r ∈ rs, ∃ t, r.place = .tunnel t) : ∀ x ∈ (e.loseRacks cause rs).racks, From s₀ e x := by
  intro x hx
  rw [loseRacks_racks _ _ _ hd] at hx
  rcases List.mem_append.mp hx with hx | hx
  · exact .self (List.mem_filter.mp hx).1
  · obtain ⟨r, hr, rfl⟩ := List.mem_map.mp hx
    obtain ⟨t, ht⟩ := ht r hr
    refine .moved r (hm r hr) rfl (fun _ => nofun) ?_
    simp only [verdictOf, Rack.moved, ht]
    rfl

/-- A change of a sheet, with no verdict new but on a rack that stood in FINAL. -/
theorem from_modifySheet {t : Tunnel} {r : Rack} {f : PassSheet → PassSheet} (h : Lawful s₀ e) (hr : r ∈ e.racks)
    (hp : r.place = .tunnel t)
    (hf : ∀ p, r.sheet = some p → (f p).verdict ≠ none → p.verdict ≠ none ∨ StoodInFinal s₀ t r.tag) :
    ∀ x ∈ (e.modifySheet r.tag f).racks, From s₀ e x := by
  intro x hx
  rcases mem_edited hx with ⟨hx, -⟩ | ⟨y, hy, htag, rfl⟩
  · exact .self hx
  · obtain rfl := eq_of_tag h.tags hr hy htag
    refine .kept y hy rfl rfl rfl fun t' ht' hv => ?_
    obtain rfl : t = t' := by simpa using hp.symm.trans ht'
    cases hs : y.sheet with
    | none => simp [verdictOf, hs] at hv
    | some p =>
      simp only [verdictOf, hs, Option.map_some, Option.bind_some] at hv ⊢
      exact hf p hs hv

theorem from_exitMismatch {t : Tunnel} {p : Port} {tag : Nat} {read : Rack} (h : Lawful s₀ e)
    (hr : e.toState.rack? tag = some read) : ∀ x ∈ (e.exitMismatch t p tag).event.racks, From s₀ e x := by
  obtain ⟨hm, ht⟩ := State.rack?_some hr
  have hlane : (e.abandonExit t).toState.lane t = e.toState.lane t := by
    simp only [State.lane, State.members, abandonExit_racks]
  have hd : Tags (olderThan ((e.abandonExit t).toState.lane t) tag) := by
    rw [hlane]
    exact (tags_lane h t).sublist ((List.takeWhile_sublist _).map _)
  have hmem : ∀ x ∈ olderThan ((e.abandonExit t).toState.lane t) tag, x ∈ e.racks ∧ x.place = .tunnel t := by
    rw [hlane]
    exact fun x hx => mem_lane.mp (mem_olderThan hx).1
  intro x hx
  rcases mem_edited hx with ⟨hx, -⟩ | ⟨y, hy, htag, rfl⟩
  · have : From s₀ (e.abandonExit t) x := from_lost hd (fun r hr => abandonExit_racks e t ▸ (hmem r hr).1)
      (fun r hr => ⟨t, (hmem r hr).2⟩) x hx
    rcases this with ⟨y, hy, h1, h2, h3, h4⟩ | ⟨y, hy, h1, h2, h3⟩ | ⟨y, t', hy, h1, h2, h3, h4, h5⟩ | ⟨h1, h2, h3⟩
    · exact .kept y (abandonExit_racks e t ▸ hy) h1 h2 h3 h4
    · exact .moved y (abandonExit_racks e t ▸ hy) h1 h2 h3
    · exact .released y t' (abandonExit_racks e t ▸ hy) h1 h2 h3 h4 h5
    · exact .fresh h1 h2 h3
  · rw [loseRacks_racks _ _ _ hd, abandonExit_racks] at hy
    rcases List.mem_append.mp hy with hy | hy
    · obtain rfl := eq_of_tag h.tags hm (List.mem_filter.mp hy).1 (htag.trans ht.symm)
      refine .kept y hm rfl rfl rfl fun _ _ hv => .inl ?_
      cases hs : y.sheet with
      | none => simp [verdictOf, hs] at hv
      | some p => simpa [verdictOf, hs, PassSheet.placedInFinal] using hv
    · obtain ⟨z, hz, rfl⟩ := List.mem_map.mp hy
      exact absurd htag (mem_olderThan hz).2

theorem abandonExit_now (e : Event) (t : Tunnel) : (e.abandonExit t).now = e.now := by
  unfold Event.abandonExit
  dsimp only
  split <;> rfl

theorem enterFault_racks {t : Tunnel} (hd : Tags (e.toState.lane t)) :
    (e.enterFault t).racks = (e.loseRacks .tunnelFault (e.toState.lane t)).racks := by
  have hlane (c : TunnelContext) : ((e.abandonExit t).setTunnel t c).toState.lane t = e.toState.lane t := by
    simp only [State.lane, State.members, Event.setTunnel_racks, abandonExit_racks]
  unfold Event.enterFault
  dsimp only
  rw [Event.enter_racks, Event.raise_racks, hlane, loseRacks_racks _ _ _ hd, loseRacks_racks _ _ _ hd,
    Event.setTunnel_racks, abandonExit_racks, Event.setTunnel_now, abandonExit_now]

theorem verdictOf_admittedRack (s : State) (t : Tunnel) (r : Rack) : verdictOf (s.admittedRack t r) = none := rfl

/-- Where each record after an act comes from. -/
theorem from_act (h : Lawful s₀ e) (ha : Act s₀ e e') : ∀ x ∈ e'.racks, From s₀ e x := by
  have h' := lawful_act h ha
  cases ha
  case same hs => exact fun x hx => .self (hs.racks ▸ hx)
  case moved r r' st p cause hr _ hal hg _ => exact from_moved h hr hal hg
  case retired r _ _ =>
    refine from_departed h' (fun x hx => .self (List.mem_filter.mp hx).1) fun x hx _ _ => (List.mem_filter.mp hx).1
  case taken w r b st p hr ho hf =>
    refine from_rejoined (l := e.racks) (r' := r.moved st p none e.now) ?_ (fun x hx => hx) ?_
    · rw [Event.join_racks]
      cases b <;> rfl
    · refine .moved r hr rfl ?_ (verdictOf_offLane (r := r.moved st p none e.now) ?_ ?_)
      · rcases freePosition_cases hf with ⟨rfl, rfl, -⟩ | ⟨rfl, rfl, -⟩ <;> exact fun _ => nofun
      · rcases freePosition_cases hf with ⟨rfl, rfl, -⟩ | ⟨rfl, rfl, -⟩
        · exact (sound_iff _).mp (sound_atFill (h.soundRack hr) w e.now)
        · exact (sound_iff _).mp (sound_atSpare (h.soundRack hr) w e.now)
      · rcases freePosition_cases hf with ⟨rfl, rfl, -⟩ | ⟨rfl, rfl, -⟩ <;> exact fun _ => nofun
  case enrolledAt w tag a st p _ hs _ _ _ hf =>
    refine from_rejoined (l := e.racks) (r' := newRack tag e.toState.freeSlot a st p e.now) ?_ (fun x hx => hx)
      (.fresh (r' := newRack tag e.toState.freeSlot a st p e.now) hs ?_ rfl)
    · rw [Event.enrol, cancelPending_racks, Event.join_racks]
      rfl
    · rcases freePosition_cases hf with ⟨rfl, rfl, -⟩ | ⟨rfl, rfl, -⟩ <;> exact fun _ => nofun
  case enrolledOnReturn tag a _ hs _ _ _ =>
    refine from_rejoined (l := e.racks) (r' := newRack tag e.toState.freeSlot a .empty .returnLoop e.now) ?_
      (fun x hx => hx) (.fresh (r' := newRack tag e.toState.freeSlot a .empty .returnLoop e.now) hs
        (fun _ => nofun) rfl)
    rw [Event.enrol, cancelPending_racks, Event.join_racks]
  case released t r v d cause hf hv hg => exact from_released hf hv hg
  case tornDown t =>
    have hd := tags_lane h t
    have hlost := from_lost (s₀ := s₀) (cause := .tunnelFault) (e := e) hd (fun r hr => (mem_lane.mp hr).1)
      fun r hr => ⟨t, (mem_lane.mp hr).2⟩
    exact fun x hx => hlost x (enterFault_racks hd ▸ hx)
  case mismatched t p tag r read _ hr _ _ => exact from_exitMismatch h hr
  case admitted t r hr hadm _ _ =>
    exact from_rejoined (admitRack_racks hadm e t) (fun x hx => hx)
      (.moved r hr rfl (fun _ => nofun) (verdictOf_admittedRack _ _ _))
  case enrolledInLane t tag a _ hs _ _ _ _ =>
    exact from_rejoined (admitNew_racks e t tag a) (fun x hx => hx)
      (.fresh hs (fun _ => nofun) (verdictOf_admittedRack _ _ _))
  case sheet t r f hr hp hk => exact from_modifySheet h hr hp hk.verdict
  case advanced t r p st x hr hs hst hne _ =>
    obtain ⟨hm, hp⟩ := mem_lane.mp hr
    refine from_modifySheet h hm hp fun p' hp' hv => .inl ?_
    have hw := (withFragment_fields p' st x).2.2.2.2.2.2.2.2.1
    unfold PassSheet.enterStage at hv
    split at hv <;> exact hw ▸ hv
  case turned | becamePending | dropped => exact fun x hx => .self hx
  case paired => exact fun x hx => from_rerouted (pairAll_rerouted _ e (onReturn_unassigned h.tags)) hx
  case modeSet w m => exact fun x hx => from_rerouted (setMode_rerouted h.tags w m) hx
  case clsSet w k => exact fun x hx => from_rerouted (setClass_rerouted h.tags w k) hx

/-- What is known of a record of an event, from the state in which its command began: its fixed fields, the verdict of a
rack in a lane, and how it came to an unload table. -/
structure Traced (s₀ : State) (x : Rack) : Prop where
  fields : ∀ r ∈ s₀.racks, r.tag = x.tag → fixedFields x = fixedFields r
  verdict : ∀ t, x.place = .tunnel t → verdictOf x ≠ none → StoodInFinal s₀ t x.tag
  unload : ∀ t, x.place = .unload t → (∃ r ∈ s₀.racks, r.tag = x.tag ∧ r.place = .unload t) ∨
    x.lastOutcome = some (.verdict .pass) ∧ StoodInFinal s₀ t x.tag

theorem tag_of_fields {x y : Rack} (h : fixedFields x = fixedFields y) : x.tag = y.tag := congrArg Prod.fst h

theorem traced_self (h : s₀.recordLaw) {x : Rack} (hx : x ∈ s₀.racks) : Traced s₀ x where
  fields r hr ht := by rw [eq_of_tag h.1 hx hr ht]
  verdict t ht hv := by
    refine ⟨x, hx, rfl, ht, ?_⟩
    obtain ⟨p, hp, hf⟩ := ((sound_iff x).mp (h.2.2.2.1 x hx)).inLane t ht
    obtain ⟨-, -, -, -, -, hrest⟩ := (fits_iff p t).mp hf
    by_contra hst
    refine hv ?_
    rw [verdictOf, hp, Option.bind_some]
    refine (hrest fun hs => hst ?_).2.2.2.1
    simp [Rack.inFinal, Rack.stage?, hp, hs]
  unload t ht := .inl ⟨x, hx, rfl, ht⟩

theorem traced_from {x : Rack} (h : ∀ y ∈ e.racks, Traced s₀ y) (hf : From s₀ e x) : Traced s₀ x := by
  cases hf
  case kept y hy hfix hp ho hv =>
    have ht := tag_of_fields hfix
    refine ⟨fun r hr hr' => hfix.trans ((h y hy).fields r hr (hr'.trans ht)), fun t hp' hv' => ?_, fun t hp' => ?_⟩
    · rcases hv t hp' hv' with hv | hs
      · exact ht ▸ (h y hy).verdict t (hp ▸ hp') hv
      · exact hs
    · rw [ht, ho]
      exact (h y hy).unload t (hp ▸ hp')
  case moved y hy hfix hu hv =>
    exact ⟨fun r hr hr' => hfix.trans ((h y hy).fields r hr (hr'.trans (tag_of_fields hfix))),
      fun _ _ hv' => absurd hv hv', fun t ht => absurd ht (hu t)⟩
  case released y t hy hfix hp hv hu ho =>
    have ht := tag_of_fields hfix
    refine ⟨fun r hr hr' => hfix.trans ((h y hy).fields r hr (hr'.trans ht)), fun t' ht' => ?_,
      fun t' ht' => .inr ⟨ho, ?_⟩⟩
    · rw [hu] at ht'
      cases ht'
    · obtain rfl : t = t' := by simpa using hu.symm.trans ht'
      exact ht ▸ (h y hy).verdict t hp (by rw [hv]; nofun)
  case fresh hs hu hv =>
    refine ⟨fun r hr hr' => ?_, fun _ _ hv' => absurd hv hv', fun t ht => absurd ht (hu t)⟩
    exact absurd hr' (State.rack?_none hs r hr)

theorem traced_acts (hs : s₀.recordLaw) (ha : Acts s₀ s₀.event e) : ∀ x ∈ e.racks, Traced s₀ x := by
  induction ha with
  | refl => exact fun x hx => traced_self hs hx
  | tail hacts hact ih =>
    exact fun x hx => traced_from ih (from_act (lawful_acts (lawful_event hs) hacts) hact x hx)

/-- Every record after a command is sound and traced. -/
theorem traced_exec {c : Instr} {s t : State} (h : s.recordLaw) (he : exec c s = .next t) :
    ∀ x ∈ t.racks, SoundRack x ∧ Traced s x := by
  rcases core_of_exec h he with hc | hc | hc | ⟨s₁, e, h₁, ha, hc⟩
  · rw [show t.racks = [] from congrArg Core.racks hc]
    exact fun _ => nofun
  · rw [show t.racks = [] from congrArg Core.racks hc]
    exact fun _ => nofun
  · rw [show t.racks = s.racks from congrArg Core.racks hc]
    exact fun x hx => ⟨(sound_iff x).mp (h.2.2.2.1 x hx), traced_self h hx⟩
  · have hs₁ := recordLaw_of_core h₁ h
    have hl := lawful_acts (lawful_event hs₁) ha
    have hall := ha.trans (acts_settle hl)
    have hracks : s₁.racks = s.racks := congrArg Core.racks h₁
    rw [show t.racks = e.settle.racks from congrArg Core.racks hc]
    intro x hx
    obtain ⟨hf, hv, hu⟩ := traced_acts hs₁ hall x hx
    simp only [StoodInFinal, hracks] at hf hv hu
    exact ⟨(lawful_acts (lawful_event hs₁) hall).soundRack hx, hf, hv, hu⟩

/-- Settles O14: no act writes a fixed field of a record, and a record enrolled in the step is none that was there. -/
theorem enrolledFieldsAreFixed : Obligations.EnrolledFieldsAreFixed := by
  intro c s t r r' h he hr hr' ht
  have hf := (traced_exec h he r' hr').2.fields r hr ht.symm
  simp only [fixedFields, Prod.mk.injEq] at hf
  exact hf.2

/-- Settles O45: the release from FINAL with the verdict PASS is the one act that puts a record in UNLOAD, and a verdict
is given in FINAL alone. -/
theorem onlyAPassReachesUnload : Obligations.OnlyAPassReachesUnload := by
  intro c t s s' r' h he hr' hp hnot
  obtain ⟨hsound, htraced⟩ := traced_exec h he r' hr'
  have hplaced := hsound.placed
  rw [Rack.placed, hp] at hplaced
  rcases htraced.unload t hp with ⟨r, hr, ht, hu⟩ | ⟨ho, hs⟩
  · exact absurd hu (hnot r hr ht)
  · exact ⟨of_decide_eq_true hplaced, ho, hs⟩

end Sys2Proof.Proofs.Records
end

section
/-! What the operations leave of the windows, the demand queue and the pairing still owed: the frame of the laws of
demand and pairing. -/

namespace Sys2Proof.Proofs.Desk

open Sys2Proof.Machine Sys2Proof.Proofs.Tables Sys2Proof.Proofs.Acts Sys2Proof.Proofs.ActsKeepTheTable

/-- The windows, the demand queue, and whether a run of pairing is owed. -/
def desk (e : Event) : Vector WindowContext 6 × List DemandEntry × Bool := (e.windows, e.demand, e.wantPairing)

theorem desk_parts {e e' : Event} (h : desk e' = desk e) :
    e'.windows = e.windows ∧ e'.demand = e.demand ∧ e'.wantPairing = e.wantPairing := by
  simpa only [desk, Prod.mk.injEq] using h

theorem desk_join {r : Rack} (h : r.place ≠ .returnLoop) (e : Event) : desk (e.join r) = desk e := by
  rcases e.join_cases r with he | ⟨-, he⟩ | ⟨hp, -⟩
  · rw [he]
    rfl
  · rw [he]
    rfl
  · exact absurd hp h

theorem join_windows (e : Event) (r : Rack) : (e.join r).windows = e.windows := by
  rcases e.join_cases r with h | ⟨-, h⟩ | ⟨-, h⟩ <;> simp [h]

theorem join_demand (e : Event) (r : Rack) : (e.join r).demand = e.demand := by
  rcases e.join_cases r with h | ⟨-, h⟩ | ⟨-, h⟩ <;> simp [h]

theorem desk_cancelPending (e : Event) (tag : Nat) : desk (e.cancelPending tag) = desk e := by
  rcases e.cancelPending_cases tag with ⟨q, -, -, h⟩ | ⟨-, h⟩
  · rw [h]
    rfl
  · rw [h]

theorem desk_laneDeparted (e : Event) (t : Tunnel) : desk (e.laneDeparted t) = desk e := by
  rcases laneDeparted_cases e t with ⟨-, h⟩ | ⟨-, -, h⟩ | ⟨-, -, h⟩ | ⟨-, -, -, -, h⟩ <;> rw [h] <;> rfl

theorem desk_abandonExit (e : Event) (t : Tunnel) : desk (e.abandonExit t) = desk e := by
  unfold Event.abandonExit
  dsimp only
  split <;> rfl

theorem desk_loseRacks (cause : HoldCause) (rs : List Rack) : ∀ e : Event, desk (e.loseRacks cause rs) = desk e := by
  induction rs with
  | nil => exact fun e => rfl
  | cons r rs ih => exact fun e => (ih _).trans (desk_join (r := r.moved .held .unknown (some cause) e.now) nofun e)

theorem desk_enterFault (e : Event) (t : Tunnel) : desk (e.enterFault t) = desk e := by
  have h := desk_loseRacks .tunnelFault
    (((e.abandonExit t).setTunnel t ((e.abandonExit t).tunnels.get t).withoutTimers).toState.lane t)
    ((e.abandonExit t).setTunnel t ((e.abandonExit t).tunnels.get t).withoutTimers)
  exact h.trans (desk_abandonExit e t)

theorem desk_exitMismatch (e : Event) (t : Tunnel) (p : Port) (tag : Nat) :
    desk (e.exitMismatch t p tag).event = desk e :=
  (desk_loseRacks .lostTrack (olderThan ((e.abandonExit t).toState.lane t) tag) (e.abandonExit t)).trans
    (desk_abandonExit e t)

theorem desk_release {t : Tunnel} {r : Rack} {d : Destination} (hr : r.place = .tunnel t)
    (hd : d.place ≠ .returnLoop) (e : Event) (v : Verdict) (cause : Option HoldCause) :
    desk (e.release t r v d cause) = desk e := by
  unfold Event.release
  dsimp only
  rw [move_from_lane (r := { r with lastOutcome := some (.verdict v) }) hr, desk_laneDeparted, desk_join]
  · split <;> rfl
  · exact hd

theorem desk_countAdmission (e : Event) (t : Tunnel) : desk (e.countAdmission t) = desk e := by
  unfold Event.countAdmission
  dsimp only
  split <;> rfl

/-- A rack that may be admitted leaves no window and no route behind. -/
theorem desk_departed_admissible {r : Rack} (h : r.admissible = true) (e : Event) : desk (e.departed r) = desk e := by
  unfold Event.departed
  rcases (admissible_iff r).mp h with ⟨-, h⟩ | ⟨-, h⟩
  · rw [h]
    rfl
  · rw [h]

theorem desk_admitRack {r : Rack} (h : r.admissible = true) (e : Event) (t : Tunnel) :
    desk (e.admitRack t r) = desk e := by
  rw [Event.admitRack, desk_departed_admissible h, desk_countAdmission]
  exact desk_join (r := e.toState.admittedRack t r) nofun e

theorem desk_admitNew (e : Event) (t : Tunnel) (tag : Nat) (a : EnrolAttributes) :
    desk (e.admitNew t tag a) = desk e := by
  rw [Event.admitNew, desk_countAdmission]
  exact desk_join (r := e.toState.admittedRack t _) nofun e

end Sys2Proof.Proofs.Desk
end

section
/-! The law of places and demand (R39, R41, R148, R157): how an operation moves the positions, routes and entries of a
window, and that every act keeps their sum. -/

namespace Sys2Proof.Proofs.Demand

open Sys2Proof.Machine Sys2Proof.Proofs.Tables Sys2Proof.Proofs.Acts Sys2Proof.Proofs.ActsKeepTheTable
  Sys2Proof.Proofs.Desk Sys2Proof.Proofs.Chains Sys2Proof.Proofs.Beginnings Sys2Proof.Proofs.Records

/-! ### Counts -/

/-- The window whose demand a rack meets: the one it stands at, or the one it is routed to. -/
def claimOf (r : Rack) : Option Window :=
  match r.place with
  | .windowFill w | .windowSpare w => some w
  | .returnLoop => r.destination
  | _ => none

/-- How many racks of a list stand in a place. -/
def crowd (l : List Rack) (p : Place) : Nat := l.countP fun r => decide (r.place = p)

/-- How many racks of a list meet the demand of a window. -/
def claims (l : List Rack) (w : Window) : Nat := l.countP fun r => decide (claimOf r = some w)

theorem count_eq (s : State) (p : Place) : s.count p = crowd s.racks p := by
  rw [crowd, List.countP_eq_length_filter]
  rfl

theorem claimOf_eq_some {r : Rack} {w : Window} : claimOf r = some w ↔
    r.place = .windowFill w ∨ r.place = .windowSpare w ∨ r.place = .returnLoop ∧ r.destination = some w := by
  unfold claimOf
  split <;> simp_all

theorem windowSum_eq (s : State) (w : Window) :
    s.windowSum w = claims s.racks w + (s.entriesOf w).length := by
  have hsum (l : List Rack) : l.countP (fun r => decide (r.place = .windowFill w)) +
      l.countP (fun r => decide (r.place = .windowSpare w)) +
      l.countP (fun r => decide (r.destination = some w) && decide (r.place = .returnLoop)) = claims l w := by
    induction l with
    | nil => rfl
    | cons x xs ih =>
      simp only [claims, List.countP_cons, claimOf_eq_some, decide_eq_true_eq, Bool.and_eq_true] at ih ⊢
      cases x.place <;> simp_all <;> grind
  have hr : (s.routedTo w).length =
      s.racks.countP fun r => decide (r.destination = some w) && decide (r.place = .returnLoop) := by
    rw [List.countP_eq_length_filter, State.routedTo, State.members, List.filter_filter]
  rw [State.windowSum, State.occupied, hr, count_eq, count_eq, crowd, crowd, hsum]

/-! ### The two laws, with demand still to be posted -/

/-- The capacity of a place that has one in the law of places (R39). -/
def capacityOf : Place → Option Nat
  | .windowFill _ | .windowSpare _ => some 1
  | .collect => some Config.collectCapacity
  | .unload _ => some Config.unloadCapacity
  | .returnLoop => some Config.returnCapacity
  | .hold => some Config.holdCapacity
  | .tunnel _ | .store | .unknown => none

/-- No place above its capacity. -/
def Capped (l : List Rack) : Prop := ∀ p n, capacityOf p = some n → crowd l p ≤ n

/-- SPARE is occupied only behind FILL. -/
def Stacked (l : List Rack) : Prop := ∀ w, crowd l (.windowSpare w) ≤ crowd l (.windowFill w)

/-- The law of demand while an entry for each window of `owed` is still to be posted. -/
structure Balanced (owed : List Window) (s : State) : Prop where
  most : ∀ w, claims s.racks w + (s.entriesOf w).length + owed.count w ≤ 2
  full : ∀ w, s.windows[w].mode ≠ .stop → claims s.racks w + (s.entriesOf w).length + owed.count w = 2
  stop : ∀ w, s.windows[w].mode = .stop → s.entriesOf w = []

theorem demandLaw_iff (s : State) :
    s.demandLaw ↔ s.recordLaw ∧ Capped s.racks ∧ Stacked s.racks ∧ Balanced [] s := by
  have hw (w : Window) : w ∈ allWindows := by
    revert w
    decide
  constructor
  · rintro ⟨⟨hlaw, hwin, hc, ha, hb, hr, hh⟩, hd⟩
    simp only [count_eq] at hwin hc ha hb hr hh
    simp only [windowSum_eq] at hd
    refine ⟨hlaw, fun p n hp => ?_, fun w => (hwin w (hw w)).2,
      ⟨fun w => (hd w (hw w)).1, fun w => (hd w (hw w)).2.1, fun w => (hd w (hw w)).2.2⟩⟩
    cases p <;> cases hp
    case mp.windowFill.refl w => exact (hwin w (hw w)).1
    case mp.windowSpare.refl w => exact (hwin w (hw w)).2.trans (hwin w (hw w)).1
    case mp.collect.refl => exact hc
    case mp.unload.refl t => cases t <;> assumption
    case mp.returnLoop.refl => exact hr
    case mp.hold.refl => exact hh
  · rintro ⟨hlaw, hcap, hstack, hbal⟩
    simp only [State.demandLaw, State.placeLaw, count_eq, windowSum_eq]
    exact ⟨⟨hlaw, fun w _ => ⟨hcap _ _ rfl, hstack w⟩, hcap _ _ rfl, hcap _ _ rfl, hcap _ _ rfl, hcap _ _ rfl,
      hcap _ _ rfl⟩, fun w _ => ⟨hbal.most w, hbal.full w, hbal.stop w⟩⟩

theorem crowd_lt_of_hasRoom {s : State} {p : Place} {n : Nat} (hp : capacityOf p = some n)
    (h : s.hasRoom p = true) : crowd s.racks p < n := by
  cases p <;> cases hp <;> simpa only [State.hasRoom, decide_eq_true_eq, count_eq] using h

theorem entriesOf_congr {s s' : State} (h : s'.demand = s.demand) (w : Window) : s'.entriesOf w = s.entriesOf w := by
  rw [State.entriesOf, State.entriesOf, h]

variable {owed owed' : List Window}

/-- Windows and demand left, and what the claims lose is owed. -/
theorem Balanced.of_claims {s s' : State} (h : Balanced owed s) (hw : s'.windows = s.windows)
    (hd : s'.demand = s.demand)
    (hc : ∀ v, claims s'.racks v + owed'.count v = claims s.racks v + owed.count v) : Balanced owed' s' := by
  refine ⟨fun v => ?_, fun v hv => ?_, fun v hv => ?_⟩
  · have := h.most v
    have := hc v
    rw [entriesOf_congr hd]
    omega
  · have := h.full v (hw ▸ hv)
    have := hc v
    rw [entriesOf_congr hd]
    omega
  · rw [entriesOf_congr hd]
    exact h.stop v (hw ▸ hv)

theorem Balanced.posted {e : Event} {w : Window} (h : Balanced (w :: owed) e.toState) :
    Balanced owed (e.post w).toState := by
  rcases e.post_cases w with ⟨hm, he⟩ | ⟨hm, he⟩
  · rw [he]
    refine ⟨fun v => ?_, fun v hv => ?_, h.stop⟩
    · have := h.most v
      rw [List.count_cons] at this
      omega
    · have hne : w ≠ v := by
        rintro rfl
        exact hv hm
      simpa [List.count_cons, hne] using h.full v hv
  · rw [he]
    have hentries (v : Window) : State.entriesOf { e.toState with demand := e.demand ++ [⟨w, e.now⟩] } v =
        e.toState.entriesOf v ++ if w = v then [⟨w, e.now⟩] else [] := by
      simp only [State.entriesOf, List.filter_append, List.filter_singleton]
      by_cases hv : w = v <;> simp [hv]
    have hlen (v : Window) : (State.entriesOf { e.toState with demand := e.demand ++ [⟨w, e.now⟩] } v).length +
        owed.count v = (e.toState.entriesOf v).length + (w :: owed).count v := by
      rw [hentries, List.length_append, List.count_cons]
      by_cases hv : w = v
      · simp [hv]
        omega
      · simp [hv]
    refine ⟨fun v => ?_, fun v hv => ?_, fun v hv => ?_⟩
    · have := h.most v
      have := hlen v
      dsimp only at this ⊢
      omega
    · have := h.full v hv
      have := hlen v
      dsimp only at this ⊢
      omega
    · have hne : w ≠ v := by
        rintro rfl
        exact hm hv
      have := hentries v
      rw [if_neg hne, List.append_nil, h.stop v hv] at this
      exact this

theorem Balanced.postedMany {w : Window} (n : Nat) : ∀ {e : Event},
    Balanced (List.replicate n w ++ owed) e.toState → Balanced owed (e.postMany w n).toState := by
  induction n with
  | zero => exact fun h => h
  | succ n ih => exact fun h => ih h.posted

/-- A window in STOP is owed nothing (R157). -/
theorem Balanced.absorbed {s : State} {w : Window} (hm : s.windows[w].mode = .stop) (h : Balanced (w :: owed) s) :
    Balanced owed s := by
  refine ⟨fun v => ?_, fun v hv => ?_, h.stop⟩
  · have := h.most v
    rw [List.count_cons] at this
    omega
  · have hne : w ≠ v := by
      rintro rfl
      exact hv hm
    simpa [List.count_cons, hne] using h.full v hv

theorem Balanced.absorbedMany {s : State} {w : Window} (hm : s.windows[w].mode = .stop) (n : Nat)
    (h : Balanced (List.replicate n w ++ owed) s) : Balanced owed s := by
  induction n with
  | zero => exact h
  | succ n ih => exact ih (h.absorbed hm)

/-- One entry of a window taken out of the queue. -/
theorem Balanced.taken {s s' : State} {d : DemandEntry} {before after : List DemandEntry} (h : Balanced owed s)
    (hr : s'.racks = s.racks) (hw : s'.windows = s.windows) (hd : s.demand = before ++ d :: after)
    (hd' : s'.demand = before ++ after) : Balanced (d.window :: owed) s' := by
  have hlen (v : Window) : (s'.entriesOf v).length + (d.window :: owed).count v =
      (s.entriesOf v).length + owed.count v := by
    rw [State.entriesOf, State.entriesOf, hd, hd', List.filter_append, List.filter_append, List.filter_cons,
      List.count_cons]
    by_cases hv : d.window = v
    · simp [hv]
      omega
    · simp [hv]
  have hsub (v : Window) : (s'.entriesOf v).Sublist (s.entriesOf v) := by
    rw [State.entriesOf, State.entriesOf, hd, hd']
    exact ((List.sublist_cons_self d after).append_left before).filter _
  refine ⟨fun v => ?_, fun v hv => ?_, fun v hv => ?_⟩
  · have := h.most v
    have := hlen v
    rw [hr]
    omega
  · have := h.full v (hw ▸ hv)
    have := hlen v
    rw [hr]
    omega
  · have := hsub v
    rw [h.stop v (hw ▸ hv)] at this
    exact List.sublist_nil.mp this

theorem Balanced.consumed {e : Event} {w : Window} (h : Balanced owed e.toState) (hn : e.toState.entriesOf w ≠ []) :
    Balanced (w :: owed) (e.consumeEntry w).toState := by
  obtain ⟨d, hd⟩ := List.exists_mem_of_ne_nil _ hn
  obtain ⟨hm, hdw⟩ := List.mem_filter.mp hd
  obtain ⟨x, before, after, -, hx, hb, ha⟩ := List.exists_of_eraseP (p := fun x => decide (x.window = w)) hm hdw
  rw [← of_decide_eq_true hx]
  exact h.taken rfl rfl hb (by rw [Event.consumeEntry_demand, of_decide_eq_true hx]; exact ha)

/-! ### A record put at the tail of a place -/

section

variable {l : List Rack} {r r' : Rack}

theorem capped_without (h : Capped l) (tag : Nat) : Capped (l.filter (·.tag ≠ tag)) := fun p n hp =>
  (List.Sublist.countP_le List.filter_sublist).trans (h p n hp)

theorem capped_rejoined (h : Capped l) (hroom : ∀ n, capacityOf r'.place = some n → crowd l r'.place < n) :
    Capped (rejoined l r') := by
  intro p n hp
  have hle : crowd (l.filter (·.tag ≠ r'.tag)) p ≤ crowd l p := List.Sublist.countP_le List.filter_sublist
  have := h p n hp
  rw [crowd, rejoined, List.countP_append, List.countP_singleton, ← crowd]
  by_cases he : r'.place = p
  · have := hroom n (he ▸ hp)
    rw [he] at this
    simp only [he, decide_true, if_true]
    omega
  · rw [decide_eq_false he, if_neg Bool.false_ne_true]
    omega

theorem stacked_of_crowds {l' : List Rack} (h : Stacked l)
    (hs : ∀ w, crowd l' (.windowSpare w) ≤ crowd l (.windowSpare w))
    (hf : ∀ w, crowd l (.windowFill w) ≤ crowd l' (.windowFill w)) : Stacked l' :=
  fun w => (hs w).trans ((h w).trans (hf w))

end

/-- The law of places and of demand. -/
structure Served (s : State) : Prop where
  capped : Capped s.racks
  stacked : Stacked s.racks
  balanced : Balanced [] s

theorem Served.of_parts {e e' : Event} (h : Served e.toState) (hr : e'.racks = e.racks) (hd : desk e' = desk e) :
    Served e'.toState := by
  obtain ⟨hw, hdm, -⟩ := desk_parts hd
  exact ⟨hr ▸ h.capped, hr ▸ h.stacked, h.balanced.of_claims hw hdm fun v => by rw [hr]⟩

theorem claims_rejoined {l : List Rack} {r r' : Rack} (h : Tags l) (hr : r ∈ l) (ht : r'.tag = r.tag) (v : Window) :
    claims (rejoined l r') v + (claimOf r).toList.count v = claims l v + (claimOf r').toList.count v := by
  have hcount (x : Rack) : (claimOf x).toList.count v = if decide (claimOf x = some v) then 1 else 0 := by
    cases hc : claimOf x <;> simp [List.count_singleton]
  rw [hcount, hcount]
  exact countP_rejoined h hr ht _

theorem crowd_rejoined {l : List Rack} {r r' : Rack} (h : Tags l) (hr : r ∈ l) (ht : r'.tag = r.tag) (p : Place) :
    crowd (rejoined l r') p + (if r.place = p then 1 else 0) = crowd l p + (if r'.place = p then 1 else 0) := by
  have := countP_rejoined h hr ht fun x => decide (x.place = p)
  simp only [decide_eq_true_eq] at this
  exact this

theorem claims_without {l : List Rack} {r : Rack} (h : Tags l) (hr : r ∈ l) (v : Window) :
    claims (l.filter (·.tag ≠ r.tag)) v + (claimOf r).toList.count v = claims l v := by
  have hcount : (claimOf r).toList.count v = if decide (claimOf r = some v) then 1 else 0 := by
    cases hc : claimOf r <;> simp [List.count_singleton]
  rw [hcount]
  exact countP_without h hr _

theorem crowd_without {l : List Rack} {r : Rack} (h : Tags l) (hr : r ∈ l) (p : Place) :
    crowd (l.filter (·.tag ≠ r.tag)) p + (if r.place = p then 1 else 0) = crowd l p := by
  have := countP_without h hr fun x => decide (x.place = p)
  simp only [decide_eq_true_eq] at this
  exact this

/-! ### Departures -/

theorem crowd_pos {l : List Rack} {r : Rack} (h : r ∈ l) : 0 < crowd l r.place :=
  List.countP_pos_iff.mpr ⟨r, h, decide_eq_true rfl⟩

theorem crowd_zero_of_fillRack {s : State} {w : Window} (h : s.fillRack w = none) :
    crowd s.racks (.windowFill w) = 0 := by
  rw [← count_eq, State.count, List.length_eq_zero_iff]
  exact List.head?_eq_none_iff.mp h

theorem crowd_zero_of_spareRack {s : State} {w : Window} (h : s.spareRack w = none) :
    crowd s.racks (.windowSpare w) = 0 := by
  rw [← count_eq, State.count, List.length_eq_zero_iff]
  exact List.head?_eq_none_iff.mp h

/-- The swap of R41, at a window whose FILL has just become empty. -/
theorem swap_stacked {e : Event} {w : Window} (htags : Tags e.racks) (hcap : Capped e.racks)
    (hstack : ∀ v, v ≠ w → crowd e.racks (.windowSpare v) ≤ crowd e.racks (.windowFill v))
    (hfill : crowd e.racks (.windowFill w) = 0) (hbal : Balanced owed e.toState) :
    Capped (e.swap w).racks ∧ Stacked (e.swap w).racks ∧ Balanced owed (e.swap w).toState := by
  cases hs : e.toState.spareRack w with
  | none =>
    have he : e.swap w = e := by
      unfold Event.swap
      rw [hs]
      split <;> simp_all
    rw [he]
    refine ⟨hcap, fun v => ?_, hbal⟩
    by_cases hv : v = w
    · rw [hv, crowd_zero_of_spareRack hs]
      exact Nat.zero_le _
    · exact hstack v hv
  | some x =>
    obtain ⟨hm, hx⟩ := mem_of_spareRack hs
    have hf : e.toState.fillRack w = none := by
      by_contra hne
      obtain ⟨y, hy⟩ := Option.ne_none_iff_exists'.mp hne
      obtain ⟨hym, hyp⟩ := mem_of_fillRack hy
      have := crowd_pos hym
      rw [hyp] at this
      omega
    have he : e.swap w = e.join (x.moved .filling (.windowFill w) none e.now) := by
      unfold Event.swap
      rw [hs, hf]
    have hcrowd := fun p => crowd_rejoined (r' := x.moved .filling (.windowFill w) none e.now) htags hm rfl p
    rw [he, Event.join_racks]
    refine ⟨capped_rejoined hcap fun n hn => ?_, fun v => ?_, ?_⟩
    · cases hn
      change crowd e.racks (.windowFill w) < 1
      omega
    · have hsp := hcrowd (.windowSpare v)
      have hfi := hcrowd (.windowFill v)
      have hone := hcap (.windowSpare v) 1 rfl
      rw [hx, show (x.moved .filling (.windowFill w) none e.now).place = .windowFill w from rfl] at hsp hfi
      by_cases hv : w = v
      · subst hv
        rw [if_pos rfl, if_neg nofun] at hsp
        rw [if_neg nofun, if_pos rfl] at hfi
        omega
      · have := hstack v (Ne.symm hv)
        rw [if_neg (by simpa using hv), if_neg nofun] at hsp
        rw [if_neg nofun, if_neg (by simpa using hv)] at hfi
        omega
    · refine hbal.of_claims (join_windows _ _) (join_demand _ _) fun v => ?_
      have := claims_rejoined (r' := x.moved .filling (.windowFill w) none e.now) htags hm rfl v
      rw [show claimOf x = some w from claimOf_eq_some.mpr (.inr (.inl hx)),
        show claimOf (x.moved .filling (.windowFill w) none e.now) = some w from rfl] at this
      rw [Event.join_racks]
      omega

theorem served_post {e : Event} {w : Window} (hcap : Capped e.racks) (hstack : Stacked e.racks)
    (hbal : Balanced [w] e.toState) : Served (e.post w).toState :=
  ⟨by rw [post_racks]; exact hcap, by rw [post_racks]; exact hstack, hbal.posted⟩

theorem served_noteStarved {e : Event} (h : Served e.toState) (w : Window) : Served (e.noteStarved w).toState := by
  refine h.of_parts (noteStarved_racks e w) ?_
  rcases e.noteStarved_cases w with ⟨-, he⟩ | ⟨-, he⟩ <;> rw [he]
  rfl

/-- What a departure owes: the window it leaves, or was routed to, gets an entry, and SPARE follows FILL. -/
theorem served_departed {e : Event} {r : Rack} (htags : Tags e.racks) (hcap : Capped e.racks)
    (hstack : ∀ v, r.place ≠ .windowFill v → crowd e.racks (.windowSpare v) ≤ crowd e.racks (.windowFill v))
    (hfill : ∀ w, r.place = .windowFill w → crowd e.racks (.windowFill w) = 0)
    (hbal : Balanced (claimOf r).toList e.toState) : Served (e.departed r).toState := by
  unfold Event.departed
  unfold claimOf at hbal
  split
  case h_1 w hw =>
    rw [hw] at hbal
    have hswap := swap_stacked htags hcap (fun v hv => hstack v (by rw [hw]; simpa using Ne.symm hv)) (hfill w hw) hbal
    obtain ⟨hc, hs, hb⟩ := hswap
    exact served_noteStarved (served_post hc hs hb) w
  case h_2 w hw =>
    rw [hw] at hbal
    exact served_noteStarved (served_post hcap (fun v => hstack v (by rw [hw]; nofun)) hbal) w
  case h_6 hw =>
    rw [hw] at hbal
    have hs : Stacked e.racks := fun v => hstack v (by rw [hw]; nofun)
    split
    · rename_i w hd
      dsimp only at hbal
      rw [hd] at hbal
      exact served_post hcap hs hbal
    · rename_i hd
      dsimp only at hbal
      rw [hd] at hbal
      exact ⟨hcap, hs, hbal⟩
  case h_7 t hw =>
    rw [hw] at hbal
    have hs : Stacked e.racks := fun v => hstack v (by rw [hw]; nofun)
    exact Served.of_parts ⟨hcap, hs, hbal⟩ (laneDeparted_racks e t) (desk_laneDeparted e t)
  all_goals
    rename_i hw
    rw [hw] at hbal
    exact ⟨hcap, fun v => hstack v (by rw [hw]; nofun), hbal⟩

end Sys2Proof.Proofs.Demand
end

section
/-! Every act keeps the law of places and demand (R39, R41, R148, R157). -/

namespace Sys2Proof.Proofs.DemandActs

open Sys2Proof.Machine Sys2Proof.Proofs.Tables Sys2Proof.Proofs.Acts Sys2Proof.Proofs.ActsKeepTheTable
  Sys2Proof.Proofs.Desk Sys2Proof.Proofs.Chains Sys2Proof.Proofs.Beginnings Sys2Proof.Proofs.Records
  Sys2Proof.Proofs.Demand

/-! ### Arrivals -/

/-- A place has room for one more rack, as far as it has a capacity. -/
def Open (l : List Rack) (p : Place) : Prop := ∀ n, capacityOf p = some n → crowd l p < n

theorem open_of_hasRoom {s : State} {p : Place} (h : s.hasRoom p = true) : Open s.racks p :=
  fun _ hn => crowd_lt_of_hasRoom hn h

/-- `l'` has at most one rack more than `l`, at `p`, and none less at the FILL positions; SPARE is joined behind FILL.
-/
structure Arrived (l l' : List Rack) (p : Place) : Prop where
  most : ∀ q, crowd l' q ≤ crowd l q + if p = q then 1 else 0
  fill : ∀ w, crowd l (.windowFill w) ≤ crowd l' (.windowFill w)
  spare : ∀ w, p = .windowSpare w → crowd l (.windowSpare w) < crowd l (.windowFill w)

theorem Arrived.stacked {l l' : List Rack} {p : Place} (ha : Arrived l l' p) (h : Stacked l) : Stacked l' := by
  intro w
  have hm := ha.most (.windowSpare w)
  have hf := ha.fill w
  have hs := h w
  by_cases hp : p = .windowSpare w
  · have := ha.spare w hp
    rw [if_pos hp] at hm
    omega
  · rw [if_neg hp] at hm
    omega

theorem Arrived.capped {l l' : List Rack} {p : Place} (ha : Arrived l l' p) (h : Capped l) (ho : Open l p) :
    Capped l' := by
  intro q n hq
  have hm := ha.most q
  have := h q n hq
  by_cases hp : p = q
  · subst hp
    have := ho n hq
    rw [if_pos rfl] at hm
    omega
  · rw [if_neg hp] at hm
    omega

theorem crowd_added {l : List Rack} {r : Rack} (h : ∀ x ∈ l, x.tag ≠ r.tag) (p : Place) :
    crowd (rejoined l r) p = crowd l p + if r.place = p then 1 else 0 := by
  simp only [crowd, rejoined_of_absent h, List.countP_append, List.countP_singleton, decide_eq_true_eq]

theorem claims_added {l : List Rack} {r : Rack} (h : ∀ x ∈ l, x.tag ≠ r.tag) (v : Window) :
    claims (rejoined l r) v = claims l v + (claimOf r).toList.count v := by
  simp only [claims, rejoined_of_absent h, List.countP_append, List.countP_singleton, decide_eq_true_eq]
  cases hc : claimOf r <;> simp [List.count_singleton]

theorem arrived_added {l : List Rack} {r : Rack} (h : ∀ x ∈ l, x.tag ≠ r.tag)
    (hs : ∀ w, r.place = .windowSpare w → crowd l (.windowSpare w) < crowd l (.windowFill w)) :
    Arrived l (rejoined l r) r.place :=
  ⟨fun q => (crowd_added h q).le, fun w => by rw [crowd_added h]; exact Nat.le_add_right _ _, hs⟩

theorem arrived_rejoined {l : List Rack} {r r' : Rack} (h : Tags l) (hr : r ∈ l) (ht : r'.tag = r.tag)
    (hf : ∀ w, r.place ≠ .windowFill w)
    (hs : ∀ w, r'.place = .windowSpare w → crowd l (.windowSpare w) < crowd l (.windowFill w)) :
    Arrived l (rejoined l r') r'.place := by
  refine ⟨fun q => ?_, fun w => ?_, hs⟩
  · have := crowd_rejoined h hr ht q
    omega
  · have := crowd_rejoined h hr ht (.windowFill w)
    rw [if_neg (hf w)] at this
    omega

variable {s₀ : State} {e e' : Event}

theorem place_of_claimless {r : Rack} (h : claimOf r = none) :
    (∀ w, r.place ≠ .windowFill w) ∧ ∀ w, r.place ≠ .windowSpare w :=
  ⟨fun w hp => by simp [claimOf, hp] at h, fun w hp => by simp [claimOf, hp] at h⟩

/-- A rack that meets no demand goes to a place where it meets none. -/
theorem served_rejoined {r r' : Rack} (h : Tags e.racks) (hs : Served e.toState) (hr : r ∈ e.racks)
    (ht : r'.tag = r.tag)
    (he : e'.racks = rejoined e.racks r') (hd : desk e' = desk e) (hc : claimOf r = none) (hc' : claimOf r' = none)
    (ho : Open e.racks r'.place) : Served e'.toState := by
  obtain ⟨hw, hdm, -⟩ := desk_parts hd
  have ha : Arrived e.racks e'.racks r'.place := by
    rw [he]
    exact arrived_rejoined h hr ht (place_of_claimless hc).1 fun w hp => absurd hp ((place_of_claimless hc').2 w)
  refine ⟨ha.capped hs.capped ho, ha.stacked hs.stacked, hs.balanced.of_claims hw hdm fun v => ?_⟩
  have := claims_rejoined h hr ht v
  rw [hc, hc'] at this
  rw [he]
  exact this

/-- A new record that meets no demand. -/
theorem served_added {r : Rack} (hs : Served e.toState) (ha : e.toState.rack? r.tag = none)
    (he : e'.racks = rejoined e.racks r) (hw : e'.windows = e.windows) (hd : e'.demand = e.demand)
    (hc : claimOf r = none) (ho : Open e.racks r.place) : Served e'.toState := by
  have habs := State.rack?_none ha
  have harr : Arrived e.racks e'.racks r.place := by
    rw [he]
    exact arrived_added habs fun w hp => absurd hp ((place_of_claimless hc).2 w)
  refine ⟨harr.capped hs.capped ho, harr.stacked hs.stacked, hs.balanced.of_claims hw hd fun v => ?_⟩
  have := claims_added habs v
  rw [hc] at this
  rw [he, this]
  rfl

/-! ### Moves and departures -/

theorem served_moved {r r' : Rack} {st : RackState} {p : Place} {cause : Option HoldCause} (h : Lawful s₀ e)
    (hs : Served e.toState) (hr : r ∈ e.racks) (ha : Alike r r') (hg : Goes st p cause)
    (hroom : e.toState.hasRoom p = true) : Served ((e.move r' st p cause).cancelPending r.tag).toState := by
  have hclaim : claimOf (r'.moved st p cause e.now) = none := by
    cases hg
    case returnLoop =>
      change (if r'.place = .returnLoop then none else r'.destination) = none
      rw [ha.place, ha.destination]
      split
      · rfl
      · exact (h.soundRack hr).destination ‹_›
    all_goals rfl
  have hold : claimOf r' = claimOf r := by
    unfold claimOf
    rw [ha.place, ha.destination]
  have hcrowd := fun q => crowd_rejoined (r' := r'.moved st p cause e.now) h.tags hr ha.tag q
  have hplace : (r'.moved st p cause e.now).place = p := rfl
  have hnew := place_of_claimless hclaim
  rw [hplace] at hcrowd hnew
  refine Served.of_parts ?_ (cancelPending_racks _ _) (desk_cancelPending _ _)
  unfold Event.move
  refine served_departed ?_ ?_ (fun v hv => ?_) (fun w hw => ?_) ?_
  · rw [Event.join_racks]
    exact tags_rejoined h.tags _
  · rw [Event.join_racks]
    exact capped_rejoined hs.capped (open_of_hasRoom hroom)
  · rw [Event.join_racks]
    have h1 := hcrowd (.windowSpare v)
    have h2 := hcrowd (.windowFill v)
    have := hs.stacked v
    rw [if_neg (hnew.2 v)] at h1
    rw [if_neg (hnew.1 v), if_neg (ha.place ▸ hv)] at h2
    omega
  · rw [Event.join_racks]
    have h2 := hcrowd (.windowFill w)
    have := hs.capped (.windowFill w) 1 rfl
    rw [if_neg (hnew.1 w), if_pos (ha.place ▸ hw)] at h2
    omega
  · refine hs.balanced.of_claims (join_windows _ _) (join_demand _ _) fun v => ?_
    have := claims_rejoined (r' := r'.moved st p cause e.now) h.tags hr ha.tag v
    rw [hclaim, ← hold] at this
    rw [Event.join_racks]
    exact this

theorem served_retired {r : Rack} (h : Lawful s₀ e) (hs : Served e.toState) (hr : r ∈ e.racks) :
    Served (e.retireRack r).toState := by
  have hcrowd := fun q => crowd_without h.tags hr q
  refine Served.of_parts ?_ (cancelPending_racks _ _) (desk_cancelPending _ _)
  unfold Event.remove
  refine served_departed (h.tags.sublist (List.filter_sublist.map _)) (capped_without hs.capped _) (fun v hv => ?_)
    (fun w hw => ?_) ?_
  · have h1 := hcrowd (.windowSpare v)
    have h2 := hcrowd (.windowFill v)
    have := hs.stacked v
    rw [if_neg hv] at h2
    dsimp only
    omega
  · have h2 := hcrowd (.windowFill w)
    have := hs.capped (.windowFill w) 1 rfl
    rw [if_pos hw] at h2
    dsimp only
    omega
  · exact hs.balanced.of_claims rfl rfl fun v => claims_without h.tags hr v

/-! ### Racks taken at a window -/

/-- The position that is free for a rack has room, and SPARE has FILL before it (R41). -/
theorem freePosition_open {s : State} {w : Window} {st : RackState} {p : Place} (h : s.freePosition w = some (st, p)) :
    (p = .windowFill w ∨ p = .windowSpare w) ∧ Open s.racks p ∧
      ∀ v, p = .windowSpare v → crowd s.racks (.windowSpare v) < crowd s.racks (.windowFill v) := by
  rcases freePosition_cases h with ⟨-, rfl, hf⟩ | ⟨-, rfl, hf, hs⟩
  · exact ⟨.inl rfl, open_of_hasRoom hf, fun _ => nofun⟩
  · refine ⟨.inr rfl, open_of_hasRoom hs, fun v hv => ?_⟩
    cases hv
    simp only [State.hasRoom, decide_eq_false_iff_not, decide_eq_true_eq, count_eq] at hf hs
    omega

theorem served_taken {w : Window} {r : Rack} {b : Bool} {st : RackState} {p : Place} (h : Lawful s₀ e)
    (hs : Served e.toState) (hr : r ∈ e.racks) (ho : Offered e w r b)
    (hf : e.toState.freePosition w = some (st, p)) :
    Served ((if b then e.consumeEntry w else e).join (r.moved st p none e.now)).toState := by
  obtain ⟨hp, hopen, hspare⟩ := freePosition_open hf
  have hclaim : claimOf (r.moved st p none e.now) = some w := by
    rcases hp with rfl | rfl <;> rfl
  have hplace : ∀ v, r.place ≠ .windowFill v := by
    rcases place_of_offered ho with hp | hp <;> rw [hp] <;> exact fun _ => nofun
  have hracks : ((if b then e.consumeEntry w else e).join (r.moved st p none e.now)).racks =
      rejoined e.racks (r.moved st p none e.now) := by
    rw [Event.join_racks]
    cases b <;> rfl
  have harr := arrived_rejoined (r' := r.moved st p none e.now) h.tags hr rfl hplace hspare
  have hcl := claims_rejoined (r' := r.moved st p none e.now) h.tags hr rfl
  rw [hclaim] at hcl
  refine ⟨hracks ▸ harr.capped hs.capped hopen, hracks ▸ harr.stacked hs.stacked, ?_⟩
  have hentry (hne : e.toState.entriesOf w ≠ []) (hc : claimOf r = none) :
      Balanced [] ((e.consumeEntry w).join (r.moved st p none e.now)).toState := by
    refine (hs.balanced.consumed hne).of_claims (join_windows _ _) (join_demand _ _) fun v => ?_
    have := hcl v
    rw [hc] at this
    rw [Event.join_racks]
    exact this
  cases ho
  case routed hp hd =>
    refine hs.balanced.of_claims (join_windows _ _) (join_demand _ _) fun v => ?_
    have := hcl v
    rw [show claimOf r = some w by rw [claimOf, hp]; exact hd] at this
    rw [Event.join_racks]
    exact Nat.add_right_cancel this
  case unassigned hp hd hne => exact hentry hne (by rw [claimOf, hp]; exact hd)
  case stored hp hne => exact hentry hne (by rw [claimOf, hp])

theorem served_enrolledAt {w : Window} {tag : Nat} {a : EnrolAttributes} {st : RackState} {p : Place}
    (hs : Served e.toState) (ha : e.toState.rack? tag = none) (hne : e.toState.entriesOf w ≠ [])
    (hf : e.toState.freePosition w = some (st, p)) : Served ((e.consumeEntry w).enrol tag a st p).toState := by
  obtain ⟨hp, hopen, hspare⟩ := freePosition_open hf
  have habs := State.rack?_none ha
  have hclaim : claimOf (newRack tag e.toState.freeSlot a st p e.now) = some w := by
    rcases hp with rfl | rfl <;> rfl
  have harr := arrived_added (r := newRack tag e.toState.freeSlot a st p e.now) habs hspare
  refine Served.of_parts (e := (e.consumeEntry w).join (newRack tag e.toState.freeSlot a st p e.now)) ?_
    (cancelPending_racks _ _) (desk_cancelPending _ _)
  refine ⟨?_, ?_, (hs.balanced.consumed hne).of_claims (join_windows _ _) (join_demand _ _) fun v => ?_⟩
  · rw [Event.join_racks]
    exact harr.capped hs.capped hopen
  · rw [Event.join_racks]
    exact harr.stacked hs.stacked
  · have := claims_added (r := newRack tag e.toState.freeSlot a st p e.now) habs v
    rw [Event.join_racks, hclaim] at *
    exact this

/-! ### Lanes -/

theorem claimOf_lane {r : Rack} {t : Tunnel} (h : r.place = .tunnel t) : claimOf r = none := by rw [claimOf, h]

theorem open_unknown (l : List Rack) : Open l .unknown := nofun

theorem served_loseRacks (cause : HoldCause) (rs : List Rack) : ∀ e : Event, Tags e.racks → Served e.toState → Tags rs →
    (∀ r ∈ rs, r ∈ e.racks ∧ ∃ t, r.place = .tunnel t) → Served (e.loseRacks cause rs).toState := by
  induction rs with
  | nil => exact fun e _ hs _ _ => hs
  | cons r rs ih =>
    intro e h hs hd hm
    obtain ⟨hr, t, ht⟩ := hm r List.mem_cons_self
    have hj := Event.join_racks e (r.moved .held .unknown (some cause) e.now)
    refine ih _ (hj ▸ tags_rejoined h _) ?_ (tags_of_cons hd) fun x hx => ?_
    · exact served_rejoined (r' := r.moved .held .unknown (some cause) e.now) h hs hr rfl hj
        (desk_join (r := r.moved .held .unknown (some cause) e.now) nofun e)
        (claimOf_lane ht) rfl (open_unknown _)
    · obtain ⟨hxm, hxt⟩ := hm x (List.mem_cons_of_mem _ hx)
      exact ⟨hj ▸ mem_rejoined.mpr (.inl ⟨hxm, absent_of_tags_cons hd x hx⟩), hxt⟩

/-- A change of a sheet moves no rack. -/
theorem served_modifySheet (hs : Served e.toState) (tag : Nat) (f : PassSheet → PassSheet) :
    Served (e.modifySheet tag f).toState := by
  have hcount {P : Rack → Bool} (hP : ∀ x : Rack, P { x with sheet := x.sheet.map f } = P x) :
      (e.modifySheet tag f).racks.countP P = e.racks.countP P := by
    have hmap : (e.modifySheet tag f).racks.map P = e.racks.map P := map_edited fun x _ _ => hP x
    have := congrArg (List.countP id) hmap
    rwa [List.countP_map, List.countP_map] at this
  have hcrowd (p : Place) : crowd (e.modifySheet tag f).racks p = crowd e.racks p := hcount fun _ => rfl
  have hclaims (w : Window) : claims (e.modifySheet tag f).racks w = claims e.racks w := hcount fun _ => rfl
  refine ⟨fun p n hp => ?_, fun w => ?_, hs.balanced.of_claims rfl rfl fun v => ?_⟩
  · rw [hcrowd]
    exact hs.capped p n hp
  · rw [hcrowd, hcrowd]
    exact hs.stacked w
  · rw [hclaims]

theorem served_exitMismatch (h : Lawful s₀ e) (hs : Served e.toState) (t : Tunnel) (p : Port) (tag : Nat) :
    Served (e.exitMismatch t p tag).event.toState := by
  have hab : Served (e.abandonExit t).toState := hs.of_parts (abandonExit_racks e t) (desk_abandonExit e t)
  have hl : Lawful s₀ (e.abandonExit t) := h.of_racks (abandonExit_racks e t) (.inr (abandonExit_pending e t))
  have hd : Tags (olderThan ((e.abandonExit t).toState.lane t) tag) :=
    (tags_lane hl t).sublist ((List.takeWhile_sublist _).map _)
  have hlost := served_loseRacks .lostTrack _ _ hl.tags hab hd fun r hr =>
    ⟨(mem_lane.mp (mem_olderThan hr).1).1, t, (mem_lane.mp (mem_olderThan hr).1).2⟩
  exact (served_modifySheet hlost tag _).of_parts rfl rfl

theorem served_enterFault (h : Lawful s₀ e) (hs : Served e.toState) (t : Tunnel) :
    Served (e.enterFault t).toState := by
  have hlost := served_loseRacks .tunnelFault (e.toState.lane t) e h.tags hs (tags_lane h t) fun r hr =>
    ⟨(mem_lane.mp hr).1, t, (mem_lane.mp hr).2⟩
  exact hlost.of_parts (enterFault_racks (tags_lane h t))
    ((desk_enterFault e t).trans (desk_loseRacks _ _ e).symm)

theorem served_released {t : Tunnel} {r : Rack} {v : Verdict} {d : Destination} {cause : Option HoldCause}
    (h : Lawful s₀ e) (hs : Served e.toState) (hf : e.toState.finalRack t = some r)
    (hg : e.toState.gateDestination t v r.passes = some (d, cause)) : Served (e.release t r v d cause).toState := by
  obtain ⟨hm, hp, -⟩ := mem_of_finalRack hf
  have hroom : e.toState.hasRoom d.place = true ∧ d.place ≠ .returnLoop ∧
      claimOf (r.released v d cause e.now) = none := by
    rcases gateDestination_cases hg with ⟨-, rfl, -, hr⟩ | ⟨-, rfl, -, hr⟩ | ⟨-, rfl, -, hr⟩ <;>
      exact ⟨hr, nofun, rfl⟩
  exact served_rejoined (r' := r.released v d cause e.now) h.tags hs hm rfl (release_racks hp e v d cause)
    (desk_release hp hroom.2.1 e v cause) (claimOf_lane hp) hroom.2.2 (open_of_hasRoom hroom.1)

theorem served_admitRack {t : Tunnel} {r : Rack} (h : Lawful s₀ e) (hs : Served e.toState) (hr : r ∈ e.racks)
    (ha : r.admissible = true) : Served (e.admitRack t r).toState := by
  have hc : claimOf r = none := by
    unfold claimOf
    rcases (admissible_iff r).mp ha with ⟨-, hp⟩ | ⟨-, hp⟩ <;> rw [hp]
  exact served_rejoined (r' := e.toState.admittedRack t r) h.tags hs hr rfl (admitRack_racks ha e t)
    (desk_admitRack ha e t) hc rfl nofun

end Sys2Proof.Proofs.DemandActs
end

section
/-! Pairing, modes and classes keep the law of places and demand; with it, the law is an invariant (R148, R154 to
R159). -/

namespace Sys2Proof.Proofs.DemandRoutes

open Sys2Proof.Machine Sys2Proof.Proofs.Tables Sys2Proof.Proofs.Acts Sys2Proof.Proofs.ActsKeepTheTable
  Sys2Proof.Proofs.Desk Sys2Proof.Proofs.Chains Sys2Proof.Proofs.Beginnings Sys2Proof.Proofs.Records
  Sys2Proof.Proofs.Demand Sys2Proof.Proofs.DemandActs

variable {s₀ : State} {e e' : Event} {owed : List Window}

/-! ### Destinations -/

theorem AllRerouted.crowd_eq {l l' : List Rack} (h : AllRerouted l l') (p : Place) : crowd l' p = crowd l p :=
  h.countP_eq fun _ _ => rfl

/-- Places are as before when destinations alone have changed. -/
theorem seated_rerouted {l l' : List Rack} (h : AllRerouted l l') (hc : Capped l) (hs : Stacked l) :
    Capped l' ∧ Stacked l' := by
  refine ⟨fun p n hp => ?_, fun w => ?_⟩
  · rw [AllRerouted.crowd_eq h]
    exact hc p n hp
  · rw [AllRerouted.crowd_eq h, AllRerouted.crowd_eq h]
    exact hs w

/-- What the change of a destination on RETURN does to the claims. -/
theorem claims_routed {l : List Rack} {r : Rack} (h : Tags l) (hr : r ∈ l) (hp : r.place = .returnLoop)
    (d : Option Window) (v : Window) :
    claims (edited l r.tag fun x => { x with destination := d }) v + r.destination.toList.count v =
      claims l v + d.toList.count v := by
  have hcount (o : Option Window) : o.toList.count v = if decide (o = some v) then 1 else 0 := by
    cases o <;> simp [List.count_singleton]
  have := countP_edited h hr (fun x => { x with destination := d }) fun x => decide (claimOf x = some v)
  rw [hcount, hcount]
  simp only [claimOf, hp] at this
  exact this

/-- Racks of the list that stand on RETURN with this destination. -/
def Standing (l : List Rack) (d : Option Window) (rs : List Rack) : Prop :=
  Tags rs ∧ ∀ r ∈ rs, r ∈ l ∧ r.place = .returnLoop ∧ r.destination = d

theorem Standing.tail {l : List Rack} {d d' : Option Window} {r : Rack} {rs : List Rack} (h : Standing l d (r :: rs)) :
    Standing (edited l r.tag fun x => { x with destination := d' }) d rs := by
  refine ⟨tags_of_cons h.1, fun x hx => ?_⟩
  obtain ⟨hm, hp, hd⟩ := h.2 x (List.mem_cons_of_mem _ hx)
  exact ⟨List.mem_map.mpr ⟨x, hm, if_neg (absent_of_tags_cons h.1 x hx)⟩, hp, hd⟩

theorem tags_routed {l : List Rack} (h : Tags l) (tag : Nat) (d : Option Window) :
    Tags (edited l tag fun x => { x with destination := d }) := by
  have hmap : (edited l tag fun x => { x with destination := d }).map (·.tag) = l.map (·.tag) :=
    map_edited fun _ _ _ => rfl
  exact (congrArg List.Nodup hmap).mpr h

theorem standing_unassigned {s : State} (h : Tags s.racks) : Standing s.racks none s.unassigned :=
  ⟨h.sublist ((List.filter_sublist.trans List.filter_sublist).map _), fun _ hr => mem_unassigned.mp hr⟩

theorem standing_routedTo {s : State} (h : Tags s.racks) (w : Window) : Standing s.racks (some w) (s.routedTo w) :=
  ⟨h.sublist ((List.filter_sublist.trans List.filter_sublist).map _), fun _ hr => mem_routedTo.mp hr⟩

/-! ### Pairing -/

theorem pairingEntry_some {s : State} {r : Rack} {d : DemandEntry} (h : s.pairingEntry r = some d) :
    d ∈ s.demand ∧ s.windows[d.window].mode = .accept ∧ s.windows[d.window].cls = r.cls := by
  unfold State.pairingEntry at h
  dsimp only at h
  have hm : d ∈ s.demand.filter fun d => s.windows[d.window].mode = .accept ∧ s.windows[d.window].cls = r.cls := by
    split at h
    · cases h
      exact List.mem_of_find?_eq_some ‹_›
    · exact List.mem_of_head? h
  obtain ⟨hd, hc⟩ := List.mem_filter.mp hm
  exact ⟨hd, of_decide_eq_true hc⟩

theorem balanced_pairOne {r : Rack} (h : Tags e.racks) (hb : Balanced owed e.toState) (hr : r ∈ e.racks)
    (hp : r.place = .returnLoop) (hd : r.destination = none) : Balanced owed (e.pairOne r).toState := by
  unfold Event.pairOne
  split
  · exact hb
  · rename_i d he
    obtain ⟨before, after, -, hq, hq'⟩ := List.exists_erase_eq (pairingEntry_some he).1
    have ht : Balanced (d.window :: owed) ({ e with demand := e.demand.erase d } : Event).toState :=
      hb.taken rfl rfl hq hq'
    refine ht.of_claims rfl rfl fun v => ?_
    have := claims_routed h hr hp (some d.window) v
    rw [hd] at this
    have hc : (d.window :: owed).count v = [d.window].count v + owed.count v := by
      rw [← List.count_append]
      rfl
    rw [hc]
    change claims (edited e.racks r.tag _) v + _ = claims e.racks v + _
    simp only [Option.toList_none, List.count_nil, Option.toList_some] at this
    omega

theorem pairOne_standing {r : Rack} {rs : List Rack} (h : Standing e.racks none (r :: rs)) :
    Standing (e.pairOne r).racks none rs := by
  unfold Event.pairOne
  split
  · exact ⟨tags_of_cons h.1, fun x hx => h.2 x (List.mem_cons_of_mem _ hx)⟩
  · exact h.tail

theorem pairOne_tags {r : Rack} (h : Tags e.racks) : Tags (e.pairOne r).racks := by
  unfold Event.pairOne
  split
  · exact h
  · exact tags_routed h _ _

theorem balanced_pairAll (rs : List Rack) : ∀ e : Event, Tags e.racks → Standing e.racks none rs →
    Balanced owed e.toState → Balanced owed (e.pairAll rs).toState := by
  induction rs with
  | nil => exact fun _ _ _ h => h
  | cons r rs ih =>
    intro e ht hs hb
    obtain ⟨hm, hp, hd⟩ := hs.2 r List.mem_cons_self
    exact ih _ (pairOne_tags ht) (pairOne_standing hs) (balanced_pairOne ht hb hm hp hd)

theorem served_pair (h : Tags e.racks) (hs : Served e.toState) : Served e.pair.toState := by
  obtain ⟨hc, hst⟩ := seated_rerouted (pairAll_rerouted _ e (onReturn_unassigned h)) hs.capped hs.stacked
  exact ⟨hc, hst, balanced_pairAll _ e h (standing_unassigned h) hs.balanced⟩

/-! ### Routes cleared -/

theorem clearRoutes_windows (rs : List Rack) : ∀ e : Event, (e.clearRoutes rs).windows = e.windows := by
  induction rs with
  | nil => exact fun e => rfl
  | cons r rs ih => exact fun e => ih _

theorem balanced_clearRoutes {w : Window} (rs : List Rack) : ∀ (e : Event) {owed : List Window}, Tags e.racks →
    Standing e.racks (some w) rs → Balanced owed e.toState →
    Balanced (List.replicate rs.length w ++ owed) (e.clearRoutes rs).toState := by
  induction rs with
  | nil => exact fun _ _ _ _ h => h
  | cons r rs ih =>
    intro e owed ht hs hb
    obtain ⟨hm, hp, hd⟩ := hs.2 r List.mem_cons_self
    have hone : Balanced (w :: owed) ((e.modifyRack r.tag fun x => { x with destination := none }).sendRole .windows
        (.route r.tag none)).toState := by
      refine hb.of_claims rfl rfl fun v => ?_
      have := claims_routed ht hm hp none v
      rw [hd] at this
      have hc : (w :: owed).count v = [w].count v + owed.count v := by
        rw [← List.count_append]
        rfl
      rw [hc]
      change claims (edited e.racks r.tag _) v + _ = claims e.racks v + _
      simp only [Option.toList_none, List.count_nil, Option.toList_some] at this
      omega
    have := ih _ (tags_routed ht r.tag none) hs.tail hone
    rwa [List.length_cons, List.replicate_succ', List.append_assoc]

/-! ### Modes and classes -/

theorem windows_set (ws : Vector WindowContext 6) (w v : Window) (c : WindowContext) :
    (ws.set w c)[v] = if w = v then c else ws[v] := by
  rw [Fin.getElem_fin, Vector.getElem_set]
  simp only [Fin.ext_iff]
  rfl

theorem balanced_windows {s s' : State} (h : Balanced owed s) (hr : s'.racks = s.racks) (hd : s'.demand = s.demand)
    (hm : ∀ v : Window, s'.windows[v].mode = .stop ↔ s.windows[v].mode = .stop) : Balanced owed s' := by
  refine ⟨fun v => ?_, fun v hv => ?_, fun v hv => ?_⟩
  · rw [hr, entriesOf_congr hd]
    exact h.most v
  · rw [hr, entriesOf_congr hd]
    exact h.full v (mt (hm v).mpr hv)
  · rw [entriesOf_congr hd]
    exact h.stop v ((hm v).mp hv)

theorem balanced_enterStop (h : Tags e.racks) (hb : Balanced [] e.toState) (w : Window) :
    Balanced [] (e.enterStop w).toState := by
  unfold Event.enterStop
  dsimp only
  have hmode (v : Window) : ((e.writeMode w .stop).windows[v]).mode = if w = v then .stop else e.windows[v].mode := by
    rw [Event.writeMode_windows, windows_set]
    split <;> rfl
  have hstopped : Balanced []
      ({ (e.writeMode w .stop) with
          demand := e.demand.filter (·.window ≠ w), wantPairing := true } : Event).toState := by
    have hentries (v : Window) : State.entriesOf
        ({ (e.writeMode w .stop) with
            demand := e.demand.filter (·.window ≠ w), wantPairing := true } : Event).toState v =
          if w = v then [] else e.toState.entriesOf v := by
      rw [State.entriesOf, List.filter_filter]
      split
      · rename_i hv
        simp [hv]
      · rename_i hv
        refine List.filter_congr fun d _ => ?_
        by_cases hd : d.window = v
        · simp [hd, Ne.symm hv]
        · simp [hd]
    refine ⟨fun v => ?_, fun v hv => ?_, fun v hv => ?_⟩
    · have := hb.most v
      rw [hentries]
      split
      · simp only [List.length_nil]
        change claims e.racks v + 0 + _ ≤ 2
        omega
      · exact this
    · have hne : w ≠ v := by
        rintro rfl
        exact hv ((hmode w).trans (if_pos rfl))
      rw [hentries, if_neg hne]
      exact hb.full v fun he => hv ((hmode v).trans ((if_neg hne).trans he))
    · rw [hentries]
      split
      · rfl
      · rename_i hne
        exact hb.stop v (((hmode v).trans (if_neg hne)).symm.trans hv)
  have hcleared := balanced_clearRoutes (w := w) _ _ (by exact h) (standing_routedTo (by exact h) w) hstopped
  refine Balanced.absorbedMany (w := w) ?_ _ hcleared
  rw [clearRoutes_windows]
  exact (hmode w).trans (if_pos rfl)

theorem balanced_leaveStop (hb : Balanced [] e.toState) {w : Window} {m : WindowMode}
    (hold : e.windows[w].mode = .stop) (hm : m ≠ .stop) : Balanced [] (e.leaveStop w m).toState := by
  have hmode (v : Window) : ((e.writeMode w m).windows[v]).mode = if w = v then m else e.windows[v].mode := by
    rw [Event.writeMode_windows, windows_set]
    split <;> rfl
  have hsum : (e.writeMode w m).toState.windowSum w = claims e.racks w := by
    rw [windowSum_eq]
    change claims e.racks w + (e.toState.entriesOf w).length = _
    rw [hb.stop w hold]
    rfl
  have hwritten : Balanced (List.replicate (2 - (e.writeMode w m).toState.windowSum w) w ++ [])
      (e.writeMode w m).toState := by
    rw [List.append_nil, hsum]
    refine ⟨fun v => ?_, fun v hv => ?_, fun v hv => ?_⟩
    · change claims e.racks v + (e.toState.entriesOf v).length + _ ≤ 2
      have := hb.most v
      rw [List.count_replicate]
      by_cases hwv : w = v
      · subst hwv
        rw [hb.stop w hold] at this ⊢
        simp only [List.length_nil, List.count_nil, beq_self_eq_true, if_true] at this ⊢
        omega
      · simpa [hwv] using this
    · change claims e.racks v + (e.toState.entriesOf v).length + _ = 2
      have hmost := hb.most v
      rw [List.count_replicate]
      by_cases hwv : w = v
      · subst hwv
        rw [hb.stop w hold] at hmost ⊢
        simp only [List.length_nil, List.count_nil, beq_self_eq_true, if_true] at hmost ⊢
        omega
      · have := hb.full v fun he => hv (by rw [hmode, if_neg hwv, he])
        simpa [hwv] using this
    · rw [hmode] at hv
      split at hv
      · exact absurd hv hm
      · exact hb.stop v hv
  exact Balanced.postedMany _ hwritten

theorem served_setMode (h : Tags e.racks) (hs : Served e.toState) (w : Window) (m : WindowMode) :
    Served (e.setMode w m).toState := by
  obtain ⟨hc, hst⟩ := seated_rerouted (setMode_rerouted h w m) hs.capped hs.stacked
  refine ⟨hc, hst, ?_⟩
  have hkept (hold : e.windows[w].mode ≠ .stop) (hm : m ≠ .stop) : Balanced [] (e.writeMode w m).toState := by
    refine balanced_windows hs.balanced rfl rfl fun v => ?_
    rw [Event.writeMode_windows, windows_set]
    split
    · rename_i hv
      subst hv
      exact iff_of_false hm hold
    · rfl
  rcases setMode_cases e w m with ⟨-, he⟩ | ⟨-, -, he⟩ | ⟨hold, hm, he⟩ | ⟨hold, hm, he⟩ | ⟨hold, hm, he⟩ <;> rw [he]
  · exact hs.balanced
  · exact balanced_enterStop h hs.balanced w
  · exact balanced_leaveStop hs.balanced hold hm
  · exact hkept (by rw [hold]; nofun) (by rw [hm]; nofun)
  · exact hkept (by rw [hold]; nofun) (by rw [hm]; nofun)

theorem served_setClass (h : Tags e.racks) (hs : Served e.toState) (w : Window) (k : RackClass) :
    Served (e.setClass w k).toState := by
  obtain ⟨hc, hst⟩ := seated_rerouted (setClass_rerouted h w k) hs.capped hs.stacked
  refine ⟨hc, hst, ?_⟩
  unfold Event.setClass
  split
  · exact hs.balanced
  · dsimp only
    have hwritten : Balanced [] ({ e with
        windows := e.windows.set w { e.windows[w] with cls := k }, wantPairing := true } : Event).toState := by
      refine balanced_windows hs.balanced rfl rfl fun v => ?_
      rw [windows_set]
      split
      · rename_i hv
        subst hv
        rfl
      · rfl
    have hstand := standing_routedTo (s := { e.toState with
      windows := e.windows.set w { e.windows[w] with cls := k } }) h w
    refine Balanced.postedMany _ (balanced_clearRoutes _ _ (by exact h) ⟨?_, fun r hr => ?_⟩ hwritten)
    · exact hstand.1.sublist (List.filter_sublist.map _)
    · exact hstand.2 r (List.mem_filter.mp hr).1

/-! ### The invariant -/

/-- Every act keeps the law of places and demand. -/
theorem served_act (h : Lawful s₀ e) (hs : Served e.toState) (ha : Act s₀ e e') : Served e'.toState := by
  cases ha
  case same hsame =>
    refine ⟨hsame.racks ▸ hs.capped, hsame.racks ▸ hs.stacked,
      hs.balanced.of_claims hsame.windows hsame.demand fun v => by rw [hsame.racks]⟩
  case moved hr _ hal hg hroom => exact served_moved h hs hr hal hg hroom
  case retired hr _ => exact served_retired h hs hr
  case taken hr ho hf => exact served_taken h hs hr ho hf
  case enrolledAt _ _ ha _ hne hf => exact served_enrolledAt hs ha hne hf
  case enrolledOnReturn tag a _ _ ha _ hroom =>
    refine Served.of_parts ?_ (cancelPending_racks _ _) (desk_cancelPending _ _)
    exact served_added (r := newRack tag e.toState.freeSlot a .empty .returnLoop e.now) hs ha (Event.join_racks _ _)
      (join_windows _ _) (join_demand _ _) rfl (open_of_hasRoom hroom)
  case released hf _ hg => exact served_released h hs hf hg
  case tornDown t => exact served_enterFault h hs t
  case mismatched t p tag _ _ _ _ _ _ => exact served_exitMismatch h hs t p tag
  case admitted hr hadm _ _ => exact served_admitRack h hs hr hadm
  case enrolledInLane t tag a _ _ ha _ _ _ =>
    obtain ⟨hw, hd, -⟩ := desk_parts (desk_admitNew e t tag a)
    exact served_added (r := e.toState.admittedRack t (newRack tag e.toState.freeSlot a .washing (.tunnel t) e.now))
      hs ha
      (admitNew_racks e t tag a) hw hd rfl nofun
  case sheet r f _ _ _ => exact served_modifySheet hs r.tag f
  case advanced => exact served_modifySheet hs _ _
  case turned | becamePending | dropped => exact ⟨hs.capped, hs.stacked, hs.balanced.of_claims rfl rfl fun _ => rfl⟩
  case paired => exact served_pair h.tags hs
  case modeSet w m => exact served_setMode h.tags hs w m
  case clsSet w k => exact served_setClass h.tags hs w k

theorem served_acts (h : Lawful s₀ e) (hs : Served e.toState) (ha : Acts s₀ e e') : Served e'.toState := by
  induction ha with
  | refl => exact hs
  | tail hacts hact ih => exact served_act (lawful_acts h hacts) ih hact

theorem demandLaw_of_core {s t : State} (hc : coreOf t = coreOf s) (h : s.demandLaw) : t.demandLaw := by
  obtain ⟨hlaw, hcap, hst, hb⟩ := (demandLaw_iff s).mp h
  have hr : t.racks = s.racks := congrArg Core.racks hc
  exact (demandLaw_iff t).mpr ⟨recordLaw_of_core hc hlaw, hr ▸ hcap, hr ▸ hst,
    hb.of_claims (congrArg Core.windows hc) (congrArg Core.demand hc) fun v => by rw [hr]⟩

/-- After a reset or LINE_RESTART every window but those in STOP has its two entries (R162). -/
theorem entriesOf_initialDemand (s : State) (now : Tick) (v : Window) :
    (initialDemand s.windows now).filter (·.window = v) =
      if s.windows[v].mode = .stop then [] else [⟨v, now⟩, ⟨v, now⟩] := by
  have hone {α : Type} (l : List α) : ∀ v, (allWindows.flatMap fun w => if w = v then l else []) = l := by
    intro v
    fin_cases v <;> simp [allWindows]
  rw [initialDemand, List.filter_flatMap]
  refine Eq.trans ?_ (hone (if s.windows[v].mode = .stop then [] else [DemandEntry.mk v now, ⟨v, now⟩]) v)
  refine congrArg (List.flatMap · allWindows) (funext fun w => ?_)
  by_cases hv : w = v
  · subst hv
    rw [if_pos rfl]
    split <;> simp
  · rw [if_neg hv]
    split <;> simp [hv]

theorem demandLaw_lineEmptied (s : State) : s.lineEmptied.demandLaw := by
  refine (demandLaw_iff _).mpr ⟨recordLaw_lineEmptied s, fun _ _ _ => Nat.zero_le _, fun _ => Nat.le_refl _, ?_⟩
  have hentries (v : Window) : s.lineEmptied.entriesOf v =
      if s.windows[v].mode = .stop then [] else [⟨v, s.now⟩, ⟨v, s.now⟩] := entriesOf_initialDemand s s.now v
  have hclaims (v : Window) : claims s.lineEmptied.racks v = 0 := rfl
  refine ⟨fun v => ?_, fun v hv => ?_, fun v hv => ?_⟩
  · rw [hentries, hclaims]
    split <;> simp
  · rw [hentries, hclaims, if_neg (by exact hv)]
    rfl
  · rw [hentries, if_pos (by exact hv)]

/-- Settles O9: every act keeps the capacities and the sums of R148. -/
theorem everyStepKeepsTheDemandLaw : Obligations.EveryStepKeepsTheDemandLaw :=
  law_of_step demandLaw_of_core (fun _ h => h.1.1) (by decide) demandLaw_lineEmptied fun s e h ha => by
    obtain ⟨hlaw, hcap, hst, hb⟩ := (demandLaw_iff s).mp h
    have hall := ha.trans (acts_settle (lawful_acts (lawful_event hlaw) ha))
    obtain ⟨hcap', hst', hb'⟩ := served_acts (lawful_event hlaw) ⟨hcap, hst, hb⟩ hall
    exact (demandLaw_iff _).mpr ⟨(lawful_acts (lawful_event hlaw) hall).law, hcap', hst', hb'⟩

end Sys2Proof.Proofs.DemandRoutes
end

section
/-! Pairing leaves no unassigned rack on RETURN with an eligible entry, and nothing later in the event gives one
(R154). -/

namespace Sys2Proof.Proofs.Pairing

open Sys2Proof.Machine Sys2Proof.Proofs.Tables Sys2Proof.Proofs.Acts Sys2Proof.Proofs.ActsKeepTheTable
  Sys2Proof.Proofs.Desk Sys2Proof.Proofs.Chains Sys2Proof.Proofs.Beginnings Sys2Proof.Proofs.Records
  Sys2Proof.Proofs.Demand Sys2Proof.Proofs.DemandRoutes Sys2Proof.Proofs.Registers

variable {s₀ : State} {e e' : Event}

/-! ### The end of an event owes no pairing -/

theorem desk_releaseTest (t : Tunnel) (grant : Bool) : desk (e.releaseTest t grant).1 = desk e := by
  rcases e.releaseTest_cases t grant with h | ⟨r, v, -, -, -, h⟩ | ⟨r, v, d, cause, e', hf, -, hg, he, h⟩
  · rw [h]
  · rw [h]
    rfl
  · have hp := (mem_of_finalRack hf).2.1
    have hd : d.place ≠ .returnLoop := by
      rcases gateDestination_cases hg with ⟨-, rfl, -, -⟩ | ⟨-, rfl, -, -⟩ | ⟨-, rfl, -, -⟩ <;> nofun
    rw [h, desk_release hp hd]
    rcases he with rfl | ⟨p, -, -, rfl⟩ <;> rfl

theorem desk_roomReport (t : Tunnel) : desk (e.roomReport t) = desk e := by
  unfold Event.roomReport
  split
  · dsimp only
    split
    · exact desk_releaseTest t true
    · rfl
  · rfl

theorem desk_restart (e : Event) (t : Tunnel) : desk (e.restart t) = desk e := by
  by_cases h : (e.tunnels.get t).state = .economy
  · rw [restart_of_economy h]
    split <;> rfl
  · rw [restart_of_other h]

theorem desk_wake (e : Event) : desk e.wake = desk e := by
  unfold Event.wake
  dsimp only
  split
  · rfl
  · split
    · exact desk_restart e .a
    · split
      · exact desk_restart e .b
      · rfl

theorem desk_grant (h : Lawful s₀ e) {q : PendingAdmission} (hq : e.pendingAdmission = some q) (t : Tunnel) :
    desk (e.grant q t) = desk e := by
  obtain ⟨-, hs⟩ := (pendingSound_iff hq).mp ((recordLaw_iff _).mp h.law).2
  unfold Event.grant
  rcases hs with ⟨he, -⟩ | ⟨he, r, hr, ha⟩
  · obtain ⟨a, ha⟩ := Option.isSome_iff_exists.mp he
    simp only [ha]
    exact desk_admitNew _ t q.tag a
  · have hr' : (e.dropPending.send q.port (.grantAdmit q.tag t)).toState.rack? q.tag = some r := hr
    simp only [he, hr']
    exact desk_admitRack ha _ t

theorem desk_reevaluate (h : Lawful s₀ e) : desk e.reevaluate = desk e := by
  unfold Event.reevaluate
  split
  · have h' : Lawful s₀ { e with wantReeval := false } := h.of_racks rfl (.inr rfl)
    dsimp only
    split
    · rfl
    · split
      · rename_i hq _ t _
        exact desk_grant h' hq t
      · exact desk_wake _
  · rfl

theorem desk_pass (h : Lawful s₀ e) : desk e.pass = desk e := by
  have hroom : Acts s₀ e e.roomReports := (acts_roomReport .a).trans (acts_roomReport .b)
  exact (desk_reevaluate (lawful_acts h hroom)).trans ((desk_roomReport .b).trans (desk_roomReport .a))

theorem desk_idleExpire (e : Event) (t : Tunnel) : desk (e.idleExpire t) = desk e := by
  unfold Event.idleExpire
  split <;> rfl

theorem desk_idleIfWanted (e : Event) : desk e.idleIfWanted = desk e := by
  unfold Event.idleIfWanted
  split
  · exact (desk_idleExpire _ .b).trans (desk_idleExpire _ .a)
  · rfl

theorem pairIfWanted_wantPairing (e : Event) : e.pairIfWanted.wantPairing = false := by
  unfold Event.pairIfWanted
  split
  · rfl
  · exact Bool.eq_false_iff.mpr ‹_›

theorem settle_wantPairing (h : Lawful s₀ e) : e.settle.wantPairing = false := by
  have step {e' : Event} (hl : Lawful s₀ e') (hp : e'.wantPairing = false) :
      Lawful s₀ e'.pass ∧ e'.pass.wantPairing = false :=
    ⟨lawful_acts hl (acts_pass hl), (desk_parts (desk_pass hl)).2.2.trans hp⟩
  obtain ⟨h1, p1⟩ := step (lawful_acts h acts_pairIfWanted) (pairIfWanted_wantPairing e)
  obtain ⟨h2, p2⟩ := step h1 p1
  obtain ⟨h3, p3⟩ := step h2 p2
  obtain ⟨-, p4⟩ := step h3 p3
  exact (desk_parts (desk_idleIfWanted _)).2.2.trans p4

/-! ### Racks and entries -/

/-- No entry is eligible for a rack of this class (R154). -/
def NoEntryFor (s : State) (k : RackClass) : Prop :=
  ∀ d ∈ s.demand, ¬ (s.windows[d.window].mode = .accept ∧ s.windows[d.window].cls = k)

theorem pairingEntry_none_iff (s : State) (r : Rack) : s.pairingEntry r = none ↔ NoEntryFor s r.cls := by
  constructor
  · intro h d hd hc
    have hm : d ∈ s.demand.filter fun d => s.windows[d.window].mode = .accept ∧ s.windows[d.window].cls = r.cls :=
      List.mem_filter.mpr ⟨hd, decide_eq_true hc⟩
    unfold State.pairingEntry at h
    dsimp only at h
    split at h
    · cases h
    · rw [List.head?_eq_none_iff.mp h] at hm
      cases hm
  · intro h
    by_contra hne
    obtain ⟨d, hd⟩ := Option.ne_none_iff_exists'.mp hne
    obtain ⟨hm, ha, hc⟩ := pairingEntry_some hd
    exact h d hm ⟨ha, hc⟩

/-- An unassigned rack on RETURN. -/
def Waits (r : Rack) : Prop := r.place = .returnLoop ∧ r.destination = none

/-- A run of pairing is owed, or there is nothing to pair. -/
def Paired (e : Event) : Prop := e.wantPairing = true ∨ ∀ r ∈ e.racks, Waits r → NoEntryFor e.toState r.cls

theorem nothing_to_pair_iff (s : State) : (∀ r ∈ s.unassigned, s.pairingEntry r = none) ↔
    ∀ r ∈ s.racks, Waits r → NoEntryFor s r.cls :=
  ⟨fun h r hr hw => (pairingEntry_none_iff s r).mp (h r (mem_unassigned.mpr ⟨hr, hw⟩)),
    fun h r hr => (pairingEntry_none_iff s r).mpr (h r (mem_unassigned.mp hr).1 (mem_unassigned.mp hr).2)⟩

/-- Fewer waiting racks and fewer entries, with the windows left, give nothing to pair. -/
theorem Paired.of_fewer (h : Paired e) (hp : e.wantPairing = true → e'.wantPairing = true)
    (hw : e'.windows = e.windows) (hd : ∀ d ∈ e'.demand, d ∈ e.demand)
    (hr : ∀ r ∈ e'.racks, Waits r → ∃ x ∈ e.racks, Waits x ∧ x.cls = r.cls) : Paired e' := by
  refine h.imp hp fun hn r hm hwt d hmd hc => ?_
  obtain ⟨x, hx, hxw, hcls⟩ := hr r hm hwt
  refine hn x hx hxw d (hd d hmd) ?_
  rw [hcls, ← hw]
  exact hc

/-- The same windows, demand and pairing owed, and no new waiting rack. -/
theorem Paired.of_desk (h : Paired e) (hd : desk e' = desk e)
    (hr : ∀ r ∈ e'.racks, Waits r → ∃ x ∈ e.racks, Waits x ∧ x.cls = r.cls) : Paired e' := by
  obtain ⟨hw, hdm, hp⟩ := desk_parts hd
  exact h.of_fewer (fun hw => hp.trans hw) hw (fun d hm => hdm ▸ hm) hr

theorem Paired.of_racks (h : Paired e) (hd : desk e' = desk e) (hr : e'.racks = e.racks) : Paired e' :=
  h.of_desk hd fun r hm hw => ⟨r, hr ▸ hm, hw, rfl⟩

theorem Paired.of_rejoined {r : Rack} (h : Paired e) (hd : desk e' = desk e) (hr : e'.racks = rejoined e.racks r)
    (hp : r.place ≠ .returnLoop) : Paired e' := by
  refine h.of_desk hd fun x hx hw => ?_
  rcases mem_rejoined.mp (hr ▸ hx) with ⟨hx, -⟩ | rfl
  · exact ⟨x, hx, hw, rfl⟩
  · exact absurd hw.1 hp

theorem paired_join (h : Paired e) (r : Rack) : Paired (e.join r) := by
  by_cases hp : r.place = .returnLoop
  · left
    rcases e.join_cases r with he | ⟨hh, -⟩ | ⟨-, he⟩
    · unfold Event.join
      dsimp only
      rw [hp]
    · rw [hp] at hh
      cases hh
    · rw [he]
  · exact h.of_rejoined (desk_join hp e) (Event.join_racks e r) hp

theorem paired_post (h : Paired e) (w : Window) : Paired (e.post w) := by
  rcases e.post_cases w with ⟨-, he⟩ | ⟨-, he⟩ <;> rw [he]
  · exact h
  · exact .inl rfl

theorem paired_noteStarved (h : Paired e) (w : Window) : Paired (e.noteStarved w) := by
  refine h.of_racks ?_ (noteStarved_racks e w)
  rcases e.noteStarved_cases w with ⟨-, he⟩ | ⟨-, he⟩ <;> rw [he]
  rfl

theorem paired_departed (h : Paired e) (r : Rack) : Paired (e.departed r) := by
  unfold Event.departed
  split
  case h_1 w _ =>
    refine paired_noteStarved (paired_post ?_ w) w
    rcases e.swap_cases w with he | ⟨x, -, -, he⟩ <;> rw [he]
    · exact h
    · exact paired_join h _
  case h_2 w _ => exact paired_noteStarved (paired_post h w) w
  case h_6 =>
    split
    · exact paired_post h _
    · exact h
  case h_7 t _ => exact h.of_racks (desk_laneDeparted e t) (laneDeparted_racks e t)
  all_goals exact h.of_racks rfl rfl

theorem paired_cancelPending (h : Paired e) (tag : Nat) : Paired (e.cancelPending tag) :=
  h.of_racks (desk_cancelPending e tag) (cancelPending_racks e tag)

theorem paired_consumeEntry (h : Paired e) (w : Window) : Paired (e.consumeEntry w) :=
  h.of_fewer id rfl (fun _ hd => List.mem_of_mem_eraseP hd) fun r hr hw => ⟨r, hr, hw, rfl⟩

theorem paired_modifySheet (h : Paired e) (tag : Nat) (f : PassSheet → PassSheet) : Paired (e.modifySheet tag f) := by
  refine h.of_desk rfl fun r hr hw => ?_
  rcases mem_edited hr with ⟨hr, -⟩ | ⟨y, hy, -, rfl⟩
  · exact ⟨r, hr, hw, rfl⟩
  · exact ⟨y, hy, hw, rfl⟩

theorem paired_loseRacks (cause : HoldCause) (rs : List Rack) : ∀ e : Event, Paired e →
    Paired (e.loseRacks cause rs) := by
  induction rs with
  | nil => exact fun _ h => h
  | cons r rs ih => exact fun e h => ih _ (paired_join h _)

/-! ### Pairing -/

theorem demand_pairOne (e : Event) (r : Rack) : ∀ d ∈ (e.pairOne r).demand, d ∈ e.demand := by
  unfold Event.pairOne
  split
  · exact fun _ h => h
  · exact fun _ h => List.mem_of_mem_erase h

theorem windows_pairOne (e : Event) (r : Rack) : (e.pairOne r).windows = e.windows := by
  unfold Event.pairOne
  split <;> rfl

theorem NoEntryFor.of_fewer {s s' : State} {k : RackClass} (h : NoEntryFor s k) (hw : s'.windows = s.windows)
    (hd : ∀ d ∈ s'.demand, d ∈ s.demand) : NoEntryFor s' k := fun d hm => hw ▸ h d (hd d hm)

theorem noEntryFor_pairAll {k : RackClass} (rs : List Rack) : ∀ e : Event, NoEntryFor e.toState k →
    NoEntryFor (e.pairAll rs).toState k := by
  induction rs with
  | nil => exact fun _ h => h
  | cons r rs ih => exact fun e h => ih _ (h.of_fewer (windows_pairOne e r) (demand_pairOne e r))

/-- A rack paired waits no longer, and one not paired has no entry. -/
theorem pairOne_waits {r x : Rack} (hx : x ∈ (e.pairOne r).racks) (hw : Waits x) :
    x ∈ e.racks ∧ (x.tag = r.tag → NoEntryFor (e.pairOne r).toState r.cls) := by
  cases he : e.toState.pairingEntry r with
  | none =>
    have hsame : e.pairOne r = e := by
      unfold Event.pairOne
      rw [he]
    rw [hsame] at hx ⊢
    exact ⟨hx, fun _ => (pairingEntry_none_iff _ r).mp he⟩
  | some d =>
    have hracks : (e.pairOne r).racks = edited e.racks r.tag fun x => { x with destination := some d.window } := by
      unfold Event.pairOne
      rw [he]
      rfl
    rcases mem_edited (hracks ▸ hx) with ⟨hx, hne⟩ | ⟨y, -, -, rfl⟩
    · exact ⟨hx, fun ht => absurd ht hne⟩
    · cases hw.2

/-- After pairing, the racks of the list that still wait have no entry. -/
theorem pairAll_waits (rs : List Rack) : ∀ (e : Event) {x : Rack}, x ∈ (e.pairAll rs).racks → Waits x →
    x ∈ e.racks ∧ (x ∈ rs → NoEntryFor (e.pairAll rs).toState x.cls) := by
  induction rs with
  | nil => exact fun _ _ hx _ => ⟨hx, nofun⟩
  | cons r rs ih =>
    intro e x hx hw
    obtain ⟨hx₁, hrs⟩ := ih (e.pairOne r) hx hw
    obtain ⟨hx₀, hr⟩ := pairOne_waits hx₁ hw
    refine ⟨hx₀, fun hm => ?_⟩
    rcases List.mem_cons.mp hm with rfl | hm
    · exact noEntryFor_pairAll rs _ (hr rfl)
    · exact hrs hm

theorem paired_pair (e : Event) : Paired e.pair := by
  refine .inr fun x hx hw => ?_
  obtain ⟨hm, hrest⟩ := pairAll_waits _ e hx hw
  exact hrest (mem_unassigned.mpr ⟨hm, hw⟩)

/-! ### Modes and classes -/

theorem clearRoutes_wantPairing (rs : List Rack) : ∀ e : Event, (e.clearRoutes rs).wantPairing = e.wantPairing := by
  induction rs with
  | nil => exact fun _ => rfl
  | cons r rs ih => exact fun e => ih _

theorem postMany_wantPairing (w : Window) (n : Nat) : ∀ {e : Event}, e.wantPairing = true →
    (e.postMany w n).wantPairing = true := by
  induction n with
  | zero => exact fun h => h
  | succ n ih =>
    intro e h
    refine ih ?_
    rcases e.post_cases w with ⟨-, he⟩ | ⟨-, he⟩ <;> rw [he]
    exact h

theorem paired_setMode (h : Paired e) (w : Window) (m : WindowMode) : Paired (e.setMode w m) := by
  rcases setMode_cases e w m with ⟨-, he⟩ | ⟨-, -, he⟩ | ⟨-, -, he⟩ | ⟨-, -, he⟩ | ⟨hold, hm, he⟩ <;> rw [he]
  · exact h
  · exact .inl (clearRoutes_wantPairing _ _)
  · exact .inl rfl
  · exact .inl rfl
  · refine h.imp id fun hn r hr hw d hd hc => hn r hr hw d hd ?_
    rw [Event.writeMode_windows, windows_set] at hc
    split at hc
    · rw [hm] at hc
      cases hc.1
    · exact hc

theorem paired_setClass (h : Paired e) (w : Window) (k : RackClass) : Paired (e.setClass w k) := by
  unfold Event.setClass
  split
  · exact h
  · exact .inl (postMany_wantPairing _ _ (clearRoutes_wantPairing _ _))

/-! ### The invariant -/

theorem admittedRack_place (s : State) (t : Tunnel) (r : Rack) : (s.admittedRack t r).place ≠ .returnLoop := nofun

theorem paired_act (h : Lawful s₀ e) (hp : Paired e) (ha : Act s₀ e e') : Paired e' := by
  cases ha
  case same hs =>
    exact hp.of_fewer hs.pairing hs.windows (fun d hd => hs.demand ▸ hd) fun r hr hw => ⟨r, hs.racks ▸ hr, hw, rfl⟩
  case moved => exact paired_cancelPending (paired_departed (paired_join hp _) _) _
  case retired r _ _ =>
    have hgone : Paired ({ e with racks := e.racks.filter (·.tag ≠ r.tag) } : Event) :=
      hp.of_desk rfl fun x hx hw => ⟨x, (List.mem_filter.mp hx).1, hw, rfl⟩
    exact paired_cancelPending (paired_departed hgone r) r.tag
  case taken w r b st p _ _ _ =>
    cases b
    · exact paired_join hp _
    · exact paired_join (paired_consumeEntry hp w) _
  case enrolledAt w tag a st p _ _ _ _ _ _ =>
    exact paired_cancelPending (paired_join (paired_consumeEntry hp w) _) tag
  case enrolledOnReturn => exact paired_cancelPending (paired_join hp _) _
  case released t r v d cause hf _ hg =>
    have hr := (mem_of_finalRack hf).2.1
    have hd : d.place ≠ .returnLoop := by
      rcases gateDestination_cases hg with ⟨-, rfl, -, -⟩ | ⟨-, rfl, -, -⟩ | ⟨-, rfl, -, -⟩ <;> nofun
    exact hp.of_rejoined (desk_release hr hd e v cause) (release_racks hr e v d cause) hd
  case tornDown t =>
    exact (paired_loseRacks .tunnelFault (e.toState.lane t) e hp).of_racks
      ((desk_enterFault e t).trans (desk_loseRacks _ _ e).symm) (enterFault_racks (tags_lane h t))
  case mismatched t p tag _ _ _ _ _ _ =>
    have hab := hp.of_racks (desk_abandonExit e t) (abandonExit_racks e t)
    have hlost := paired_loseRacks .lostTrack (olderThan ((e.abandonExit t).toState.lane t) tag) _ hab
    have hplaced := paired_modifySheet hlost tag fun sh => sh.placedInFinal ((e.abandonExit t).loseRacks .lostTrack
      (olderThan ((e.abandonExit t).toState.lane t) tag)).now
    exact hplaced.of_racks rfl rfl
  case admitted t r _ ha _ _ =>
    exact hp.of_rejoined (r := e.toState.admittedRack t r) (desk_admitRack ha e t) (admitRack_racks ha e t) nofun
  case enrolledInLane t tag a _ _ _ _ _ _ =>
    exact hp.of_rejoined (r := e.toState.admittedRack t (newRack tag e.toState.freeSlot a .washing (.tunnel t) e.now))
      (desk_admitNew e t tag a) (admitNew_racks e t tag a) (admittedRack_place e.toState t _)
  case sheet => exact paired_modifySheet hp _ _
  case advanced => exact paired_modifySheet hp _ _
  case turned | becamePending | dropped => exact hp.of_racks rfl rfl
  case paired => exact paired_pair e
  case modeSet w m => exact paired_setMode hp w m
  case clsSet w k => exact paired_setClass hp w k

theorem paired_acts (h : Lawful s₀ e) (hp : Paired e) (ha : Acts s₀ e e') : Paired e' := by
  induction ha with
  | refl => exact hp
  | tail hacts hact ih => exact paired_act (lawful_acts h hacts) ih hact

theorem pairedLaw_of_core {s t : State} (hc : coreOf t = coreOf s) (h : s.pairedLaw) : t.pairedLaw := by
  obtain ⟨hlaw, hn⟩ := h
  refine ⟨recordLaw_of_core hc hlaw, (nothing_to_pair_iff t).mpr fun r hr hw => ?_⟩
  have hracks : t.racks = s.racks := congrArg Core.racks hc
  have hdemand : t.demand = s.demand := congrArg Core.demand hc
  exact ((nothing_to_pair_iff s).mp hn r (hracks ▸ hr) hw).of_fewer (congrArg Core.windows hc)
    fun d hd => hdemand ▸ hd

theorem pairedLaw_lineEmptied (s : State) : s.lineEmptied.pairedLaw :=
  ⟨recordLaw_lineEmptied s, (nothing_to_pair_iff _).mpr fun _ hr => absurd hr List.not_mem_nil⟩

/-- Settles O10: a join of RETURN and a new entry owe a run of pairing, the run comes before the end of the event, and
what comes after it makes no entry and sends no rack to RETURN. -/
theorem everyStepLeavesNothingToPair : Obligations.EveryStepLeavesNothingToPair :=
  law_of_step pairedLaw_of_core (fun _ h => h.1) (by decide) pairedLaw_lineEmptied
    fun s e ⟨hlaw, hn⟩ ha => by
      have hl := lawful_event hlaw
      have hall := ha.trans (acts_settle (lawful_acts hl ha))
      have hpaired := paired_acts hl (.inr ((nothing_to_pair_iff s).mp hn)) hall
      refine ⟨(lawful_acts hl hall).law, (nothing_to_pair_iff _).mpr (hpaired.resolve_left ?_)⟩
      rw [settle_wantPairing (lawful_acts hl ha)]
      nofun

end Sys2Proof.Proofs.Pairing
end

section
/-! The lanes as lists of sections: their order and capacities (R59 to R61), and what an operation makes of a lane. -/

namespace Sys2Proof.Proofs.LaneLists

open Sys2Proof.Machine Sys2Proof.Proofs.Tables Sys2Proof.Proofs.Acts Sys2Proof.Proofs.ActsKeepTheTable
  Sys2Proof.Proofs.Chains Sys2Proof.Proofs.Records

/-! ### Sections of a lane -/

/-- The sections in which the racks of a lane stand, oldest first. -/
def sectionsOf (lane : List Rack) : List (Option Stage) := lane.map (·.stage?)

/-- The place of a section in the order of the lane, as the law of the lane counts it. -/
def codeOf (o : Option Stage) : Nat := (o.map Stage.code).getD 0

/-- An order a conveyor could hold, and no section above its capacity (R59). -/
structure Shaped (ss : List (Option Stage)) : Prop where
  ordered : ss.Pairwise fun a b => codeOf b ≤ codeOf a
  length : ss.length ≤ 6
  room : ∀ st : Stage, ss.count (some st) ≤ st.capacity

theorem stageCount_eq (lane : List Rack) (st : Stage) : stageCount lane st = (sectionsOf lane).count (some st) := by
  rw [stageCount, sectionsOf, List.count_eq_countP, List.countP_map, List.countP_eq_length_filter]
  refine congrArg List.length (List.filter_congr fun x _ => ?_)
  rw [Function.comp_apply, beq_eq_decide]

theorem laneLaw_iff (s : State) (t : Tunnel) :
    s.laneLaw t ↔ Shaped (sectionsOf (s.lane t)) ∧ TimersFit (s.tunnels.get t) (s.lane t) := by
  have hord : laneOrdered (s.lane t) ↔ (sectionsOf (s.lane t)).Pairwise fun a b => codeOf b ≤ codeOf a := by
    rw [sectionsOf, List.pairwise_map, laneOrdered, List.pairwise_map]
    rfl
  have hlen : (sectionsOf (s.lane t)).length = (s.lane t).length := List.length_map _
  unfold State.laneLaw
  simp only [stageCount_eq, hord]
  constructor
  · rintro ⟨ho, hl, h0, h1, h2, h3, htimers⟩
    exact ⟨⟨ho, hlen ▸ hl, fun st => by cases st <;> assumption⟩, htimers⟩
  · rintro ⟨⟨ho, hl, hr⟩, htimers⟩
    exact ⟨ho, hlen ▸ hl, hr .pre, hr .wash, hr .rinse, hr .final, htimers⟩

theorem Shaped.sublist {ss ss' : List (Option Stage)} (h : Shaped ss) (hs : ss'.Sublist ss) : Shaped ss' :=
  ⟨h.ordered.sublist hs, hs.length_le.trans h.length, fun st => (hs.count_le _).trans (h.room st)⟩

theorem shaped_nil : Shaped [] := ⟨.nil, Nat.zero_le _, fun _ => Nat.zero_le _⟩

/-- A rack that joins the lane behind the others (R60). -/
theorem Shaped.joined {ss : List (Option Stage)} {st : Stage} (h : Shaped ss) (hl : ss.length < 6)
    (hr : ss.count (some st) < st.capacity) (ho : ∀ o ∈ ss, st.code ≤ codeOf o) : Shaped (ss ++ [some st]) := by
  refine ⟨List.pairwise_append.mpr ⟨h.ordered, List.pairwise_singleton _ _, fun o hm x hx => ?_⟩, ?_, fun x => ?_⟩
  · rw [List.mem_singleton.mp hx]
    exact ho o hm
  · rw [List.length_append, List.length_singleton]
    omega
  · rw [List.count_append, List.count_singleton]
    have := h.room x
    by_cases hx : st = x
    · subst hx
      simp only [beq_self_eq_true, if_true]
      omega
    · simpa [hx] using this

/-- A rack that moves to a later section, with no rack before it in an earlier one (R61, R106). -/
theorem Shaped.advanced {before after : List (Option Stage)} {x y : Stage} (h : Shaped (before ++ some x :: after))
    (hle : x.code ≤ y.code) (hb : ∀ o ∈ before, y.code ≤ codeOf o)
    (hr : (before ++ some x :: after).count (some y) < y.capacity) : Shaped (before ++ some y :: after) := by
  obtain ⟨hbefore, hafter, hcross⟩ := List.pairwise_append.mp h.ordered
  obtain ⟨hx, hafter⟩ := List.pairwise_cons.mp hafter
  refine ⟨List.pairwise_append.mpr ⟨hbefore, List.pairwise_cons.mpr ⟨fun o ho => ?_, hafter⟩, fun o ho z hz => ?_⟩,
    ?_, fun z => ?_⟩
  · exact (hx o ho).trans hle
  · rcases List.mem_cons.mp hz with rfl | hz
    · exact hb o ho
    · exact hcross o ho z (List.mem_cons_of_mem _ hz)
  · simpa using h.length
  · have := h.room z
    rw [List.count_append, List.count_cons] at hr this ⊢
    by_cases hz : y = z
    · subst hz
      simp only [beq_self_eq_true, if_true]
      omega
    · simp only [beq_iff_eq, Option.some.injEq, hz, if_false]
      omega

/-- The first rack of a lane taken to FINAL, which is free (R133). -/
theorem Shaped.final_first {o : Option Stage} {after : List (Option Stage)} (h : Shaped (o :: after))
    (hn : some Stage.final ∉ after) : Shaped (some .final :: after) := by
  have htail := h.sublist (List.sublist_cons_self o after)
  have htop (o : Option Stage) : codeOf o ≤ Stage.final.code := by
    rcases o with _ | x
    · exact Nat.zero_le _
    · cases x <;> decide
  refine ⟨List.pairwise_cons.mpr ⟨fun o _ => htop o, htail.ordered⟩, by simpa using h.length, fun st => ?_⟩
  have := htail.room st
  rw [List.count_cons]
  by_cases hst : Stage.final = st
  · subst hst
    rw [List.count_eq_zero_of_not_mem hn]
    decide
  · simpa [hst] using this

/-! ### What an operation makes of a lane -/

/-- The racks of a list in the lane of `t`. -/
def laneIn (l : List Rack) (t : Tunnel) : List Rack := l.filter (·.place = .tunnel t)

theorem lane_eq (s : State) (t : Tunnel) : s.lane t = laneIn s.racks t := rfl

theorem lane_of_racks {s s' : State} (h : s'.racks = s.racks) (t : Tunnel) : s'.lane t = s.lane t := by
  rw [lane_eq, lane_eq, h]

theorem mem_laneIn {l : List Rack} {t : Tunnel} {x : Rack} : x ∈ laneIn l t ↔ x ∈ l ∧ x.place = .tunnel t := by
  simp [laneIn]

/-- A lane without the rack of a tag. -/
theorem laneIn_without (l : List Rack) (tag : Nat) (t : Tunnel) :
    laneIn (l.filter (·.tag ≠ tag)) t = (laneIn l t).filter (·.tag ≠ tag) := by
  rw [laneIn, laneIn, List.filter_filter, List.filter_filter]
  exact List.filter_congr fun x _ => Bool.and_comm _ _

theorem laneIn_rejoined (l : List Rack) (r : Rack) (t : Tunnel) :
    laneIn (rejoined l r) t = (laneIn l t).filter (·.tag ≠ r.tag) ++ if r.place = .tunnel t then [r] else [] := by
  rw [rejoined, laneIn, List.filter_append, ← laneIn, laneIn_without, List.filter_singleton]
  by_cases h : r.place = .tunnel t <;> simp [h]

/-- A rack that is not in the lane leaves nothing there. -/
theorem laneIn_filter_other {l : List Rack} {r : Rack} {t : Tunnel} (h : Tags l) (hr : r ∈ l)
    (hp : r.place ≠ .tunnel t) : (laneIn l t).filter (·.tag ≠ r.tag) = laneIn l t := by
  refine filter_of_absent fun x hx ht => hp ?_
  obtain ⟨hm, hx⟩ := mem_laneIn.mp hx
  rw [← eq_of_tag h hr hm ht]
  exact hx

theorem laneIn_filter_absent {l : List Rack} {tag : Nat} {t : Tunnel} (h : ∀ x ∈ l, x.tag ≠ tag) :
    (laneIn l t).filter (·.tag ≠ tag) = laneIn l t := filter_of_absent fun x hx => h x (mem_laneIn.mp hx).1

theorem laneIn_edited {l : List Rack} {tag : Nat} {f : Rack → Rack} (hf : ∀ x, (f x).place = x.place) (t : Tunnel) :
    laneIn (edited l tag f) t = edited (laneIn l t) tag f := by
  rw [laneIn, edited, List.filter_map, edited, laneIn]
  refine congrArg _ (List.filter_congr fun x _ => ?_)
  rw [Function.comp_apply]
  split
  · rw [hf]
  · rfl

theorem edited_eq_nil {l : List Rack} {tag : Nat} {f : Rack → Rack} : edited l tag f = [] ↔ l = [] :=
  List.map_eq_nil_iff

/-- Racks lost from the table's lanes: the others stay. -/
theorem laneIn_lost {e : Event} {cause : HoldCause} {rs : List Rack} (hd : Tags rs) (t : Tunnel) :
    laneIn (e.loseRacks cause rs).racks t = (laneIn e.racks t).filter fun x => decide (x.tag ∉ rs.map (·.tag)) := by
  rw [loseRacks_racks _ _ _ hd, laneIn, List.filter_append, List.filter_filter, laneIn, List.filter_filter]
  rw [show (rs.map fun r => r.moved .held .unknown (some cause) e.now).filter
      (fun x => decide (x.place = .tunnel t)) = []
    from List.filter_eq_nil_iff.mpr fun x hx => ?_]
  · rw [List.append_nil]
    exact List.filter_congr fun x _ => Bool.and_comm _ _
  · obtain ⟨r, -, rfl⟩ := List.mem_map.mp hx
    simp [Rack.moved]

/-- The rack of a tag in a list, with those before and after it. -/
theorem split_at {lane : List Rack} {r : Rack} (h : Tags lane) (hr : r ∈ lane) :
    ∃ after, lane = olderThan lane r.tag ++ r :: after ∧ ∀ x ∈ after, x.tag ≠ r.tag := by
  induction lane with
  | nil => cases hr
  | cons x xs ih =>
    by_cases hx : x.tag = r.tag
    · obtain rfl := eq_of_tag h hr List.mem_cons_self hx
      exact ⟨xs, by simp [olderThan], absent_of_tags_cons h⟩
    · have hm : r ∈ xs := by
        rcases List.mem_cons.mp hr with rfl | hm
        · exact absurd rfl hx
        · exact hm
      obtain ⟨after, he, ha⟩ := ih (tags_of_cons h) hm
      refine ⟨after, ?_, ha⟩
      rw [olderThan, List.takeWhile_cons_of_pos (by simpa using hx), List.cons_append, ← olderThan, ← he]

theorem edited_split {before after : List Rack} {r : Rack} {f : Rack → Rack} (hb : ∀ x ∈ before, x.tag ≠ r.tag)
    (ha : ∀ x ∈ after, x.tag ≠ r.tag) : edited (before ++ r :: after) r.tag f = before ++ f r :: after := by
  rw [edited, List.map_append, List.map_cons, if_pos rfl, ← edited, ← edited, edited_of_absent hb, edited_of_absent ha]

end Sys2Proof.Proofs.LaneLists
end

section
/-! Every act keeps the law of the tunnels (R59 to R61, R69, R70, R73; table 4.1). -/

namespace Sys2Proof.Proofs.LaneActs

open Sys2Proof.Machine Sys2Proof.Proofs.Tables Sys2Proof.Proofs.Acts Sys2Proof.Proofs.ActsKeepTheTable
  Sys2Proof.Proofs.Desk Sys2Proof.Proofs.Chains Sys2Proof.Proofs.Beginnings Sys2Proof.Proofs.Records
  Sys2Proof.Proofs.LaneLists

variable {s₀ : State} {e e' : Event}

/-- The law of the tunnels in an event. -/
structure Lanes (e : Event) : Prop where
  shaped : ∀ t, Shaped (sectionsOf (e.toState.lane t))
  fit : ∀ t, TimersFit (e.tunnels.get t) (e.toState.lane t)
  one : ∀ t : Tunnel, (e.tunnels.get t).state = .flushing → (e.tunnels.get t.other).state ≠ .flushing

/-! ### What keeps the law -/

theorem timersOf_parts {c c' : TunnelContext} (h : timersOf c' = timersOf c) :
    c'.state = c.state ∧ c'.idleStart = c.idleStart ∧ c'.economyStart = c.economyStart ∧
      c'.restartTimer = c.restartTimer ∧ c'.flushTimer = c.flushTimer := by
  simpa only [timersOf, Prod.mk.injEq] using h

theorem timersFit_congr {c c' : TunnelContext} {lane lane' : List Rack} (h : timersOf c' = timersOf c)
    (hl : lane' = [] ↔ lane = []) (hf : TimersFit c lane) : TimersFit c' lane' := by
  obtain ⟨h1, h2, h3, h4, h5⟩ := timersOf_parts h
  unfold TimersFit at hf ⊢
  rw [h1, h2, h3, h4, h5, Ne, hl]
  exact hf

theorem nil_iff_of_sections {a b : List Rack} (h : sectionsOf a = sectionsOf b) : a = [] ↔ b = [] := by
  have := congrArg List.length h
  simp only [sectionsOf, List.length_map] at this
  rw [← List.length_eq_zero_iff, this, List.length_eq_zero_iff]

/-- The racks stand in the sections where they stood, and the timers are as they were. -/
theorem Lanes.of_sections (h : Lanes e) (hl : ∀ t, sectionsOf (e'.toState.lane t) = sectionsOf (e.toState.lane t))
    (ht : ∀ t, timersOf (e'.tunnels.get t) = timersOf (e.tunnels.get t)) : Lanes e' := by
  refine ⟨fun t => hl t ▸ h.shaped t, fun t => timersFit_congr (ht t) (nil_iff_of_sections (hl t)) (h.fit t),
    fun t hf => ?_⟩
  rw [(timersOf_parts (ht t)).1] at hf
  rw [(timersOf_parts (ht t.other)).1]
  exact h.one t hf

theorem Lanes.of_lanes (h : Lanes e) (hl : ∀ t, e'.toState.lane t = e.toState.lane t)
    (ht : e'.tunnels = e.tunnels) : Lanes e' :=
  h.of_sections (fun t => by rw [hl]) fun t => by rw [ht]

/-- One tunnel has changed, and it is in FLUSHING only if it was before. -/
theorem Lanes.changed (h : Lanes e) (t : Tunnel) (hl : e'.toState.lane t.other = e.toState.lane t.other)
    (ht : timersOf (e'.tunnels.get t.other) = timersOf (e.tunnels.get t.other))
    (hs : Shaped (sectionsOf (e'.toState.lane t))) (hf : TimersFit (e'.tunnels.get t) (e'.toState.lane t))
    (hone : (e'.tunnels.get t).state = .flushing → (e.tunnels.get t.other).state ≠ .flushing) : Lanes e' := by
  have hother : TimersFit (e'.tunnels.get t.other) (e'.toState.lane t.other) :=
    timersFit_congr ht (by rw [hl]) (h.fit t.other)
  have hstate := (timersOf_parts ht).1
  refine ⟨fun t' => ?_, fun t' => ?_, fun t' hfl => ?_⟩
  · rcases tunnel_eq_or_other t t' with rfl | rfl
    · exact hs
    · exact hl ▸ h.shaped t.other
  · rcases tunnel_eq_or_other t t' with rfl | rfl
    · exact hf
    · exact hother
  · rcases tunnel_eq_or_other t t' with rfl | rfl
    · rw [hstate]
      exact hone hfl
    · rw [show t.other.other = t by cases t <;> rfl]
      intro hft
      rw [hstate] at hfl
      exact hone hft hfl

/-! ### Racks outside the lanes -/

theorem laneIn_moved {l : List Rack} {r r' : Rack} (h : Tags l) (hr : r ∈ l) (ht : r'.tag = r.tag) (ho : OffLane r)
    (ho' : OffLane r') (t : Tunnel) : laneIn (rejoined l r') t = laneIn l t := by
  rw [laneIn_rejoined, if_neg (ho' t), List.append_nil, ht, laneIn_filter_other h hr (ho t)]

theorem laneIn_added {l : List Rack} {r : Rack} (h : ∀ x ∈ l, x.tag ≠ r.tag) (ho : OffLane r) (t : Tunnel) :
    laneIn (rejoined l r) t = laneIn l t := by
  rw [laneIn_rejoined, if_neg (ho t), List.append_nil, laneIn_filter_absent h]

theorem post_tunnels (e : Event) (w : Window) : (e.post w).tunnels = e.tunnels := by
  rcases e.post_cases w with ⟨-, h⟩ | ⟨-, h⟩ <;> rw [h]

theorem postMany_tunnels (w : Window) (n : Nat) : ∀ e : Event, (e.postMany w n).tunnels = e.tunnels := by
  induction n with
  | zero => exact fun _ => rfl
  | succ n ih => exact fun e => (ih _).trans (post_tunnels e w)

theorem noteStarved_tunnels (e : Event) (w : Window) : (e.noteStarved w).tunnels = e.tunnels := by
  rcases e.noteStarved_cases w with ⟨-, h⟩ | ⟨-, h⟩ <;> rw [h]
  rfl

theorem swap_tunnels (e : Event) (w : Window) : (e.swap w).tunnels = e.tunnels := by
  rcases e.swap_cases w with h | ⟨r, -, -, h⟩ <;> rw [h]
  exact Event.join_tunnels _ _

theorem cancelPending_tunnels (e : Event) (tag : Nat) : (e.cancelPending tag).tunnels = e.tunnels := by
  rcases e.cancelPending_cases tag with ⟨q, -, -, h⟩ | ⟨-, h⟩ <;> rw [h]
  rfl

theorem departed_tunnels {r : Rack} (h : OffLane r) (e : Event) : (e.departed r).tunnels = e.tunnels := by
  unfold Event.departed
  split
  case h_1 => rw [noteStarved_tunnels, post_tunnels, swap_tunnels]
  case h_2 => rw [noteStarved_tunnels, post_tunnels]
  case h_6 =>
    split
    · exact post_tunnels e _
    · rfl
  case h_7 t hp => exact absurd hp (h t)
  all_goals rfl

theorem lanes_departed {r : Rack} (htags : Tags e.racks) (ho : OffLane r) (h : Lanes e) : Lanes (e.departed r) := by
  refine h.of_lanes (fun t => ?_) (departed_tunnels ho e)
  rcases departed_racks e r with he | ⟨w, x, -, -, hx, he⟩
  · exact lane_of_racks he t
  · obtain ⟨hm, hp⟩ := mem_of_spareRack hx
    rw [lane_eq, he]
    exact laneIn_moved (r' := x.moved .filling (.windowFill w) none e.now) htags hm rfl
      (fun t => by rw [hp]; nofun) (fun _ => nofun) t

theorem lanes_cancelPending (h : Lanes e) (tag : Nat) : Lanes (e.cancelPending tag) :=
  h.of_lanes (lane_of_racks (cancelPending_racks e tag)) (cancelPending_tunnels e tag)

/-- A record outside the lanes put at the tail of a place outside the lanes. -/
theorem lanes_join {r r' : Rack} (h : Lanes e) (htags : Tags e.racks) (hr : r ∈ e.racks) (ht : r'.tag = r.tag)
    (ho : OffLane r) (ho' : OffLane r') : Lanes (e.join r') := by
  refine h.of_lanes (fun t => ?_) (Event.join_tunnels e r')
  rw [lane_eq, Event.join_racks]
  exact laneIn_moved htags hr ht ho ho' t

theorem lanes_enrol {tag : Nat} {a : EnrolAttributes} {st : RackState} {p : Place} (h : Lanes e)
    (ha : e.toState.rack? tag = none) (hp : ∀ t, p ≠ .tunnel t) : Lanes (e.enrol tag a st p) := by
  refine lanes_cancelPending (h.of_lanes (fun t => ?_) (Event.join_tunnels _ _)) tag
  rw [lane_eq, Event.join_racks]
  exact laneIn_added (State.rack?_none ha) hp t

/-! ### Departures from a lane -/

/-- A rack gone from a lane, with what its departure sets off (R62, R69, R72). -/
theorem lanes_laneDeparted {t : Tunnel} (h : Lanes e) (hne : e.toState.lane t ≠ [])
    (hother : e'.toState.lane t.other = e.toState.lane t.other)
    (hsub : (e'.toState.lane t).Sublist (e.toState.lane t))
    (ht : ∀ t', timersOf (e'.tunnels.get t') = timersOf (e.tunnels.get t')) : Lanes (e'.laneDeparted t) := by
  have hlanes (t' : Tunnel) : (e'.laneDeparted t).toState.lane t' = e'.toState.lane t' :=
    lane_of_racks (laneDeparted_racks e' t) t'
  have hshaped : Shaped (sectionsOf ((e'.laneDeparted t).toState.lane t)) := by
    rw [hlanes]
    exact (h.shaped t).sublist (hsub.map _)
  obtain ⟨f1, f2, f3, f4, f5, f6⟩ := h.fit t
  obtain ⟨s1, s2, s3, s4, s5⟩ := timersOf_parts (ht t)
  have hidle : (e.tunnels.get t).idleStart.isSome ≠ true := fun hi => hne (f3.mp hi).2
  have hlaneless : (e.tunnels.get t).state.laneless ≠ true := fun hl => hne (f1 hl)
  rcases laneDeparted_cases e' t with ⟨hl, he⟩ | ⟨hl, hst, he⟩ | ⟨hl, hst, he⟩ | ⟨hl, hc, hr1, hr2, he⟩
  all_goals
    refine h.changed t ((hlanes _).trans hother) ?_ hshaped ?_ ?_
  · rw [he]
    exact ht t.other
  · rw [hlanes, he]
    exact timersFit_congr (ht t) (iff_of_false hl hne) (h.fit t)
  · rw [he]
    exact fun hf => h.one t (s1.symm.trans hf)
  · rw [he, Event.enter_tunnels, PerTunnel.get_set_other]
    exact ht t.other
  · rw [hlanes, hl, he, Event.enter_tunnels, PerTunnel.get_set_same]
    have hc := s1.symm.trans hst
    refine ⟨fun _ => rfl, nofun, ?_, ?_, ?_, ?_⟩ <;> simp_all
  · rw [he, Event.enter_tunnels, PerTunnel.get_set_same]
    nofun
  · rw [he, Event.setTunnel_tunnels, PerTunnel.get_set_other]
    exact ht t.other
  · rw [hlanes, hl, he, Event.setTunnel_tunnels, PerTunnel.get_set_same]
    have hc := hst.imp s1.symm.trans s1.symm.trans
    refine ⟨fun _ => rfl, ?_, ?_, ?_, ?_, ?_⟩ <;> rcases hc with hc | hc <;> simp_all
  · rw [he, Event.setTunnel_tunnels, PerTunnel.get_set_same]
    exact fun hf => by rcases hst with hst | hst <;> rw [hst] at hf <;> cases hf
  · rw [he]
    exact ht t.other
  · rw [hlanes, hl, he]
    refine ⟨fun _ => rfl, fun hcl => absurd hcl hc, ?_, ?_, ?_, ?_⟩
    · rw [s2]
      exact iff_of_false hidle fun ⟨hr, _⟩ => hr.elim hr1 hr2
    · rw [s3, s1]
      exact f4
    · rw [s4, s1]
      exact f5
    · rw [s5, s1]
      exact f6
  · rw [he]
    exact fun hf => h.one t (s1.symm.trans hf)

end Sys2Proof.Proofs.LaneActs
end

section
/-! The acts in the lanes keep the law of the tunnels; with it, the law is an invariant. -/

namespace Sys2Proof.Proofs.TunnelLaw

open Sys2Proof.Machine Sys2Proof.Proofs.Tables Sys2Proof.Proofs.Acts Sys2Proof.Proofs.ActsKeepTheTable
  Sys2Proof.Proofs.Desk Sys2Proof.Proofs.Chains Sys2Proof.Proofs.Beginnings Sys2Proof.Proofs.Records
  Sys2Proof.Proofs.LaneLists Sys2Proof.Proofs.LaneActs

variable {s₀ : State} {e e' : Event}

theorem other_ne (t : Tunnel) : t ≠ t.other := by cases t <;> nofun

theorem place_other {r : Rack} {t : Tunnel} (h : r.place = .tunnel t) : r.place ≠ .tunnel t.other := by
  rw [h]
  exact fun he => other_ne t (Place.tunnel.inj he)

/-! ### Releases -/

theorem lanes_released {t : Tunnel} {r : Rack} {v : Verdict} {d : Destination} {cause : Option HoldCause}
    (h : Lanes e) (htags : Tags e.racks) (hf : e.toState.finalRack t = some r) :
    Lanes (e.release t r v d cause) := by
  obtain ⟨hm, hp, -⟩ := mem_of_finalRack hf
  have hne : e.toState.lane t ≠ [] := List.ne_nil_of_mem (mem_lane.mpr ⟨hm, hp⟩)
  unfold Event.release
  dsimp only
  rw [move_from_lane (r := { r with lastOutcome := some (.verdict v) }) hp]
  generalize hr' : ({ r with lastOutcome := some (.verdict v) } : Rack).moved d.rackState d.place cause _ = r'
  have hoff : OffLane r' := by
    rw [← hr']
    exact d.place_ne_tunnel
  have htag : r'.tag = r.tag := by rw [← hr']; rfl
  generalize he₁ : (if cause = some .repeatFail then _ else _) = e₁
  have hracks : e₁.racks = e.racks := by
    rw [← he₁]
    split <;> rfl
  have htimers (t' : Tunnel) : timersOf (e₁.tunnels.get t') = timersOf (e.tunnels.get t') := by
    have hc : e₁.tunnels = e.tunnels.set t { e.tunnels.get t with deferredExit := none, gateShut := false } := by
      rw [← he₁]
      split <;> rfl
    rw [hc]
    rcases tunnel_eq_or_other t t' with rfl | rfl
    · rw [PerTunnel.get_set_same]
      rfl
    · rw [PerTunnel.get_set_other]
  have hlane (t' : Tunnel) : (e₁.join r').toState.lane t' = (e.toState.lane t').filter (·.tag ≠ r.tag) := by
    rw [lane_eq, Event.join_racks, laneIn_rejoined, if_neg (hoff t'), List.append_nil, htag, hracks]
    rfl
  refine lanes_laneDeparted h hne ?_ ?_ fun t' => ?_
  · rw [hlane]
    exact laneIn_filter_other htags hm (place_other hp)
  · rw [hlane]
    exact List.filter_sublist
  · rw [Event.join_tunnels]
    exact htimers t'

/-! ### Lost racks -/

theorem loseRacks_tunnels (cause : HoldCause) (rs : List Rack) : ∀ e : Event,
    (e.loseRacks cause rs).tunnels = e.tunnels := by
  induction rs with
  | nil => exact fun _ => rfl
  | cons r rs ih => exact fun e => (ih _).trans (Event.join_tunnels _ _)

theorem abandonExit_tunnels (e : Event) (t : Tunnel) : (e.abandonExit t).tunnels =
    e.tunnels.set t { e.tunnels.get t with deferredExit := none, gateShut := false } := by
  unfold Event.abandonExit
  dsimp only
  split <;> rfl

/-- Losing some racks of a lane leaves the other lane. -/
theorem laneIn_lost_other {cause : HoldCause} {t : Tunnel} {rs : List Rack} (htags : Tags e.racks)
    (hs : rs.Sublist (laneIn e.racks t)) :
    laneIn (e.loseRacks cause rs).racks t.other = laneIn e.racks t.other := by
  have hd : Tags rs := (htags.sublist (List.filter_sublist.map _)).sublist (hs.map _)
  rw [laneIn_lost hd]
  refine List.filter_eq_self.mpr fun x hx => decide_eq_true fun hm => ?_
  obtain ⟨y, hy, ht⟩ := List.mem_map.mp hm
  obtain ⟨hym, hyp⟩ := mem_laneIn.mp (hs.subset hy)
  obtain ⟨hxm, hxp⟩ := mem_laneIn.mp hx
  obtain rfl := eq_of_tag htags hym hxm ht.symm
  exact place_other hyp hxp

theorem lanes_enterFault (h : Lanes e) (htags : Tags e.racks) (t : Tunnel) : Lanes (e.enterFault t) := by
  have hd : Tags (e.toState.lane t) := htags.sublist (List.filter_sublist.map _)
  have hlane (t' : Tunnel) : (e.enterFault t).toState.lane t' =
      laneIn (e.loseRacks .tunnelFault (e.toState.lane t)).racks t' := by
    rw [lane_eq, enterFault_racks hd]
  have hnil : (e.enterFault t).toState.lane t = [] := by
    rw [hlane, laneIn_lost hd]
    exact List.filter_eq_nil_iff.mpr fun x hx => by simpa using ⟨x, hx, rfl⟩
  have htunnels : ∃ c : TunnelContext,
      (e.enterFault t).tunnels = e.tunnels.set t { c.withoutTimers with state := .fault } := by
    unfold Event.enterFault
    dsimp only
    rw [Event.enter_tunnels, Event.raise_tunnels, loseRacks_tunnels, Event.setTunnel_tunnels, abandonExit_tunnels]
    simp only [PerTunnel.get_set_same, PerTunnel.set_set]
    exact ⟨_, rfl⟩
  obtain ⟨c, hc⟩ := htunnels
  refine h.changed t ?_ ?_ ?_ ?_ ?_
  · rw [hlane]
    exact laneIn_lost_other htags (List.Sublist.refl _)
  · rw [hc, PerTunnel.get_set_other]
  · rw [hnil]
    exact shaped_nil
  · rw [hnil, hc, PerTunnel.get_set_same]
    refine ⟨fun _ => rfl, nofun, ?_, ?_, ?_, ?_⟩ <;> simp [TunnelContext.withoutTimers]
  · rw [hc, PerTunnel.get_set_same]
    nofun

/-! ### Pass sheets -/

/-- A lane after the change of one rack's sheet. -/
theorem lane_modifySheet (e : Event) (tag : Nat) (f : PassSheet → PassSheet) (t : Tunnel) :
    (e.modifySheet tag f).toState.lane t =
      edited (e.toState.lane t) tag fun r => { r with sheet := r.sheet.map f } :=
  laneIn_edited (f := fun r => { r with sheet := r.sheet.map f }) (fun _ => rfl) t

/-- The other lane has no rack of the tag. -/
theorem lane_modifySheet_other {t : Tunnel} {r : Rack} (htags : Tags e.racks) (hr : r ∈ e.racks)
    (hp : r.place = .tunnel t) (f : PassSheet → PassSheet) :
    (e.modifySheet r.tag f).toState.lane t.other = e.toState.lane t.other := by
  rw [lane_modifySheet]
  refine edited_of_absent fun x hx ht => ?_
  obtain ⟨hxm, hxp⟩ := mem_lane.mp hx
  obtain rfl := eq_of_tag htags hr hxm ht
  exact place_other hp hxp

theorem sectionsOf_modifySheet {t : Tunnel} {r : Rack} {f : PassSheet → PassSheet} (htags : Tags e.racks)
    (hr : r ∈ e.racks) (hf : ∀ p, r.sheet = some p → (f p).stage = p.stage) :
    sectionsOf ((e.modifySheet r.tag f).toState.lane t) = sectionsOf (e.toState.lane t) := by
  rw [lane_modifySheet]
  refine map_edited fun x hx ht => ?_
  obtain rfl := eq_of_tag htags hr (mem_lane.mp hx).1 ht
  rw [Rack.stage?, Rack.stage?]
  cases hs : x.sheet with
  | none => rfl
  | some p => exact congrArg some (hf p hs)

theorem code_le_next (st : Stage) (req : Stages) : st.code ≤ (req.next st).code := by
  cases st <;> simp only [Stages.next]
  · split
    · decide
    · split <;> decide
  · split <;> decide
  · decide
  · decide

/-- A rack of a lane has its section. -/
theorem stage_of_mem_lane (h : Lawful s₀ e) {t : Tunnel} {x : Rack} (hx : x ∈ e.toState.lane t) :
    ∃ st, x.stage? = some st := by
  obtain ⟨hm, hp⟩ := mem_lane.mp hx
  obtain ⟨p, hs, -⟩ := (h.soundRack hm).inLane t hp
  exact ⟨p.stage, by rw [Rack.stage?, hs]; rfl⟩

theorem not_before_of_anyBefore {lane : List Rack} {st : Stage} (h : anyBefore lane st = false)
    (hl : ∀ x ∈ lane, ∃ x', x.stage? = some x') : ∀ o ∈ sectionsOf lane, st.code ≤ codeOf o := by
  intro o ho
  obtain ⟨x, hx, rfl⟩ := List.mem_map.mp ho
  obtain ⟨x', hs⟩ := hl x hx
  rw [anyBefore, List.any_eq_false] at h
  have hb := h x hx
  simp only [hs, Stage.before, decide_eq_true_eq, not_lt] at hb
  rw [hs]
  exact hb

theorem lanes_advanced {t : Tunnel} {r : Rack} {p : PassSheet} {st : Stage} {x : Fragment} (h : Lawful s₀ e)
    (hl : Lanes e) (hr : r ∈ e.toState.lane t) (hs : r.sheet = some p) (hst : p.stage = st)
    (hroom : e.toState.advanceRoom t r.tag (p.required.next st) = true) :
    Lanes (e.modifySheet r.tag fun p' => (p'.withFragment st x).enterStage (p.required.next st) e.now) := by
  obtain ⟨hm, hp⟩ := mem_lane.mp hr
  have hd := tags_lane h t
  obtain ⟨after, hsplit, hafter⟩ := split_at hd hr
  simp only [State.advanceRoom, Bool.and_eq_true, decide_eq_true_eq, Bool.not_eq_true'] at hroom
  obtain ⟨hcount, hbefore⟩ := hroom
  have hstage : r.stage? = some st := by rw [Rack.stage?, hs, Option.map_some, hst]
  have hnew (p' : PassSheet) :
      ((p'.withFragment st x).enterStage (p.required.next st) e.now).stage = p.required.next st := by
    unfold PassSheet.enterStage
    split
    · exact Eq.symm ‹_›
    · rfl
  have hold : sectionsOf (e.toState.lane t) =
      sectionsOf (olderThan (e.toState.lane t) r.tag) ++ some st :: sectionsOf after := by
    conv_lhs => rw [hsplit]
    rw [sectionsOf, List.map_append, List.map_cons, hstage]
    rfl
  have hlane := lane_modifySheet e r.tag
    (fun p' => (p'.withFragment st x).enterStage (p.required.next st) e.now) t
  have hsections : sectionsOf ((e.modifySheet r.tag fun p' =>
      (p'.withFragment st x).enterStage (p.required.next st) e.now).toState.lane t) =
      sectionsOf (olderThan (e.toState.lane t) r.tag) ++ some (p.required.next st) :: sectionsOf after := by
    rw [hlane]
    conv_lhs => rw [hsplit]
    rw [edited_split (fun y hy => (mem_olderThan hy).2) hafter, sectionsOf, List.map_append, List.map_cons, Rack.stage?,
      hs, Option.map_some, Option.map_some, hnew]
    rfl
  have hshaped := hl.shaped t
  rw [hold] at hshaped
  refine hl.changed t (lane_modifySheet_other h.tags hm hp _) rfl ?_ ?_ (hl.one t)
  · rw [hsections]
    refine hshaped.advanced (code_le_next st p.required) ?_ ?_
    · exact not_before_of_anyBefore hbefore fun y hy => stage_of_mem_lane h (mem_olderThan hy).1
    · rw [← hold, ← stageCount_eq]
      exact hcount
  · refine timersFit_congr rfl ?_ (hl.fit t)
    rw [hlane, edited_eq_nil]

/-! ### EXIT out of order -/

/-- The racks of a lane but those before one of them. -/
theorem filter_olderThan {lane : List Rack} {r : Rack} {after : List Rack} (h : Tags lane)
    (hsplit : lane = olderThan lane r.tag ++ r :: after) :
    lane.filter (fun x => decide (x.tag ∉ (olderThan lane r.tag).map (·.tag))) = r :: after := by
  have hnodup : (olderThan lane r.tag ++ r :: after).map (·.tag) |>.Nodup := hsplit ▸ h
  rw [List.map_append, List.nodup_append] at hnodup
  generalize olderThan lane r.tag = before at hsplit hnodup
  rw [hsplit, List.filter_append, List.filter_eq_nil_iff.mpr, List.nil_append, List.filter_eq_self]
  · intro x hx
    exact decide_eq_true fun hm => hnodup.2.2 _ hm _ (List.mem_map_of_mem hx) rfl
  · intro x hx
    simpa using ⟨x, hx, rfl⟩

theorem lanes_exitMismatch {t : Tunnel} {p : Port} {tag : Nat} {read : Rack} (h : Lawful s₀ e) (hl : Lanes e)
    (hr : e.toState.rack? tag = some read) (hp : read.place = .tunnel t) :
    Lanes (e.exitMismatch t p tag).event := by
  obtain ⟨hm, rfl⟩ := State.rack?_some hr
  have hmem : read ∈ e.toState.lane t := mem_lane.mpr ⟨hm, hp⟩
  have hd := tags_lane h t
  obtain ⟨after, hsplit, hafter⟩ := split_at hd hmem
  have hlost (t' : Tunnel) : laneIn ((e.abandonExit t).loseRacks .lostTrack
      (olderThan ((e.abandonExit t).toState.lane t) read.tag)).racks t' =
      laneIn (e.loseRacks .lostTrack (olderThan (e.toState.lane t) read.tag)).racks t' := by
    have hab := lane_of_racks (s := e.toState) (abandonExit_racks e t) t
    have holder : Tags (olderThan (e.toState.lane t) read.tag) := hd.sublist ((List.takeWhile_sublist _).map _)
    rw [hab, laneIn_lost holder, laneIn_lost holder, abandonExit_racks]
  have hlane : ∃ now, ∀ t', (e.exitMismatch t p read.tag).event.toState.lane t' =
      edited (laneIn (e.loseRacks .lostTrack (olderThan (e.toState.lane t) read.tag)).racks t') read.tag fun y =>
        { y with sheet := y.sheet.map (·.placedInFinal now) } :=
    ⟨_, fun t' => (lane_modifySheet _ _ _ t').trans (congrArg (edited · _ _) (hlost t'))⟩
  obtain ⟨now, hlane⟩ := hlane
  have holder : (olderThan (e.toState.lane t) read.tag).Sublist (e.toState.lane t) := List.takeWhile_sublist _
  have hlane_t : (e.exitMismatch t p read.tag).event.toState.lane t =
      { read with sheet := read.sheet.map (·.placedInFinal now) } :: after := by
    rw [hlane, laneIn_lost (hd.sublist (holder.map _)), ← lane_eq, filter_olderThan hd hsplit]
    exact edited_split (before := []) (fun _ => nofun) hafter
  have htunnels (t' : Tunnel) : timersOf ((e.exitMismatch t p read.tag).event.tunnels.get t') =
      timersOf (e.tunnels.get t') := by
    have hlost : (((e.abandonExit t).loseRacks .lostTrack
        (olderThan ((e.abandonExit t).toState.lane t) read.tag)).tunnels) =
        e.tunnels.set t { e.tunnels.get t with deferredExit := none, gateShut := false } := by
      rw [loseRacks_tunnels, abandonExit_tunnels]
    have hset : ∃ c, (e.exitMismatch t p read.tag).event.tunnels = e.tunnels.set t c ∧
        timersOf c = timersOf (e.tunnels.get t) := by
      unfold Event.exitMismatch
      dsimp only
      simp only [Event.raise_tunnels, Event.setTunnel_tunnels, Event.modifySheet, Event.modifyRack_tunnels, hlost,
        PerTunnel.get_set_same, PerTunnel.set_set]
      exact ⟨_, rfl, rfl⟩
    obtain ⟨c, hc, ht⟩ := hset
    rw [hc]
    rcases tunnel_eq_or_other t t' with rfl | rfl
    · rw [PerTunnel.get_set_same, ht]
    · rw [PerTunnel.get_set_other]
  refine hl.changed t ?_ (htunnels t.other) ?_ ?_ ?_
  · rw [hlane, laneIn_lost_other h.tags holder]
    refine edited_of_absent fun x hx ht => ?_
    obtain ⟨hxm, hxp⟩ := mem_laneIn.mp hx
    obtain rfl := eq_of_tag h.tags hm hxm ht
    exact place_other hp hxp
  · obtain ⟨st, hst⟩ := stage_of_mem_lane h hmem
    obtain ⟨sh, hsheet, -⟩ := (h.soundRack hm).inLane t hp
    have hrest : Shaped (sectionsOf (read :: after)) := by
      refine (hl.shaped t).sublist (List.Sublist.map _ ?_)
      conv_rhs => rw [hsplit]
      exact List.sublist_append_right _ _
    rw [hlane_t, sectionsOf, List.map_cons, Rack.stage?, hsheet]
    refine Shaped.final_first hrest fun hfin => ?_
    have hread : read.stage? = some .final := by
      have hle : codeOf (some .final) ≤ codeOf read.stage? := (List.pairwise_cons.mp hrest.ordered).1 _ hfin
      rw [hst] at hle ⊢
      cases st
      case final => rfl
      all_goals exact absurd hle (by decide)
    have htwo := hrest.room .final
    rw [sectionsOf, List.map_cons, hread, List.count_cons_self] at htwo
    have := List.count_pos_iff.mpr hfin
    change _ ≤ 1 at htwo
    omega
  · exact timersFit_congr (htunnels t) (iff_of_false (by rw [hlane_t]; nofun) (List.ne_nil_of_mem hmem)) (hl.fit t)
  · intro hfl
    rw [(timersOf_parts (htunnels t)).1] at hfl
    exact hl.one t hfl

/-! ### Admissions -/

/-- What counting an admission leaves of a tunnel that takes one. -/
theorem countAdmission_tunnels (e : Event) (t : Tunnel) : ∃ c : TunnelContext,
    (e.countAdmission t).tunnels = e.tunnels.set t c ∧ timersOf c =
      (if (e.tunnels.get t).state = .ready then .running else (e.tunnels.get t).state, none,
        (e.tunnels.get t).economyStart, (e.tunnels.get t).restartTimer, (e.tunnels.get t).flushTimer) := by
  unfold Event.countAdmission
  dsimp only
  split
  · simp only [Event.enter_tunnels, Event.setTunnel_tunnels, PerTunnel.get_set_same, PerTunnel.set_set]
    exact ⟨_, rfl, rfl⟩
  · exact ⟨_, rfl, rfl⟩

/-- An admission into an eligible tunnel (R60, R68, R86). -/
theorem lanes_admission {t : Tunnel} {r : Rack} (h : Lawful s₀ e) (hl : Lanes e) (he : e.toState.eligible t = true)
    (hother : e'.toState.lane t.other = e.toState.lane t.other)
    (hlane : e'.toState.lane t = e.toState.lane t ++ [e.toState.admittedRack t r])
    (hc : ∃ c, e'.tunnels = e.tunnels.set t c ∧ timersOf c =
      (if (e.tunnels.get t).state = .ready then .running else (e.tunnels.get t).state, none,
        (e.tunnels.get t).economyStart, (e.tunnels.get t).restartTimer, (e.tunnels.get t).flushTimer)) :
    Lanes e' := by
  simp only [State.eligible, State.laneTakes, Bool.and_eq_true, decide_eq_true_eq, Bool.not_eq_true'] at he
  obtain ⟨⟨⟨hadmits, ⟨hlen, hcount⟩, hbefore⟩, -⟩, -⟩ := he
  simp only [State.admits, Bool.or_eq_true, decide_eq_true_eq] at hadmits
  obtain ⟨c, hc, htimers⟩ := hc
  simp only [timersOf, Prod.mk.injEq] at htimers
  obtain ⟨c1, c2, c3, c4, c5⟩ := htimers
  have hrun : c.state = .running := by
    rw [c1]
    rcases hadmits with hs | hs <;> simp [hs]
  obtain ⟨f1, f2, f3, f4, f5, f6⟩ := hl.fit t
  refine hl.changed t hother (by rw [hc, PerTunnel.get_set_other]) ?_ ?_ ?_
  · rw [hlane, sectionsOf, List.map_append, List.map_singleton]
    refine (hl.shaped t).joined (by rw [sectionsOf, List.length_map]; exact hlen) (stageCount_eq _ _ ▸ hcount) ?_
    exact not_before_of_anyBefore hbefore fun x hx => stage_of_mem_lane h hx
  · rw [hc, PerTunnel.get_set_same]
    have hne : e'.toState.lane t ≠ [] := by rw [hlane]; simp
    refine ⟨fun hll => ?_, fun _ => hne, ?_, ?_, ?_, ?_⟩
    · rw [hrun] at hll
      cases hll
    · rw [c2]
      exact iff_of_false nofun fun hi => hne hi.2
    all_goals rw [hrun]
    · rw [c3]
      exact f4.trans (iff_of_false (by rcases hadmits with hs | hs <;> rw [hs] <;> nofun) nofun)
    · rw [c4]
      exact f5.trans (iff_of_false (by rcases hadmits with hs | hs <;> rw [hs] <;> nofun) nofun)
    · rw [c5]
      exact f6.trans (iff_of_false (by rcases hadmits with hs | hs <;> rw [hs] <;> nofun) nofun)
  · rw [hc, PerTunnel.get_set_same, hrun]
    nofun

theorem offLane_of_admissible {r : Rack} (h : r.admissible = true) : OffLane r := by
  intro t
  rcases (admissible_iff r).mp h with ⟨-, h⟩ | ⟨-, h⟩ <;> rw [h] <;> nofun

theorem lanes_admitRack {t : Tunnel} {r : Rack} (h : Lawful s₀ e) (hl : Lanes e) (hr : r ∈ e.racks)
    (ha : r.admissible = true) (he : e.toState.eligible t = true) : Lanes (e.admitRack t r) := by
  have hoff := offLane_of_admissible ha
  have hlane (t' : Tunnel) : (e.admitRack t r).toState.lane t' =
      e.toState.lane t' ++ if t = t' then [e.toState.admittedRack t r] else [] := by
    rw [lane_eq, admitRack_racks ha, laneIn_rejoined]
    congr 1
    · exact laneIn_filter_other (r := r) h.tags hr (hoff t')
    · exact if_congr ⟨Place.tunnel.inj, congrArg _⟩ rfl rfl
  refine lanes_admission (r := r) h hl he ?_ ?_ ?_
  · rw [hlane, if_neg (other_ne t), List.append_nil]
  · rw [hlane, if_pos rfl]
  · rw [Event.admitRack, departed_tunnels hoff]
    have := countAdmission_tunnels (e.join (e.toState.admittedRack t r)) t
    rwa [Event.join_tunnels] at this

theorem lanes_admitNew {t : Tunnel} {tag : Nat} {a : EnrolAttributes} (h : Lawful s₀ e) (hl : Lanes e)
    (ha : e.toState.rack? tag = none) (he : e.toState.eligible t = true) : Lanes (e.admitNew t tag a) := by
  have hlane (t' : Tunnel) : (e.admitNew t tag a).toState.lane t' = e.toState.lane t' ++
      if t = t' then [e.toState.admittedRack t (newRack tag e.toState.freeSlot a .washing (.tunnel t) e.now)]
      else [] := by
    rw [lane_eq, admitNew_racks, laneIn_rejoined]
    congr 1
    · exact laneIn_filter_absent (State.rack?_none ha)
    · exact if_congr ⟨Place.tunnel.inj, congrArg _⟩ rfl rfl
  refine lanes_admission (r := newRack tag e.toState.freeSlot a .washing (.tunnel t) e.now) h hl he ?_ ?_ ?_
  · rw [hlane, if_neg (other_ne t), List.append_nil]
  · rw [hlane, if_pos rfl]
  · have := countAdmission_tunnels (e.join (e.toState.admittedRack t
      (newRack tag e.toState.freeSlot a .washing (.tunnel t) e.now))) t
    rwa [Event.join_tunnels] at this

/-! ### Routes, modes and classes -/

theorem lanes_rerouted (h : Lanes e) (hr : AllRerouted e.racks e'.racks) (ht : e'.tunnels = e.tunnels) : Lanes e' :=
  h.of_lanes (fun _ => hr.filter_place nofun) ht

theorem pairAll_tunnels (rs : List Rack) : ∀ e : Event, (e.pairAll rs).tunnels = e.tunnels := by
  induction rs with
  | nil => exact fun _ => rfl
  | cons r rs ih =>
    refine fun e => (ih _).trans ?_
    unfold Event.pairOne
    split <;> rfl

theorem clearRoutes_tunnels (rs : List Rack) : ∀ e : Event, (e.clearRoutes rs).tunnels = e.tunnels := by
  induction rs with
  | nil => exact fun _ => rfl
  | cons r rs ih => exact fun e => ih _

theorem setMode_tunnels (e : Event) (w : Window) (m : WindowMode) : (e.setMode w m).tunnels = e.tunnels := by
  rcases setMode_cases e w m with ⟨-, he⟩ | ⟨-, -, he⟩ | ⟨-, -, he⟩ | ⟨-, -, he⟩ | ⟨-, -, he⟩ <;> rw [he]
  · exact clearRoutes_tunnels _ _
  · exact postMany_tunnels _ _ _
  · rfl
  · rfl

theorem setClass_tunnels (e : Event) (w : Window) (k : RackClass) : (e.setClass w k).tunnels = e.tunnels := by
  unfold Event.setClass
  split
  · rfl
  · exact (postMany_tunnels _ _ _).trans (clearRoutes_tunnels _ _)

/-! ### The invariant -/

theorem lanes_turned {t : Tunnel} {c : TunnelContext} {fresh : Bool} (h : Lanes e)
    (hfit : TimersFit (e.tunnels.get t) (e.toState.lane t) → TimersFit c (e.toState.lane t))
    (hone : c.state = .flushing → (e.tunnels.get t.other).state ≠ .flushing) :
    Lanes ((e.setTunnel t c).enter t c.state fresh) := by
  have hc : ((e.setTunnel t c).enter t c.state fresh).tunnels = e.tunnels.set t c := by
    simp
  refine h.changed t rfl ?_ (h.shaped t) ?_ ?_
  · rw [hc, PerTunnel.get_set_other]
  · rw [hc, PerTunnel.get_set_same]
    exact hfit (h.fit t)
  · rw [hc, PerTunnel.get_set_same]
    exact hone

theorem lanes_act (h : Lawful s₀ e) (hl : Lanes e) (ha : Act s₀ e e') : Lanes e' := by
  cases ha
  case same hs => exact hl.of_sections (fun t => congrArg _ (lane_of_racks hs.racks t)) hs.timers
  case moved r r' st p cause hr ho hal hg _ =>
    have hoff : OffLane (r'.moved st p cause e.now) := by cases hg <;> exact fun _ => nofun
    have hj := lanes_join (r' := r'.moved st p cause e.now) hl h.tags hr hal.tag ho hoff
    refine lanes_cancelPending (lanes_departed ?_ (fun t => hal.place ▸ ho t) hj) r.tag
    rw [Event.join_racks]
    exact tags_rejoined h.tags _
  case retired r hr ho =>
    have hgone : Lanes ({ e with racks := e.racks.filter (·.tag ≠ r.tag) } : Event) :=
      hl.of_lanes (fun t => (laneIn_without e.racks r.tag t).trans (laneIn_filter_other h.tags hr (ho t))) rfl
    refine lanes_cancelPending (lanes_departed ?_ ho hgone) r.tag
    exact h.tags.sublist (List.filter_sublist.map _)
  case taken w r b st p hr hof hf =>
    have ho : OffLane r := by
      rcases place_of_offered hof with hp | hp <;> rw [OffLane, hp] <;> exact fun _ => nofun
    have hoff : OffLane (r.moved st p none e.now) := by
      rcases freePosition_cases hf with ⟨-, rfl, -⟩ | ⟨-, rfl, -⟩ <;> exact fun _ => nofun
    cases b
    · exact lanes_join (r' := r.moved st p none e.now) hl h.tags hr rfl ho hoff
    · exact lanes_join (e := e.consumeEntry w) (r' := r.moved st p none e.now) (hl.of_lanes (fun _ => rfl) rfl) h.tags
        hr rfl ho hoff
  case enrolledAt w tag a st p _ _ ha _ _ hf =>
    have hoff : ∀ t, p ≠ .tunnel t := by
      rcases freePosition_cases hf with ⟨-, rfl, -⟩ | ⟨-, rfl, -⟩ <;> exact fun _ => nofun
    exact lanes_enrol (e := e.consumeEntry w) (hl.of_lanes (fun _ => rfl) rfl) ha hoff
  case enrolledOnReturn _ _ ha _ _ => exact lanes_enrol hl ha fun _ => nofun
  case released hf _ _ => exact lanes_released hl h.tags hf
  case tornDown t => exact lanes_enterFault hl h.tags t
  case mismatched _ hr hp _ => exact lanes_exitMismatch h hl hr hp
  case admitted hr hadm _ he => exact lanes_admitRack h hl hr hadm he
  case enrolledInLane _ _ ha _ _ he => exact lanes_admitNew h hl ha he
  case sheet t r f hr hp hk =>
    exact hl.of_sections (fun _ => sectionsOf_modifySheet h.tags hr hk.stage) fun _ => rfl
  case advanced hr hs hst _ hroom => exact lanes_advanced h hl hr hs hst hroom
  case turned hfit hone => exact lanes_turned hl hfit hone
  case becamePending | dropped => exact hl.of_lanes (fun _ => rfl) rfl
  case paired => exact lanes_rerouted hl (pairAll_rerouted _ e (onReturn_unassigned h.tags)) (pairAll_tunnels _ e)
  case modeSet w m => exact lanes_rerouted hl (setMode_rerouted h.tags w m) (setMode_tunnels e w m)
  case clsSet w k => exact lanes_rerouted hl (setClass_rerouted h.tags w k) (setClass_tunnels e w k)

theorem lanes_acts (h : Lawful s₀ e) (hl : Lanes e) (ha : Acts s₀ e e') : Lanes e' := by
  induction ha with
  | refl => exact hl
  | tail hacts hact ih => exact lanes_act (lawful_acts h hacts) ih hact

theorem tunnelLaw_iff (s : State) : s.tunnelLaw ↔ s.recordLaw ∧ (∀ t, s.laneLaw t) ∧
    ∀ t : Tunnel, (s.tunnels.get t).state = .flushing → (s.tunnels.get t.other).state ≠ .flushing := by
  constructor
  · rintro ⟨hlaw, ha, hb, hf⟩
    refine ⟨hlaw, fun t => by cases t <;> assumption, fun t h1 h2 => hf ?_⟩
    cases t
    · exact ⟨h1, h2⟩
    · exact ⟨h2, h1⟩
  · rintro ⟨hlaw, hl, hf⟩
    exact ⟨hlaw, hl .a, hl .b, fun ⟨h1, h2⟩ => hf .a h1 h2⟩

theorem lanes_iff (e : Event) (h : e.toState.recordLaw) : Lanes e ↔ e.toState.tunnelLaw := by
  simp only [tunnelLaw_iff, laneLaw_iff]
  exact ⟨fun ⟨hs, hf, ho⟩ => ⟨h, fun t => ⟨hs t, hf t⟩, ho⟩,
    fun ⟨_, hl, ho⟩ => ⟨fun t => (hl t).1, fun t => (hl t).2, ho⟩⟩

theorem tunnelLaw_of_core {s t : State} (hc : coreOf t = coreOf s) (h : s.tunnelLaw) : t.tunnelLaw := by
  cases s
  cases t
  cases hc
  exact h

theorem tunnelLaw_lineEmptied (s : State) : s.lineEmptied.tunnelLaw := by
  refine (tunnelLaw_iff _).mpr ⟨recordLaw_lineEmptied s, fun t => (laneLaw_iff _ t).mpr ?_, fun t => ?_⟩
  · have hc : s.lineEmptied.tunnels.get t = TunnelContext.afterReset := by cases t <;> rfl
    refine ⟨shaped_nil, ?_⟩
    change TimersFit (s.lineEmptied.tunnels.get t) []
    rw [hc]
    exact ⟨fun _ => rfl, nofun, by decide, by decide, by decide, by decide⟩
  · cases t <;> nofun

/-- Settles O11: every act keeps the order and the capacities of the lanes and each tunnel's timers. -/
theorem everyStepKeepsTheTunnelLaw : Obligations.EveryStepKeepsTheTunnelLaw :=
  law_of_step tunnelLaw_of_core (fun _ h => h.1) (by decide) tunnelLaw_lineEmptied fun s e h ha => by
    have hl := lawful_event h.1
    have hall := ha.trans (acts_settle (lawful_acts hl ha))
    have hlanes := lanes_acts hl ((lanes_iff s.event h.1).mpr h) hall
    exact (lanes_iff _ (lawful_acts hl hall).law).mp hlanes

end Sys2Proof.Proofs.TunnelLaw
end

section
/-! The operations of an event in the words of the statements: what each makes of the state and the messages, and what
it leaves the event owing. -/

namespace Sys2Proof.Proofs.Words

open Sys2Proof.Machine Sys2Proof.Proofs.Tables Sys2Proof.Proofs.Acts Sys2Proof.Proofs.ActsKeepTheTable
  Sys2Proof.Proofs.Desk Sys2Proof.Proofs.LaneActs

variable {e e' : Event}

/-! ### Changes one after another -/

theorem followed_assoc (x : Made) (f g : State → Made) :
    followed (followed x f) g = followed x fun s => followed (f s) g := by
  simp only [followed, List.append_assoc]

theorem followed_pure (s : State) (f : State → Made) : followed (s, []) f = f s := by
  simp only [followed, List.nil_append]

theorem followed_stay (x : Made) : followed x (fun s => (s, [])) = x := followed_nothing rfl

/-! ### What an event owes beside pairing -/

/-- The re-evaluation, the room reports and the idle times that an event owes. -/
def dues (e : Event) : Bool × PerTunnel Bool × Bool := (e.wantReeval, e.room, e.wantIdle)

theorem dues_parts (h : dues e' = dues e) :
    e'.wantReeval = e.wantReeval ∧ e'.room = e.room ∧ e'.wantIdle = e.wantIdle := by
  simpa only [dues, Prod.mk.injEq] using h

theorem dues_join (e : Event) (r : Rack) : dues (e.join r) = dues e := by
  rcases e.join_cases r with h | ⟨-, h⟩ | ⟨-, h⟩ <;> rw [h] <;> rfl

theorem dues_post (e : Event) (w : Window) : dues (e.post w) = dues e := by
  rcases e.post_cases w with ⟨-, h⟩ | ⟨-, h⟩ <;> rw [h]
  rfl

theorem dues_postMany (w : Window) (n : Nat) : ∀ e : Event, dues (e.postMany w n) = dues e := by
  induction n with
  | zero => exact fun _ => rfl
  | succ n ih => exact fun e => (ih _).trans (dues_post e w)

theorem dues_swap (e : Event) (w : Window) : dues (e.swap w) = dues e := by
  rcases e.swap_cases w with h | ⟨r, -, -, h⟩ <;> rw [h]
  exact dues_join _ _

theorem dues_noteStarved (e : Event) (w : Window) : dues (e.noteStarved w) = dues e := by
  rcases e.noteStarved_cases w with ⟨-, h⟩ | ⟨-, h⟩ <;> rw [h]
  rfl

theorem dues_clearRoutes (rs : List Rack) : ∀ e : Event, dues (e.clearRoutes rs) = dues e := by
  induction rs with
  | nil => exact fun _ => rfl
  | cons r rs ih => exact fun e => ih _

theorem dues_loseRacks (cause : HoldCause) (rs : List Rack) : ∀ e : Event, dues (e.loseRacks cause rs) = dues e := by
  induction rs with
  | nil => exact fun _ => rfl
  | cons r rs ih => exact fun e => (ih _).trans (dues_join _ _)

theorem dues_abandonExit (e : Event) (t : Tunnel) : dues (e.abandonExit t) = dues e := by
  unfold Event.abandonExit
  dsimp only
  split <;> rfl

/-- The gates that hear of room when a rack has gone from a place outside the lanes (R51). -/
def roomFrom (left : Place) (room : PerTunnel Bool) : PerTunnel Bool :=
  match left with
  | .collect | .hold => ⟨true, true⟩
  | .unload t => room.set t true
  | _ => room

theorem dues_departed {r : Rack} (h : OffLane r) (e : Event) :
    dues (e.departed r) = (e.wantReeval, roomFrom r.place e.room, e.wantIdle) := by
  unfold Event.departed
  cases hp : r.place
  case windowFill w =>
    simp only
    rw [dues_noteStarved, dues_post, dues_swap]
    rfl
  case windowSpare w =>
    simp only
    rw [dues_noteStarved, dues_post]
    rfl
  case returnLoop =>
    simp only
    split
    · exact dues_post e _
    · rfl
  case tunnel t => exact absurd hp (h t)
  all_goals rfl

theorem cancelPending_dues {q : PendingAdmission} {tag : Nat} (hq : e.pendingAdmission = some q) (ht : q.tag = tag) :
    e.cancelPending tag = (e.send q.port (.admitCancelled tag)).dropPending := by
  rcases e.cancelPending_cases tag with ⟨q', hq', -, he⟩ | ⟨hn, -⟩
  · cases hq.symm.trans hq'
    exact he
  · rw [hq, Option.map_some, ht] at hn
    exact absurd rfl hn

/-! ### Departures from a place outside the lanes -/

theorem starved_iff (s : State) (w : Window) : s.starved w = true ↔
    s.windows[w].mode = .accept ∧ s.fillRack w = none ∧ s.spareRack w = none := by
  simp only [State.starved, Bool.and_eq_true, decide_eq_true_eq]
  refine and_congr_right fun _ => ?_
  simp only [State.occupied, State.count, State.fillRack, State.spareRack, Nat.add_eq_zero_iff,
    List.length_eq_zero_iff, List.head?_eq_none_iff]

theorem noteStarved_toState (e : Event) (w : Window) : (e.noteStarved w).toState = e.toState.starvation w := by
  unfold State.starvation
  rcases e.noteStarved_cases w with ⟨hs, h⟩ | ⟨hs, h⟩ <;> rw [h]
  · rw [if_pos ((starved_iff _ w).mp hs)]
    rfl
  · rw [if_neg (mt (starved_iff _ w).mpr (Bool.eq_false_iff.mp hs))]

theorem post_out (e : Event) (w : Window) : (e.post w).out = e.out := by
  rcases e.post_cases w with ⟨-, h⟩ | ⟨-, h⟩ <;> rw [h]

theorem noteStarved_out (e : Event) (w : Window) : (e.noteStarved w).out = e.out := by
  rcases e.noteStarved_cases w with ⟨-, h⟩ | ⟨-, h⟩ <;> rw [h]
  rfl

/-- A departure makes no message outside the lanes. -/
theorem departed_out {r : Rack} (h : OffLane r) (e : Event) : (e.departed r).out = e.out := by
  unfold Event.departed
  split
  case h_1 w _ =>
    rw [noteStarved_out, post_out]
    rcases e.swap_cases w with h | ⟨r, -, -, h⟩ <;> rw [h]
    exact Event.join_out _ _
  case h_2 => rw [noteStarved_out, post_out]
  case h_6 =>
    split
    · exact post_out e _
    · rfl
  case h_7 t hp => exact absurd hp (h t)
  all_goals rfl

/-- The swap of R41: a rack at SPARE has neither a destination nor a pass sheet to lose. -/
theorem swap_some {x : Rack} {w : Window} (hf : e.toState.fillRack w = none) (hx : e.toState.spareRack w = some x) :
    (e.swap w).toState = { e.toState with
      racks := rejoined e.racks { x with state := .filling, place := .windowFill w, since := e.now } } := by
  have hp := (mem_of_spareRack hx).2
  unfold Event.swap
  simp only [hf, hx]
  rw [Event.join_toState, if_neg (by exact nofun)]
  simp only [Rack.moved, hp]
  rfl

/-- What a departure from a place outside the lanes makes of the state (R17, R41, R46, R149 to R151). -/
theorem departed_toState {r : Rack} (h : OffLane r) (e : Event) : (e.departed r).toState = e.toState.vacated r := by
  unfold Event.departed State.vacated
  cases hp : r.place
  case windowFill w =>
    simp only
    rw [noteStarved_toState, Event.post_owed]
    cases hf : e.toState.fillRack w <;> cases hx : e.toState.spareRack w
    case none.some x => rw [swap_some hf hx]
    all_goals
      unfold Event.swap
      simp only [hf, hx]
  case windowSpare w =>
    simp only
    rw [noteStarved_toState, Event.post_owed]
  case returnLoop =>
    cases r.destination
    · rfl
    · exact Event.post_owed _ _
  case tunnel t => exact absurd hp (h t)
  all_goals rfl

end Sys2Proof.Proofs.Words
end

section
/-! The exit gates in the words of the statements (R134 to R141): release, release test, readiness test, room report. -/

namespace Sys2Proof.Proofs.GateWords

open Sys2Proof.Machine Sys2Proof.Proofs.Tables Sys2Proof.Proofs.Acts Sys2Proof.Proofs.ActsKeepTheTable
  Sys2Proof.Proofs.Desk Sys2Proof.Proofs.LaneActs Sys2Proof.Proofs.Words Sys2Proof.Proofs.Chains
  Sys2Proof.Proofs.Pairing Sys2Proof.Proofs.LaneLists

variable {e e' : Event}

/-! ### The release -/

theorem holdNoted_tunnels (s : State) (ts : PerTunnel TunnelContext) :
    ({ s with tunnels := ts } : State).holdNoted = { s.holdNoted with tunnels := ts } := by
  unfold State.holdNoted
  change (if s.count .hold = 8 then _ else _) = _
  split <;> rfl

theorem laneDeparted_dues (e : Event) (t : Tunnel) : dues (e.laneDeparted t) = (true, e.room, e.wantIdle) := by
  rcases laneDeparted_cases e t with ⟨-, h⟩ | ⟨-, -, h⟩ | ⟨-, -, h⟩ | ⟨-, -, -, -, h⟩ <;> rw [h] <;> rfl

/-- The event of a release from gate `t` before the rack moves: the gate is open, REPEAT_FAIL raised where it is. -/
def gateOpened (e : Event) (t : Tunnel) (cause : Option HoldCause) : Event :=
  let e' := e.setTunnel t { e.tunnels.get t with deferredExit := none, gateShut := false }
  if cause = some .repeatFail then e'.raise .repeatFail else e'

/-- The state of a release with the record at its new place and the notices of the move, the tunnels left. -/
def rehoused (s : State) (r' : Rack) (d : Destination) (cause : Option HoldCause) : State :=
  let s' : State := { s with racks := rejoined s.racks r' }
  let s' := if cause = some .repeatFail then s'.raise .repeatFail else s'
  if d = .hold then s'.holdNoted else s'

theorem release_eq {t : Tunnel} {r : Rack} (hp : r.place = .tunnel t) (e : Event) (v : Verdict) (d : Destination)
    (cause : Option HoldCause) :
    e.release t r v d cause = ((gateOpened e t cause).join (r.released v d cause e.now)).laneDeparted t := by
  have hnow : (gateOpened e t cause).now = e.now := by
    unfold gateOpened
    split <;> rfl
  unfold Event.release
  dsimp only
  rw [move_from_lane (r := { r with lastOutcome := some (.verdict v) }) hp, Rack.moved_of_release r t v d cause _ hp,
    ← hnow]
  rfl

/-- The state of a rack's release before its lane departure. -/
theorem gateOpened_join {t : Tunnel} {r' : Rack} {d : Destination} {cause : Option HoldCause} (e : Event)
    (hr' : r'.place = d.place) : ((gateOpened e t cause).join r').toState =
      { rehoused e.toState r' d cause with
        tunnels := e.tunnels.set t { e.tunnels.get t with deferredExit := none, gateShut := false } } := by
  rw [Event.join_toState, hr']
  unfold gateOpened rehoused
  by_cases hc : cause = some .repeatFail
  · simp only [hc, if_true]
    cases d
    case hold =>
      simp only [Destination.place, if_true]
      exact holdNoted_tunnels (State.raise { e.toState with racks := rejoined e.racks r' } .repeatFail)
        (e.tunnels.set t { e.tunnels.get t with deferredExit := none, gateShut := false })
    all_goals rfl
  · simp only [hc, if_false]
    cases d
    case hold =>
      simp only [Destination.place, if_true]
      exact holdNoted_tunnels { e.toState with racks := rejoined e.racks r' }
        (e.tunnels.set t { e.tunnels.get t with deferredExit := none, gateShut := false })
    all_goals rfl

theorem rehoused_registers (s : State) (r' : Rack) (d : Destination) (cause : Option HoldCause) :
    (rehoused s r' d cause).tunnels = s.tunnels ∧ (rehoused s r' d cause).config = s.config ∧
      (rehoused s r' d cause).now = s.now := by
  unfold rehoused State.holdNoted
  by_cases hc : cause = some .repeatFail
  all_goals
    simp only [hc, if_true, if_false]
    split
    · split <;> exact ⟨rfl, rfl, rfl⟩
    · exact ⟨rfl, rfl, rfl⟩

/-- What a release makes (R141). -/
theorem release_made {t : Tunnel} {r : Rack} (hp : r.place = .tunnel t) (e : Event) (v : Verdict) (d : Destination)
    (cause : Option HoldCause) :
    e.carries (e.release t r v d cause) (fun s => (s.releasedFrom t r v d cause, s.closingEnded t r)) ∧
      dues (e.release t r v d cause) = (true, e.room, e.wantIdle) := by
  rw [release_eq hp]
  have hjoin := gateOpened_join (t := t) (cause := cause) e (r' := r.released v d cause e.now) (d := d) rfl
  have hout : ((gateOpened e t cause).join (r.released v d cause e.now)).out = e.out := by
    rw [Event.join_out]
    unfold gateOpened
    split <;> rfl
  have hdues : dues ((gateOpened e t cause).join (r.released v d cause e.now)) = dues e := by
    rw [dues_join]
    unfold gateOpened
    split <;> rfl
  have hracks : ((gateOpened e t cause).join (r.released v d cause e.now)).racks =
      rejoined e.racks (r.released v d cause e.now) := by
    rw [Event.join_racks]
    unfold gateOpened
    split <;> rfl
  generalize (gateOpened e t cause).join (r.released v d cause e.now) = j at hjoin hout hdues hracks ⊢
  have hempty : (j.toState.lane t).isEmpty = e.toState.lastInLane t r :=
    State.lane_isEmpty_of_rejoined (s := e.toState) hracks rfl (d.place_ne_tunnel t)
  obtain ⟨hs, ho⟩ := j.laneDeparted_carries t _ hempty
  obtain ⟨-, hroom, hidle⟩ := dues_parts hdues
  obtain ⟨htunnels, hconfig, hnow⟩ := rehoused_registers e.toState (r.released v d cause e.now) d cause
  refine ⟨⟨?_, ?_⟩, by rw [laneDeparted_dues, hroom, hidle]⟩
  · rw [hs, hjoin]
    refine congrArg
      (fun ts => ({ rehoused e.toState (r.released v d cause e.now) d cause with tunnels := ts } : State)) ?_
    rw [hnow]
    cases t <;> rfl
  · rw [ho, hout, hjoin]
    unfold State.closingEnded State.toRole
    simp only [PerTunnel.get_set_same]
    rw [hconfig]

/-! ### What a change of the gates leaves owing -/

/-- The lanes of both tunnels are as long as before. -/
def LanesAsLong (s s' : State) : Prop :=
  (s'.lane .a).length = (s.lane .a).length ∧ (s'.lane .b).length = (s.lane .b).length

/-- `e'` is `e` with the change `f` of the gates made: no lane is longer, and a re-evaluation is owed for one that is
shorter. -/
structure Gated (e e' : Event) (f : State → Made) : Prop where
  made : e.carries e' f
  idle : e'.wantIdle = e.wantIdle
  pending : e'.pendingAdmission = e.pendingAdmission
  shorter : ∀ t, (e'.toState.lane t).length ≤ (e.toState.lane t).length
  reeval : e'.wantReeval = true ↔ e.wantReeval = true ∨ ¬ LanesAsLong e.toState e'.toState

theorem LanesAsLong.refl (s : State) : LanesAsLong s s := ⟨rfl, rfl⟩

theorem Gated.refl (e : Event) : Gated e e fun s => (s, []) where
  made := ⟨rfl, (List.append_nil _).symm⟩
  idle := rfl
  pending := rfl
  shorter := fun _ => le_rfl
  reeval := by simp only [LanesAsLong.refl, not_true_eq_false, or_false]

theorem Gated.trans {e'' : Event} {f g : State → Made} (h : Gated e e' f) (h' : Gated e' e'' g) :
    Gated e e'' fun s => followed (f s) g where
  made := h.made.followed h'.made
  idle := h'.idle.trans h.idle
  pending := h'.pending.trans h.pending
  shorter := fun t => (h'.shorter t).trans (h.shorter t)
  reeval := by
    have ha := h.shorter .a
    have hb := h.shorter .b
    have ha' := h'.shorter .a
    have hb' := h'.shorter .b
    rw [h'.reeval, h.reeval, or_assoc]
    refine or_congr_right ?_
    simp only [LanesAsLong]
    omega

/-- A change that makes the lanes no shorter. -/
theorem Gated.same_lanes {f : State → Made} (hm : e.carries e' f) (hr : e'.racks = e.racks)
    (hp : e'.pendingAdmission = e.pendingAdmission) (hi : e'.wantIdle = e.wantIdle)
    (hv : e'.wantReeval = e.wantReeval) : Gated e e' f where
  made := hm
  idle := hi
  pending := hp
  shorter := fun t => (congrArg List.length (lane_of_racks hr t)).le
  reeval := by
    have hl : LanesAsLong e.toState e'.toState :=
      ⟨congrArg List.length (lane_of_racks hr .a), congrArg List.length (lane_of_racks hr .b)⟩
    simp only [hv, hl, not_true_eq_false, or_false]

/-- The gates from here on make of `f` what they make of `g`. -/
theorem Gated.congr {f g : State → Made} (h : Gated e e' f) (hfg : f e.toState = g e.toState) : Gated e e' g where
  made := ⟨by rw [h.made.1, hfg], by rw [h.made.2, hfg]⟩
  idle := h.idle
  pending := h.pending
  shorter := h.shorter
  reeval := h.reeval

theorem gated_release {t : Tunnel} {r : Rack} (hm : r ∈ e.racks) (hp : r.place = .tunnel t) (v : Verdict)
    (d : Destination) (cause : Option HoldCause) :
    Gated e (e.release t r v d cause) fun s => (s.releasedFrom t r v d cause, s.closingEnded t r) := by
  obtain ⟨hmade, hdues⟩ := release_made hp e v d cause
  have hlane (u : Tunnel) : (e.release t r v d cause).toState.lane u = (e.toState.lane u).filter (·.tag ≠ r.tag) := by
    rw [lane_eq, release_racks hp, laneIn_rejoined, if_neg (by exact d.place_ne_tunnel u), List.append_nil]
    rfl
  have hshort : ((e.release t r v d cause).toState.lane t).length < (e.toState.lane t).length := by
    rw [hlane]
    exact List.length_filter_lt_length_iff_exists.mpr ⟨r, mem_lane.mpr ⟨hm, hp⟩, by simp⟩
  refine ⟨hmade, (congrArg (·.2.2) hdues : _), release_pending e t r v d cause, fun u => ?_, ?_⟩
  · rw [hlane]
    exact List.length_filter_le _ _
  · have hv : (e.release t r v d cause).wantReeval = true := congrArg (·.1) hdues
    refine iff_of_true hv (.inr fun hl => ?_)
    cases t
    · exact hshort.ne hl.1
    · exact hshort.ne hl.2

/-! ### The release test -/

/-- The event of a release test with the message that it sends first. -/
theorem gated_send (e : Event) (p : Port) (m : Message) : Gated e (e.send p m) fun s => (s, [(p, m)]) :=
  .same_lanes ⟨rfl, rfl⟩ rfl rfl rfl rfl

/-- No choice of the row of R139 has room. -/
theorem gateTest_shut {s : State} {t : Tunnel} {r : Rack} {v : Verdict} (h : s.gateRow t v r.passes = none)
    (grant : Option Port) : s.gateTest t r v grant =
      (({ s with tunnels := s.tunnels.set t { s.tunnels.get t with gateShut := true } } : State).raise (.exitBlocked t),
        []) := by
  unfold State.gateTest
  rw [h]
  cases t <;> rfl

theorem gateTest_released {s : State} {t : Tunnel} {r : Rack} {v : Verdict} {d : Destination} {cause : Option HoldCause}
    (h : s.gateRow t v r.passes = some (d, cause)) (grant : Option Port) : s.gateTest t r v grant =
      (s.releasedFrom t r v d cause,
        (grant.elim [] fun p => [(p, .grantExit r.tag v d)]) ++ s.closingEnded t r) := by
  unfold State.gateTest
  rw [h]
  cases grant <;> rfl

theorem gated_releaseTest {t : Tunnel} {r : Rack} {sh : PassSheet} {v : Verdict} (hf : e.toState.finalRack t = some r)
    (hs : r.sheet = some sh) (hv : sh.verdict = some v) (hx : sh.exitRequested = true) (grant : Bool) :
    Gated e (e.releaseTest t grant).1 fun s =>
      s.gateTest t r v (if grant then (s.tunnels.get t).deferredExit else none) := by
  obtain ⟨hm, hp, -⟩ := mem_of_finalRack hf
  unfold Event.releaseTest
  simp only [hf, hs, Option.bind_some, hv, Option.map_some, hx, Option.getD_some]
  cases hg : e.toState.gateDestination t v r.passes with
  | none =>
    simp only
    have hrow := (State.gateDestination_eq e.toState t v r.passes).symm.trans hg
    refine (Gated.same_lanes (f := fun s => s.gateTest t r v _) ⟨?_, ?_⟩ rfl rfl rfl rfl)
    · exact (congrArg Prod.fst (gateTest_shut hrow _)).symm
    · exact ((congrArg _ (congrArg Prod.snd (gateTest_shut hrow _))).trans (List.append_nil _)).symm
  | some x =>
    obtain ⟨d, cause⟩ := x
    have hrow := (State.gateDestination_eq e.toState t v r.passes).symm.trans hg
    cases grant with
    | false => exact (gated_release hm hp v d cause).congr (gateTest_released hrow none).symm
    | true =>
      cases hq : (e.tunnels.get t).deferredExit with
      | none => exact (gated_release hm hp v d cause).congr (by rw [if_pos rfl, hq, gateTest_released hrow]; rfl)
      | some p =>
        refine ((gated_send e p (.grantExit r.tag v d)).trans
          (gated_release (e := e.send p (.grantExit r.tag v d)) hm hp v d cause)).congr ?_
        rw [if_pos rfl, hq, gateTest_released hrow]
        rfl

end Sys2Proof.Proofs.GateWords
end

section
/-! The shut gates told of room (R51, R140), and the readiness test (R134 to R136), in the words of the statements. -/

namespace Sys2Proof.Proofs.GateTests

open Sys2Proof.Machine Sys2Proof.Proofs.Tables Sys2Proof.Proofs.Acts Sys2Proof.Proofs.ActsKeepTheTable
  Sys2Proof.Proofs.LaneLists Sys2Proof.Proofs.TunnelLaw Sys2Proof.Proofs.Words Sys2Proof.Proofs.GateWords
  Sys2Proof.Proofs.Chains

variable {e e' : Event}

/-! ### Room -/

/-- A change that is made when it is wanted. -/
def whenever (b : Bool) (f : State → Made) (s : State) : Made := if b then f s else (s, [])

/-- The gates that are told of room test again, A before B (R51). -/
def tested (room : PerTunnel Bool) (s : State) : Made :=
  followed (whenever room.a (·.retested .a) s) (whenever room.b (·.retested .b))

theorem releaseTest_room (e : Event) (t : Tunnel) (grant : Bool) : (e.releaseTest t grant).1.room = e.room := by
  rcases e.releaseTest_cases t grant with h | ⟨r, v, -, -, -, h⟩ | ⟨r, v, d, cause, e', hf, -, -, he, h⟩ <;> rw [h]
  · rfl
  · have hroom : (e'.release t r v d cause).room = e'.room :=
      congrArg (·.2.1) (release_made (mem_of_finalRack hf).2.1 e' v d cause).2
    rcases he with rfl | ⟨p, -, -, rfl⟩ <;> exact hroom

theorem gated_retest (t : Tunnel) :
    Gated e (if (e.tunnels.get t).gateShut then (e.releaseTest t true).1 else e) (·.retested t) := by
  cases hg : (e.tunnels.get t).gateShut with
  | false => exact (Gated.refl e).congr (State.retested_of_open hg).symm
  | true =>
    rw [if_pos rfl]
    cases hf : e.toState.finalRack t with
    | none =>
      have hword : e.toState.retested t = (e.toState, []) := by simp only [State.retested, hg, hf]
      rw [show (e.releaseTest t true).1 = e by simp only [Event.releaseTest, hf]]
      exact (Gated.refl e).congr hword.symm
    | some r =>
      cases hs : r.sheet with
      | none =>
        have hword : e.toState.retested t = (e.toState, []) := by simp only [State.retested, hg, hf, hs]
        rw [show (e.releaseTest t true).1 = e by
          simp only [Event.releaseTest, hf, hs, Option.bind_none]]
        exact (Gated.refl e).congr hword.symm
      | some sh =>
        cases hv : sh.verdict with
        | none =>
          have hword : e.toState.retested t = (e.toState, []) := by simp only [State.retested, hg, hf, hs, hv]
          rw [show (e.releaseTest t true).1 = e by
            simp only [Event.releaseTest, hf, hs, Option.bind_some, hv]]
          exact (Gated.refl e).congr hword.symm
        | some v =>
          cases hx : sh.exitRequested with
          | false =>
            have hword : e.toState.retested t = (e.toState, []) := by
              simp only [State.retested, hg, hf, hs, hv, hx]
            rw [show (e.releaseTest t true).1 = e by
              simp only [Event.releaseTest, hf, hs, Option.bind_some, hv, Option.map_some, hx, Option.getD_some]]
            exact (Gated.refl e).congr hword.symm
          | true =>
            refine (gated_releaseTest hf hs hv hx true).congr ?_
            simp only [State.retested, hg, hf, hs, hv, hx, if_true]

theorem gated_roomReport (t : Tunnel) : Gated e (e.roomReport t) (whenever (e.room.get t) (·.retested t)) ∧
    (e.roomReport t).room = e.room.set t false := by
  unfold Event.roomReport whenever
  cases hr : e.room.get t with
  | false =>
    refine ⟨Gated.refl e, ?_⟩
    simp only [Bool.false_eq_true, if_false]
    rw [← hr, PerTunnel.set_get]
  | true =>
    simp only [if_true]
    have hflag : Gated e { e with room := e.room.set t false } fun s => (s, []) :=
      .same_lanes ⟨rfl, (List.append_nil _).symm⟩ rfl rfl rfl rfl
    refine ⟨(hflag.trans (gated_retest t)).congr (followed_pure _ _), ?_⟩
    split
    · exact releaseTest_room _ _ _
    · rfl

theorem gated_roomReports (e : Event) : Gated e e.roomReports (tested e.room) ∧
    e.roomReports.room = ⟨false, false⟩ := by
  obtain ⟨ha, hra⟩ := gated_roomReport (e := e) .a
  obtain ⟨hb, hrb⟩ := gated_roomReport (e := e.roomReport .a) .b
  rw [hra] at hb hrb
  exact ⟨ha.trans hb, hrb⟩

/-! ### Pass sheets -/

theorem stage?_withSheet {r : Rack} {sh sh' : PassSheet} (hs : r.sheet = some sh) (h : sh'.stage = sh.stage) :
    ({ r with sheet := some sh' } : Rack).stage? = r.stage? := by
  rw [Rack.stage?, Rack.stage?, hs]
  exact congrArg some h

/-- The change of one sheet in the words of the statements. -/
theorem modifySheet_toState {r : Rack} {sh : PassSheet} (htags : Tags e.racks) (hr : r ∈ e.racks)
    (hs : r.sheet = some sh) (f : PassSheet → PassSheet) :
    (e.modifySheet r.tag f).toState = e.toState.withSheet r.tag (f sh) := by
  refine congrArg (fun l => ({ e.toState with racks := l } : State)) (List.map_congr_left fun x hx => ?_)
  by_cases ht : x.tag = r.tag
  · obtain rfl := eq_of_tag htags hr hx ht
    rw [if_pos rfl, if_pos rfl]
    exact congrArg (fun o => ({ x with sheet := o } : Rack)) (congrArg (Option.map f) hs)
  · rw [if_neg ht, if_neg ht]

theorem lane_withSheet (s : State) (tag : Nat) (sh : PassSheet) (t : Tunnel) :
    (s.withSheet tag sh).lane t = edited (s.lane t) tag fun r => { r with sheet := some sh } :=
  laneIn_edited (f := fun r => { r with sheet := some sh }) (fun _ => rfl) t

/-- The rack in FINAL stays there with a new sheet of the same section. -/
theorem finalRack_withSheet {s : State} {t : Tunnel} {r : Rack} {sh sh' : PassSheet} (htags : Tags s.racks)
    (hf : s.finalRack t = some r) (hs : r.sheet = some sh) (h : sh'.stage = sh.stage) :
    (s.withSheet r.tag sh').finalRack t = some { r with sheet := some sh' } := by
  have hm := (mem_of_finalRack hf).1
  rw [State.finalRack, lane_withSheet, edited, List.find?_map]
  rw [List.find?_congr (p₂ := fun x => x.inFinal) fun x hx => ?_]
  · rw [show (s.lane t).find? (fun x => x.inFinal) = some r from hf, Option.map_some, if_pos rfl]
  · rw [Function.comp_apply]
    split
    · rename_i ht
      obtain rfl := eq_of_tag htags hm (mem_lane.mp hx).1 ht
      rw [Rack.inFinal, stage?_withSheet hs h, Rack.inFinal]
    · rfl

theorem gated_modifySheet {r : Rack} {sh : PassSheet} (htags : Tags e.racks) (hr : r ∈ e.racks)
    (hs : r.sheet = some sh) (f : PassSheet → PassSheet) :
    Gated e (e.modifySheet r.tag f) fun s => (s.withSheet r.tag (f sh), []) := by
  have hlane (t : Tunnel) : ((e.modifySheet r.tag f).toState.lane t).length = (e.toState.lane t).length := by
    rw [lane_modifySheet]
    exact List.length_map _
  refine ⟨⟨modifySheet_toState htags hr hs f, (List.append_nil _).symm⟩, rfl, rfl, fun t => (hlane t).le, ?_⟩
  have hl : LanesAsLong e.toState (e.modifySheet r.tag f).toState := ⟨hlane .a, hlane .b⟩
  exact ⟨.inl, fun h => h.resolve_right (not_not_intro hl)⟩

/-! ### Readiness -/

theorem ready_iff (sh : PassSheet) (c : Configuration) (now : Tick) : sh.ready c now = true ↔ sh.isReady c now := by
  simp only [PassSheet.ready, Bool.and_eq_true, Bool.or_eq_true, decide_eq_true_eq, PassSheet.isReady,
    Configuration.thresholdOf, Configuration.maxDwellInForce]
  exact and_congr_right fun _ => or_congr decide_eq_true_iff decide_eq_true_iff

/-- The sheet with its verdict, the gap test first (R136). -/
theorem judged_eq (sh : PassSheet) (c : Configuration) (now : Tick) : sh.judged c now =
    { sh with
      gap := sh.gap || decide (20 < sh.sinceReference now)
      verdict := some (formVerdict c { sh with gap := sh.gap || decide (20 < sh.sinceReference now) }) } := by
  unfold PassSheet.judged
  by_cases h : 20 < sh.sinceReference now
  · rw [if_pos (show Config.gapLimit < sh.sinceReference now from h), decide_eq_true h, Bool.or_true]
  · rw [if_neg (show ¬ Config.gapLimit < sh.sinceReference now from h), decide_eq_false h, Bool.or_false]

/-- What becomes of the rack is not in its sheet. -/
theorem gateTest_sheet (s : State) (t : Tunnel) (r : Rack) (sh : Option PassSheet) (v : Verdict) (grant : Option Port) :
    s.gateTest t { r with sheet := sh } v grant = s.gateTest t r v grant := rfl

/-- A ready rack that has not been read waits with its verdict. -/
theorem judgedAt_unread (s : State) (t : Tunnel) (r : Rack) {sh : PassSheet} (hx : sh.exitRequested = false) :
    s.judgedAt t r sh = (s.withSheet r.tag (sh.judged s.config s.now), []) := by
  rw [judged_eq]
  exact if_neg (by rw [hx]; nofun)

/-- A ready rack that has been read gets the release test with its verdict. -/
theorem judgedAt_read (s : State) (t : Tunnel) (r : Rack) {sh : PassSheet} (hx : sh.exitRequested = true) {v : Verdict}
    (hv : (sh.judged s.config s.now).verdict = some v) :
    s.judgedAt t r sh =
      (s.withSheet r.tag (sh.judged s.config s.now)).gateTest t r v (s.tunnels.get t).deferredExit := by
  rw [judged_eq] at hv ⊢
  cases hv
  exact if_pos hx

/-- A ready rack gets its verdict, and the release test when it has been read. -/
theorem gated_judged {t : Tunnel} {r : Rack} {sh : PassSheet} (htags : Tags e.racks)
    (hf : e.toState.finalRack t = some r) (hs : r.sheet = some sh) :
    Gated e (if sh.exitRequested then
        ((e.modifySheet r.tag fun p => p.judged e.config e.now).releaseTest t true).1
      else e.modifySheet r.tag fun p => p.judged e.config e.now) (·.judgedAt t r sh) := by
  have hm := (mem_of_finalRack hf).1
  have hsheet := gated_modifySheet htags hm hs fun p => p.judged e.config e.now
  have hstate := hsheet.made.1
  generalize e.modifySheet r.tag (fun p => p.judged e.config e.now) = e' at hsheet hstate ⊢
  cases hx : sh.exitRequested with
  | false => exact hsheet.congr (judgedAt_unread _ t r hx).symm
  | true =>
    have hfinal : e'.toState.finalRack t = some { r with sheet := some (sh.judged e.config e.now) } := by
      rw [hstate]
      exact finalRack_withSheet htags hf hs (judged_fields sh _ _).2.1
    obtain ⟨v, hv⟩ : ∃ v, (sh.judged e.config e.now).verdict = some v := ⟨_, rfl⟩
    have hread : (sh.judged e.config e.now).exitRequested = true := (judged_fields sh _ _).2.2.2.2.2.trans hx
    refine (hsheet.trans (gated_releaseTest hfinal rfl hv hread true)).congr ?_
    rw [judgedAt_read _ t r hx hv, followed_pure, if_pos rfl]
    rfl

theorem gated_readinessTest (htags : Tags e.racks) (t : Tunnel) : Gated e (e.readinessTest t) (·.readied t) := by
  cases hf : e.toState.finalRack t with
  | none =>
    rw [show e.readinessTest t = e by simp only [Event.readinessTest, hf]]
    exact (Gated.refl e).congr (by simp only [State.readied, hf])
  | some r =>
    cases hs : r.sheet with
    | none =>
      rw [show e.readinessTest t = e by simp only [Event.readinessTest, hf, hs]]
      exact (Gated.refl e).congr (by simp only [State.readied, hf, hs])
    | some sh =>
      have htest : (sh.verdict.isNone && sh.ready e.config e.now) = true ↔
          sh.verdict = none ∧ sh.isReady e.config e.now := by
        rw [Bool.and_eq_true, Option.isNone_iff_eq_none, ready_iff]
      unfold Event.readinessTest
      simp only [hf, hs]
      by_cases hready : sh.verdict = none ∧ sh.isReady e.config e.now
      · rw [if_pos (htest.mpr hready)]
        exact (gated_judged htags hf hs).congr (by simp only [State.readied, hf, hs, if_pos hready])
      · rw [if_neg (mt htest.mp hready)]
        exact (Gated.refl e).congr (by simp only [State.readied, hf, hs, if_neg hready])

end Sys2Proof.Proofs.GateTests
end

section
/-! The end of an event in the words of the statements: pairing, room reports, the re-evaluation of the pending
admission, idle times (R51, R69, R90 to R93, R154). -/

namespace Sys2Proof.Proofs.Endings

open Sys2Proof.Machine Sys2Proof.Proofs.Tables Sys2Proof.Proofs.Acts Sys2Proof.Proofs.ActsKeepTheTable
  Sys2Proof.Proofs.Registers Sys2Proof.Proofs.Requests Sys2Proof.Proofs.Chains
  Sys2Proof.Proofs.LaneActs Sys2Proof.Proofs.TunnelLaw Sys2Proof.Proofs.Words
  Sys2Proof.Proofs.GateWords Sys2Proof.Proofs.GateTests

variable {e e' : Event}

theorem whenever_true (f : State → Made) (s : State) : whenever true f s = f s := rfl

theorem whenever_false (f : State → Made) (s : State) : whenever false f s = (s, []) := rfl

/-! ### Passes that have nothing to do -/

/-- No gate hears of room, and no re-evaluation is owed. -/
structure Calm (e : Event) : Prop where
  room : e.room = ⟨false, false⟩
  reeval : e.wantReeval = false

theorem roomReports_of_silent (h : e.room = ⟨false, false⟩) : e.roomReports = e := by
  simp [Event.roomReports, Event.roomReport, h, PerTunnel.get]

theorem reevaluate_of_unwanted (h : e.wantReeval = false) : e.reevaluate = e := by
  simp only [Event.reevaluate, h, Bool.false_eq_true, if_false]

theorem pass_of_silent (h : e.room = ⟨false, false⟩) : e.pass = e.reevaluate := by
  rw [Event.pass, roomReports_of_silent h]

theorem Calm.pass (h : Calm e) : e.pass = e := by
  rw [pass_of_silent h.room, reevaluate_of_unwanted h.reeval]

theorem reevaluate_of_none (h : e.pendingAdmission = none) : e.reevaluate = { e with wantReeval := false } := by
  cases hr : e.wantReeval with
  | false => rw [reevaluate_of_unwanted hr, ← hr]
  | true => simp only [Event.reevaluate, hr, if_true, h]

theorem idleIfWanted_carries_whenever (e : Event) : e.carries e.idleIfWanted (whenever e.wantIdle (·.idledBoth)) := by
  cases h : e.wantIdle with
  | true => exact e.idleIfWanted_carries h
  | false =>
    rw [show e.idleIfWanted = e by simp only [Event.idleIfWanted, h, Bool.false_eq_true, if_false]]
    exact ⟨rfl, (List.append_nil _).symm⟩

/-- What is left of an event's end after its second pass, when nothing is owed but idle times. -/
theorem Calm.rest (h : Calm e) : e.carries e.pass.pass.pass.idleIfWanted (whenever e.wantIdle (·.idledBoth)) := by
  rw [h.pass, h.pass, h.pass]
  exact idleIfWanted_carries_whenever e

/-! ### Waking (R70, R90) -/

/-- A tunnel in READY, RUNNING or RESTARTING. -/
def Awake (s : State) (t : Tunnel) : Prop :=
  (s.tunnels.get t).state = .ready ∨ (s.tunnels.get t).state = .running ∨ (s.tunnels.get t).state = .restarting

theorem wake_of_awake (h : Awake e.toState .a ∨ Awake e.toState .b) : e.wake = e := by
  unfold Event.wake
  refine if_pos ?_
  simp only [Bool.or_eq_true, decide_eq_true_eq, or_assoc]
  simpa only [Awake, or_assoc] using h

/-- With no tunnel awake, tunnel A is asked before B. -/
theorem wake_of_asleep (h : ¬ (Awake e.toState .a ∨ Awake e.toState .b)) : e.wake =
    if (e.tunnels.get .a).state = .economy then e.restart .a
    else if (e.tunnels.get .b).state = .economy then e.restart .b else e := by
  unfold Event.wake
  refine if_neg (mt (fun h => ?_) h)
  simp only [Bool.or_eq_true, decide_eq_true_eq, or_assoc] at h
  simpa only [Awake, or_assoc] using h

theorem restart_word {t : Tunnel} (h : (e.tunnels.get t).state = .economy) :
    e.carries (e.restart t) (fun s => (s.roused t,
      s.toRole (.tunnel t) (.tunnelState t ((s.roused t).tunnels.get t).state false))) ∧
      dues (e.restart t) = (true, e.room, e.wantIdle) ∧ (e.restart t).pendingAdmission = e.pendingAdmission := by
  rw [restart_of_economy h]
  unfold Event.carries State.roused elapsed
  dsimp only
  generalize ((e.tunnels.get t).economyStart.any fun x => decide ((e.now - x).toNat < e.config.coolTime)) = short
  cases short <;> refine ⟨⟨?_, ?_⟩, rfl, rfl⟩ <;>
    simp [Event.enter, Event.setTunnel, Event.sendRole, State.toRole]

theorem chosen_none_iff (s : State) : s.chosenTunnel = none ↔ ∀ t, s.eligible t = false := by
  unfold State.chosenTunnel
  cases ha : s.eligible .a <;> cases hb : s.eligible .b
  case false.false => exact ⟨fun _ t => by cases t <;> assumption, fun _ => rfl⟩
  case false.true => exact ⟨nofun, fun h => by rw [h] at hb; cases hb⟩
  all_goals
    refine ⟨fun h => ?_, fun h => by rw [h] at ha; cases ha⟩
    revert h
    dsimp only
  · nofun
  · split
    · nofun
    · split
      · nofun
      · split <;> nofun

theorem roused_other (s : State) (t : Tunnel) : (s.roused t).tunnels.get t.other = s.tunnels.get t.other := by
  cases t <;> rfl

theorem roused_state (s : State) (t : Tunnel) : ((s.roused t).tunnels.get t).state = .restarting ∨
    ((s.roused t).tunnels.get t).state = .warming := by
  unfold State.roused
  dsimp only
  rw [PerTunnel.get_set_same]
  split
  · exact .inl rfl
  · exact .inr rfl

theorem roused_lane (s : State) (t u : Tunnel) : (s.roused t).lane u = s.lane u := rfl

/-- A tunnel that restarts is not eligible, and the other one is as eligible as before. -/
theorem chosen_none_of_roused {s : State} (h : s.chosenTunnel = none) (t : Tunnel) :
    (s.roused t).chosenTunnel = none := by
  rw [chosen_none_iff] at h ⊢
  intro u
  rcases tunnel_eq_or_other t u with rfl | rfl
  · have hadmits : (s.roused u).admits u = false := by
      unfold State.admits
      rcases roused_state s u with hs | hs <;> rw [hs] <;> rfl
    rw [State.eligible, hadmits]
    rfl
  · have := h t.other
    unfold State.eligible State.admits at this ⊢
    rw [roused_other]
    exact this

/-! ### A re-evaluation with no tunnel to choose -/

/-- An admission is pending, no tunnel can be chosen for it, and nothing but a re-evaluation is owed. -/
structure Unserved (e : Event) : Prop where
  pending : e.pendingAdmission ≠ none
  chosen : e.toState.chosenTunnel = none
  room : e.room = ⟨false, false⟩
  idle : e.wantIdle = false

theorem Unserved.restart (h : Unserved e) {t : Tunnel} (ht : (e.tunnels.get t).state = .economy) :
    Unserved (e.restart t) := by
  obtain ⟨hmade, hdues, hpending⟩ := restart_word ht
  refine ⟨hpending ▸ h.pending, ?_, (congrArg (·.2.1) hdues).trans h.room, (congrArg (·.2.2) hdues).trans h.idle⟩
  rw [hmade.1]
  exact chosen_none_of_roused h.chosen t

/-- The re-evaluation makes the tests of R90. -/
theorem Unserved.reevaluate (h : Unserved e) (hw : e.wantReeval = true) :
    e.reevaluate = ({ e with wantReeval := false } : Event).wake := by
  obtain ⟨q, hq⟩ := Option.ne_none_iff_exists'.mp h.pending
  simp only [Event.reevaluate, hw, if_true, hq, h.chosen]

/-- The tests of R90 ask for nothing. -/
def Lull (s : State) : Prop :=
  Awake s .a ∨ Awake s .b ∨ ((s.tunnels.get .a).state ≠ .economy ∧ (s.tunnels.get .b).state ≠ .economy)

theorem wake_of_lull (h : Lull e.toState) : e.wake = e := by
  by_cases haw : Awake e.toState .a ∨ Awake e.toState .b
  · exact wake_of_awake haw
  · obtain ⟨ha, hb⟩ := (or_assoc.mpr h).resolve_left haw
    rw [wake_of_asleep haw, if_neg ha, if_neg hb]

theorem pass_of_lull (h : Unserved e) (hl : Lull e.toState) : e.pass = { e with wantReeval := false } := by
  rw [pass_of_silent h.room]
  cases hw : e.wantReeval with
  | false => rw [reevaluate_of_unwanted hw, ← hw]
  | true =>
    rw [h.reevaluate hw]
    exact wake_of_lull (e := { e with wantReeval := false }) hl

/-- The passes after it and the end of the event change nothing more. -/
theorem rest_of_lull (h : Unserved e) (hl : Lull e.toState) :
    e.pass.pass.idleIfWanted = { e with wantReeval := false } ∧
      e.pass.pass.pass.idleIfWanted = { e with wantReeval := false } := by
  have hcalm : Calm { e with wantReeval := false } := ⟨h.room, rfl⟩
  have hidle : ({ e with wantReeval := false } : Event).idleIfWanted = { e with wantReeval := false } := by
    simp only [Event.idleIfWanted, h.idle, Bool.false_eq_true, if_false]
  rw [pass_of_lull h hl, hcalm.pass, hcalm.pass]
  exact ⟨hidle, hidle⟩

theorem awake_roused (s : State) (t : Tunnel) : Awake (s.roused t) t ↔
    ((s.roused t).tunnels.get t).state = .restarting := by
  unfold Awake
  rcases roused_state s t with h | h <;> rw [h] <;> decide

theorem not_economy_roused (s : State) (t : Tunnel) : ((s.roused t).tunnels.get t).state ≠ .economy := by
  rcases roused_state s t with h | h <;> rw [h] <;> decide

/-- Tunnel `t` asked to restart, with its message. -/
def woken (t : Tunnel) (s : State) : Made :=
  (s.roused t, s.toRole (.tunnel t) (.tunnelState t ((s.roused t).tunnels.get t).state false))

section Wakened

variable {s : State} (h : ¬ (Awake s .a ∨ Awake s .b))
include h

theorem wakened_both (ha : (s.tunnels.get .a).state = .economy)
    (hr : ((s.roused .a).tunnels.get .a).state ≠ .restarting) (hb : (s.tunnels.get .b).state = .economy) :
    s.wakened = followed (woken .a s) (woken .b) := by
  have hmoved : ((s.roused .a).roused .b).tunnels.b.state ≠ s.tunnels.b.state := by
    rw [show s.tunnels.b.state = .economy from hb]
    exact not_economy_roused (s.roused .a) .b
  refine (if_neg h).trans ?_
  rw [if_pos (show s.tunnels.a.state = .economy from ha)]
  rw [if_pos (show (s.roused .a).tunnels.a.state ≠ .restarting ∧ s.tunnels.b.state = .economy from ⟨hr, hb⟩)]
  simp only [if_pos (show s.tunnels.a.state = .economy from ha), if_pos hmoved]
  rfl

theorem wakened_first (ha : (s.tunnels.get .a).state = .economy)
    (hb : ¬ (((s.roused .a).tunnels.get .a).state ≠ .restarting ∧ (s.tunnels.get .b).state = .economy)) :
    s.wakened = woken .a s := by
  refine (if_neg h).trans ?_
  rw [if_pos (show s.tunnels.a.state = .economy from ha)]
  rw [if_neg (show ¬ ((s.roused .a).tunnels.a.state ≠ .restarting ∧ s.tunnels.b.state = .economy) from hb)]
  simp only [if_pos (show s.tunnels.a.state = .economy from ha)]
  rw [if_neg (show ¬ (s.roused .a).tunnels.b.state ≠ s.tunnels.b.state from not_not_intro rfl), List.append_nil]
  rfl

theorem wakened_second (ha : (s.tunnels.get .a).state ≠ .economy) (hb : (s.tunnels.get .b).state = .economy) :
    s.wakened = woken .b s := by
  have hr : s.tunnels.a.state ≠ .restarting := fun hr => h (.inl (.inr (.inr hr)))
  have hmoved : (s.roused .b).tunnels.b.state ≠ s.tunnels.b.state := by
    rw [show s.tunnels.b.state = .economy from hb]
    exact not_economy_roused s .b
  refine (if_neg h).trans ?_
  rw [if_neg (show ¬ s.tunnels.a.state = .economy from ha)]
  rw [if_pos (show s.tunnels.a.state ≠ .restarting ∧ s.tunnels.b.state = .economy from ⟨hr, hb⟩)]
  simp only [if_neg (show ¬ s.tunnels.a.state = .economy from ha), if_pos hmoved]
  rfl

theorem wakened_none (ha : (s.tunnels.get .a).state ≠ .economy) (hb : (s.tunnels.get .b).state ≠ .economy) :
    s.wakened = (s, []) := by
  refine (if_neg h).trans ?_
  rw [if_neg (show ¬ s.tunnels.a.state = .economy from ha)]
  rw [if_neg (show ¬ (s.tunnels.a.state ≠ .restarting ∧ s.tunnels.b.state = .economy) from fun hc => hb hc.2)]
  simp only [if_neg (show ¬ s.tunnels.a.state = .economy from ha)]
  rw [if_neg (not_not_intro rfl), List.append_nil]

end Wakened

theorem wakened_of_awake {s : State} (h : Awake s .a ∨ Awake s .b) : s.wakened = (s, []) := if_pos h

theorem carries_congr {f g : State → Made} (h : e.carries e' f) (hfg : f e.toState = g e.toState) : e.carries e' g :=
  ⟨by rw [h.1, hfg], by rw [h.2, hfg]⟩

theorem carries_stay (e : Event) : e.carries e fun s => (s, []) := ⟨rfl, (List.append_nil _).symm⟩

/-- What is left of an event's end after its second pass, whatever it is, when it finds a lull. -/
def Rests (rest : Event → Event) : Prop :=
  ∀ e, Unserved e → Lull e.toState → rest e = { e with wantReeval := false }

/-- The tests of R90, with the pass that asks tunnel B after tunnel A. -/
theorem carries_wakened_then {rest : Event → Event} (hrest : Rests rest) (h : Unserved e) :
    e.carries (rest e.wake.pass) (·.wakened) := by
  have stay {e' : Event} (h' : Unserved e') (hl : Lull e'.toState) {f : State → Made} (hf : e.carries e' f) :
      e.carries (rest e'.pass) f := by
    rw [pass_of_lull h' hl, hrest { e' with wantReeval := false } ⟨h'.pending, h'.chosen, h'.room, h'.idle⟩ hl]
    exact ⟨hf.1, hf.2⟩
  by_cases haw : Awake e.toState .a ∨ Awake e.toState .b
  · have hl : Lull e.toState := or_assoc.mp (.inl haw)
    rw [wake_of_lull hl]
    exact stay h hl (carries_congr (carries_stay e) (wakened_of_awake haw).symm)
  · rw [wake_of_asleep haw]
    by_cases ha : (e.tunnels.get .a).state = .economy
    · rw [if_pos ha]
      obtain ⟨hmade, hdues, -⟩ := restart_word ha
      have hr := h.restart ha
      have hs : (e.restart .a).toState = e.toState.roused .a := hmade.1
      by_cases hb : ((e.toState.roused .a).tunnels.get .a).state ≠ .restarting ∧ (e.tunnels.get .b).state = .economy
      · have hasleep : ¬ (Awake (e.toState.roused .a) .a ∨ Awake (e.toState.roused .a) .b) := by
          rintro (h' | h')
          · exact hb.1 ((awake_roused _ _).mp h')
          · exact haw (.inr h')
        have hpass : (e.restart .a).pass = ({ e.restart .a with wantReeval := false } : Event).restart .b := by
          rw [pass_of_silent hr.room, hr.reevaluate (congrArg (·.1) hdues), wake_of_asleep (by rw [hs]; exact hasleep)]
          rw [if_neg (by rw [hs]; exact not_economy_roused _ _), if_pos (by rw [hs]; exact hb.2)]
        have hr' : Unserved { e.restart .a with wantReeval := false } := ⟨hr.pending, hr.chosen, hr.room, hr.idle⟩
        have hb' : (({ e.restart .a with wantReeval := false } : Event).tunnels.get .b).state = .economy := by
          rw [hs]
          exact hb.2
        have hmade' := (restart_word hb').1
        rw [hpass, hrest _ (hr'.restart hb') ?_]
        · have hfirst : e.carries { e.restart .a with wantReeval := false } (woken .a) := ⟨hmade.1, hmade.2⟩
          have hboth := hfirst.followed (g := woken .b) hmade'
          exact carries_congr (f := fun s => followed (woken .a s) (woken .b)) ⟨hboth.1, hboth.2⟩
            (wakened_both haw ha hb.1 hb.2).symm
        · rw [hmade'.1, hs]
          exact .inr (.inr ⟨not_economy_roused _ .a, not_economy_roused _ .b⟩)
      · refine stay hr ?_ (carries_congr hmade (wakened_first haw ha hb).symm)
        rw [hs, Lull]
        by_cases hst : ((e.toState.roused .a).tunnels.get .a).state = .restarting
        · exact .inl (.inr (.inr hst))
        · exact .inr (.inr ⟨not_economy_roused _ _, fun hbe => hb ⟨hst, hbe⟩⟩)
    · rw [if_neg ha]
      by_cases hb : (e.tunnels.get .b).state = .economy
      · rw [if_pos hb]
        have hmade := (restart_word hb).1
        refine stay (h.restart hb) ?_ (carries_congr hmade (wakened_second haw ha hb).symm)
        rw [show (e.restart .b).toState = e.toState.roused .b from hmade.1]
        exact .inr (.inr ⟨ha, not_economy_roused _ _⟩)
      · rw [if_neg hb]
        exact stay h (.inr (.inr ⟨ha, hb⟩)) (carries_congr (carries_stay e) (wakened_none haw ha hb).symm)

/-- A re-evaluation with no tunnel to choose, with all it sets off: the tests of R90. -/
theorem carries_wakened (h : Unserved e) : e.carries e.wake.pass.pass.pass.idleIfWanted (·.wakened) :=
  carries_wakened_then (rest := fun e => e.pass.pass.idleIfWanted) (fun _ h hl => (rest_of_lull h hl).1) h

/-! ### Admissions (R87 to R89, R95 to R98) -/

/-- An admission beside the departure of the rack. -/
theorem admission_word {t : Tunnel} (ht : e.toState.admits t = true) {r : Rack} (hr : r.place ≠ .returnLoop) :
    e.carries ((e.join (e.toState.admittedRack t r)).countAdmission t) (·.admittedInto t r) := by
  have hjoin : (e.join (e.toState.admittedRack t r)).toState =
      { e.toState with racks := rejoined e.racks (e.toState.admittedRack t r) } := by
    rw [Event.join_toState]
    exact if_neg (show (e.toState.admittedRack t r).place ≠ .hold from nofun)
  have hout := Event.join_out e (e.toState.admittedRack t r)
  have hrack : e.toState.admittedRack t r = { r with
      state := .washing, place := .tunnel t, since := e.now, passes := if r.passes < 3 then r.passes + 1 else 3
      sheet := some (e.toState.newSheet t r) } := by
    have hpasses : min 3 (r.passes + 1) = if r.passes < 3 then r.passes + 1 else 3 := by split <;> omega
    simp only [State.admittedRack, Rack.moved, if_neg hr, hpasses]
  generalize e.join (e.toState.admittedRack t r) = j at hjoin hout ⊢
  rw [hrack] at hjoin
  have hbooster : boosterWith e.boosterHistory e.now =
      (if e.boosterHistory.length < 8 then e.boosterHistory else e.boosterHistory.drop 1) ++ [e.now] := by
    unfold boosterWith
    by_cases h8 : e.boosterHistory.length < 8
    · rw [if_pos h8, if_neg (show ¬ Config.boosterEntries ≤ e.boosterHistory.length from not_le.mpr h8)]
    · rw [if_neg h8, if_pos (show Config.boosterEntries ≤ e.boosterHistory.length from not_lt.mp h8)]
  simp only [State.admits, Bool.or_eq_true, decide_eq_true_eq] at ht
  unfold Event.countAdmission State.admittedInto Event.carries
  simp only [Event.setTunnel, Event.enter, Event.sendRole, hjoin, hout]
  rcases ht with hst | hst
  · simp only [hst, if_true, PerTunnel.get_set_same, PerTunnel.set_set]
    rw [hbooster]
    exact ⟨rfl, rfl⟩
  · simp only [hst, reduceCtorEq, if_false, List.append_nil]
    rw [hbooster]
    exact ⟨rfl, trivial⟩

theorem countAdmission_owes (e : Event) (t : Tunnel) :
    (e.countAdmission t).room = e.room ∧ (e.countAdmission t).wantIdle = e.wantIdle := by
  unfold Event.countAdmission
  dsimp only
  split <;> exact ⟨rfl, rfl⟩

theorem admission_owes (e : Event) (t : Tunnel) (r : Rack) :
    ((e.join r).countAdmission t).room = e.room ∧ ((e.join r).countAdmission t).wantIdle = e.wantIdle := by
  obtain ⟨hroom, hidle⟩ := countAdmission_owes (e.join r) t
  obtain ⟨-, hroom', hidle'⟩ := dues_parts (dues_join e r)
  exact ⟨hroom.trans hroom', hidle.trans hidle'⟩

theorem vacated_of_admissible {r : Rack} (h : r.admissible = true) (s : State) : s.vacated r = s := by
  unfold State.vacated
  rcases (admissible_iff r).mp h with ⟨-, hp⟩ | ⟨-, hp⟩ <;> rw [hp]

/-- What a grant leaves owing: the room that the rack leaves, and idle times. -/
structure Admitted (e e' : Event) (t : Tunnel) (r : Rack) : Prop where
  made : e.carries e' (·.admittedInto t r)
  room : e'.room = roomFrom r.place e.room
  idle : e'.wantIdle = e.wantIdle
  pending : e'.pendingAdmission = e.pendingAdmission

theorem admitted_rack {t : Tunnel} (ht : e.toState.admits t = true) {r : Rack} (hr : r.admissible = true) :
    Admitted e (e.admitRack t r) t r := by
  have hne : r.place ≠ .returnLoop := by
    rcases (admissible_iff r).mp hr with ⟨-, hp⟩ | ⟨-, hp⟩ <;> rw [hp] <;> nofun
  have hoff := offLane_of_admissible hr
  have hmade := admission_word ht hne
  obtain ⟨hroom, hidle⟩ := admission_owes e t (e.toState.admittedRack t r)
  have hdues := dues_departed hoff ((e.join (e.toState.admittedRack t r)).countAdmission t)
  refine ⟨⟨?_, ?_⟩, ?_, ?_, admitRack_pending e t r⟩ <;> unfold Event.admitRack
  · rw [departed_toState hoff, vacated_of_admissible hr]
    exact hmade.1
  · rw [departed_out hoff]
    exact hmade.2
  · exact (congrArg (·.2.1) hdues).trans (congrArg (roomFrom r.place) hroom)
  · exact (congrArg (·.2.2) hdues).trans hidle

theorem admitted_new {t : Tunnel} (ht : e.toState.admits t = true) (tag : Nat) (a : EnrolAttributes) :
    Admitted e (e.admitNew t tag a) t (newRack tag e.toState.freeSlot a .washing (.tunnel t) e.now) := by
  have hmade := admission_word (r := newRack tag e.toState.freeSlot a .washing (.tunnel t) e.now) ht (by exact nofun)
  obtain ⟨hroom, hidle⟩ := admission_owes e t (e.toState.admittedRack t
    (newRack tag e.toState.freeSlot a .washing (.tunnel t) e.now))
  exact ⟨hmade, hroom, hidle, admitNew_pending e t tag a⟩

/-! ### The grant (R93) -/

/-- The room that a rack leaves, told to the gates, in the words of the statements. -/
theorem tested_roomFrom (left : Place) (s : State) :
    tested (roomFrom left ⟨false, false⟩) s = s.retestedAfter left := by
  cases left
  case unload t =>
    cases t
    · exact followed_stay _
    · exact followed_pure s _
  all_goals rfl

/-- An admission that owes nothing but what it has set off. -/
theorem Admitted.rest {t : Tunnel} {r : Rack} (h : Admitted e e' t r) (hroom : e.room = ⟨false, false⟩)
    (hp : e.pendingAdmission = none) : e.carries e'.pass.pass.pass.idleIfWanted fun s =>
      followed (followed (s.admittedInto t r) (·.retestedAfter r.place)) (whenever e.wantIdle (·.idledBoth)) := by
  obtain ⟨hgates, hsilent⟩ := gated_roomReports e'
  have hpending : e'.roomReports.pendingAdmission = none := hgates.pending.trans (h.pending.trans hp)
  have hpass : e'.pass = { e'.roomReports with wantReeval := false } := reevaluate_of_none hpending
  have hcalm : Calm { e'.roomReports with wantReeval := false } := ⟨hsilent, rfl⟩
  have hidle := idleIfWanted_carries_whenever { e'.roomReports with wantReeval := false }
  have hwant : ({ e'.roomReports with wantReeval := false } : Event).wantIdle = e.wantIdle := hgates.idle.trans h.idle
  rw [hpass, hcalm.pass, hcalm.pass]
  rw [hwant] at hidle
  have htested : e'.carries { e'.roomReports with wantReeval := false } (·.retestedAfter r.place) := by
    refine carries_congr ⟨hgates.made.1, hgates.made.2⟩ ?_
    rw [h.room, hroom]
    exact tested_roomFrom _ _
  exact (h.made.followed htested).followed hidle

/-- A rack whose admission is pending has its record while a tunnel is chosen, and may be admitted. -/
def Grantable (s : State) : Prop :=
  ∀ q, s.pendingAdmission = some q → q.enrol = none → ∃ r, s.rack? q.tag = some r ∧ r.admissible = true

theorem admits_of_chosen {s : State} {t : Tunnel} (h : s.chosenTunnel = some t) : s.admits t = true := by
  have := eligible_of_chosen h
  simp only [State.eligible, Bool.and_eq_true] at this
  exact this.1.1.1

theorem carries_granted {q : PendingAdmission} (hq : e.pendingAdmission = some q) {t : Tunnel}
    (ht : e.toState.chosenTunnel = some t) (hroom : e.room = ⟨false, false⟩) (hg : Grantable e.toState) :
    e.carries (e.grant q t).pass.pass.pass.idleIfWanted (·.reconsidered) := by
  have hsend : e.carries (e.dropPending.send q.port (.grantAdmit q.tag t)) fun s =>
      ({ s with pendingAdmission := none }, [(q.port, .grantAdmit q.tag t)]) := ⟨rfl, rfl⟩
  have hadmits : (e.dropPending.send q.port (.grantAdmit q.tag t)).toState.admits t = true := admits_of_chosen ht
  have finish {e' : Event} {r : Rack} (h : Admitted (e.dropPending.send q.port (.grantAdmit q.tag t)) e' t r)
      (hword : e.toState.reconsidered = e.toState.granted q t r) :
      e.carries e'.pass.pass.pass.idleIfWanted (·.reconsidered) := by
    refine carries_congr (hsend.followed (h.rest hroom rfl)) ?_
    rw [hword, State.granted]
    simp only [followed_assoc]
    rfl
  cases ha : q.enrol with
  | some a =>
    rw [show e.grant q t = (e.dropPending.send q.port (.grantAdmit q.tag t)).admitNew t q.tag a by
      simp only [Event.grant, ha]]
    exact finish (admitted_new hadmits q.tag a) (by simp only [State.reconsidered, hq, ht, ha]; rfl)
  | none =>
    obtain ⟨r, hr, hadm⟩ := hg q hq ha
    have hr' : (e.dropPending.send q.port (.grantAdmit q.tag t)).toState.rack? q.tag = some r := hr
    rw [show e.grant q t = (e.dropPending.send q.port (.grantAdmit q.tag t)).admitRack t r by
      simp only [Event.grant, ha, hr']]
    exact finish (admitted_rack hadmits hadm) (by simp only [State.reconsidered, hq, ht, ha, hr])

/-! ### The end of an event -/

/-- What is left of an event's end once the gates have tested: one re-evaluation, if it is owed, and idle times. -/
theorem carries_reevaluate (hroom : e.room = ⟨false, false⟩) (hg : Grantable e.toState)
    (hi : e.wantIdle = true → e.pendingAdmission = none) :
    e.carries e.reevaluate.pass.pass.pass.idleIfWanted fun s =>
      followed (whenever e.wantReeval (·.reconsidered) s) (whenever e.wantIdle (·.idledBoth)) := by
  cases hw : e.wantReeval with
  | false =>
    rw [reevaluate_of_unwanted hw]
    exact carries_congr (Calm.rest ⟨hroom, hw⟩) (followed_pure _ _).symm
  | true =>
    cases hq : e.pendingAdmission with
    | none =>
      rw [reevaluate_of_none hq]
      have hrest := Calm.rest (e := { e with wantReeval := false }) ⟨hroom, rfl⟩
      refine carries_congr ⟨hrest.1, hrest.2⟩ ?_
      rw [whenever_true, State.reconsidered_of_none hq, followed_pure]
    | some q =>
      have hidle : e.wantIdle = false := Bool.eq_false_iff.mpr fun h => by
        rw [hi h] at hq
        cases hq
      have hword : e.toState.reconsidered =
          followed (whenever true (·.reconsidered) e.toState) (whenever e.wantIdle (·.idledBoth)) := by
        rw [hidle]
        exact (followed_stay _).symm
      cases hc : e.toState.chosenTunnel with
      | none =>
        have hu : Unserved { e with wantReeval := false } := ⟨by rw [hq]; nofun, hc, hroom, hidle⟩
        rw [Unserved.reevaluate (e := e) ⟨by rw [hq]; nofun, hc, hroom, hidle⟩ hw]
        have hwoken := carries_wakened hu
        refine carries_congr ⟨hwoken.1, hwoken.2⟩ ?_
        rw [← hword]
        simp only [State.reconsidered, hq, hc]
      | some t =>
        have hgrant := carries_granted (e := { e with wantReeval := false }) hq hc hroom hg
        rw [show e.reevaluate = ({ e with wantReeval := false } : Event).grant q t by
          simp only [Event.reevaluate, hw, if_true, hq, hc]]
        exact carries_congr ⟨hgrant.1, hgrant.2⟩ hword

/-- The gates that hear of room test again; one re-evaluation follows where it is owed or a rack was released. -/
def concluding (reeval : Bool) (room : PerTunnel Bool) (s : State) : Made :=
  if reeval then followed (tested room s) (·.reconsidered) else s.reevaluated (tested room s)

/-- A re-evaluation that is owed exactly where the statements make one. -/
theorem concluding_eq {reeval owed : Bool} {room : PerTunnel Bool} {s : State}
    (h : owed = true ↔ reeval = true ∨ ¬ LanesAsLong s (tested room s).1) :
    followed (tested room s) (whenever owed (·.reconsidered)) = concluding reeval room s := by
  unfold concluding
  cases reeval with
  | true => rw [h.mpr (.inl rfl), if_pos rfl]; rfl
  | false =>
    rw [if_neg nofun, State.reevaluated]
    by_cases hl : LanesAsLong s (tested room s).1
    · rw [if_pos (by exact hl), Bool.eq_false_iff.mpr fun ho => (h.mp ho).resolve_left nofun hl]
      exact followed_stay _
    · rw [if_neg (by exact hl), h.mpr (.inr hl)]
      rfl

theorem pairIfWanted_word (e : Event) : e.carries e.pairIfWanted (whenever e.wantPairing (·.paired)) ∧
    dues e.pairIfWanted = dues e := by
  unfold Event.pairIfWanted whenever
  cases e.wantPairing with
  | false => exact ⟨carries_stay e, rfl⟩
  | true =>
    obtain ⟨h1, h2, h3⟩ := e.pairAll_owes e.toState.unassigned
    refine ⟨e.pair_carries, ?_⟩
    simp only [dues, if_true, Event.pair, h1, h2, h3]

theorem pairAll_pending (rs : List Rack) : ∀ e : Event, (e.pairAll rs).pendingAdmission = e.pendingAdmission := by
  induction rs with
  | nil => exact fun _ => rfl
  | cons r rs ih =>
    intro e
    refine (ih _).trans ?_
    unfold Event.pairOne
    split <;> rfl

theorem pairIfWanted_pending (e : Event) : e.pairIfWanted.pendingAdmission = e.pendingAdmission := by
  unfold Event.pairIfWanted
  split
  · exact pairAll_pending _ e
  · rfl

/-- The end of an event: pairing, the gates told of room, re-evaluation, idle times. -/
theorem settled_eq (hg : Grantable e.pairIfWanted.roomReports.toState)
    (hi : e.wantIdle = true → e.pendingAdmission = none) :
    settled e = followed (followed (followed (e.toState, e.out) (whenever e.wantPairing (·.paired)))
      (concluding e.wantReeval e.room)) (whenever e.wantIdle (·.idledBoth)) := by
  obtain ⟨hpair, hdues⟩ := pairIfWanted_word e
  obtain ⟨hreeval, hroom, hidle⟩ := dues_parts hdues
  have hpending := pairIfWanted_pending e
  have hsettle : e.settle = (e.pairIfWanted.roomReports).reevaluate.pass.pass.pass.idleIfWanted := rfl
  generalize e.pairIfWanted = e₁ at hpair hdues hreeval hroom hidle hpending hsettle hg
  obtain ⟨hgates, hsilent⟩ := gated_roomReports e₁
  have hidle' : e₁.roomReports.wantIdle = e.wantIdle := hgates.idle.trans hidle
  have hrest := carries_reevaluate hsilent hg fun h =>
    hgates.pending.trans (hpending.trans (hi (hidle'.symm.trans h)))
  have hreeval' := hgates.reeval
  rw [hgates.made.1, hroom, hreeval] at hreeval'
  have hword : followed (tested e.room e₁.toState) (whenever e₁.roomReports.wantReeval (·.reconsidered)) =
      concluding e.wantReeval e.room e₁.toState := concluding_eq hreeval'
  have hconclude : e₁.carries e₁.roomReports.reevaluate.pass.pass.pass.idleIfWanted fun s =>
      followed (concluding e.wantReeval e.room s) (whenever e.wantIdle (·.idledBoth)) := by
    refine carries_congr (hgates.made.followed hrest) ?_
    rw [← followed_assoc, hidle', hroom, hword]
  have hall := hpair.followed hconclude
  rw [← hsettle] at hall
  unfold settled
  rw [hall.1, hall.2]
  simp only [followed, List.append_assoc]

end Sys2Proof.Proofs.Endings
end

section
/-! Events by what they owe at their end: nothing but pairing and room, a re-evaluation, a test of the gates. -/

namespace Sys2Proof.Proofs.Owing

open Sys2Proof.Machine Sys2Proof.Proofs.Tables Sys2Proof.Proofs.Acts Sys2Proof.Proofs.ActsKeepTheTable
  Sys2Proof.Proofs.Chains Sys2Proof.Proofs.Requests Sys2Proof.Proofs.Pairing Sys2Proof.Proofs.Words
  Sys2Proof.Proofs.GateWords Sys2Proof.Proofs.GateTests Sys2Proof.Proofs.Endings Sys2Proof.Proofs.Beginnings

variable {s₀ : State} {e e' : Event}

theorem followed_whenever_false (x : Made) (f : State → Made) : followed x (whenever false f) = x := followed_stay x

theorem grantable_of_pendingSound {s : State} (h : s.pendingSound = true) : Grantable s := by
  intro q hq he
  obtain ⟨-, hs⟩ := (pendingSound_iff hq).mp h
  rcases hs with ⟨hsome, -⟩ | ⟨-, hr⟩
  · rw [he] at hsome
    cases hsome
  · exact hr

theorem grantable_of_none {s : State} (h : s.pendingAdmission = none) : Grantable s := by
  intro q hq
  rw [h] at hq
  cases hq

theorem grantable_of_lawful (h : Lawful s₀ e) : Grantable e.pairIfWanted.roomReports.toState := by
  have hacts : Acts s₀ e e.pairIfWanted.roomReports :=
    acts_pairIfWanted.trans ((acts_roomReport .a).trans (acts_roomReport .b))
  exact grantable_of_pendingSound ((recordLaw_iff _).mp (lawful_acts h hacts).law).2

/-- An event that has begun at a state with nothing to pair. -/
theorem lawful_and_paired {s : State} (h : s.pairedLaw) (ha : Acts s s.event e) : Lawful s e ∧ Paired e :=
  ⟨lawful_acts (lawful_event h.1) ha,
    paired_acts (lawful_event h.1) (.inr ((nothing_to_pair_iff s).mp h.2)) ha⟩

theorem paired_whenever (h : Paired e) : whenever e.wantPairing (·.paired) e.toState = e.toState.paired := by
  cases hw : e.wantPairing with
  | true => rfl
  | false =>
    refine (e.toState.offeredAll_of_none _ ((nothing_to_pair_iff _).mpr (h.resolve_left ?_))).symm
    rw [hw]
    nofun

/-- An event that owes pairing, if there is anything to pair, and the room that a rack has left. -/
theorem settled_concluded (h : Lawful s₀ e) (hp : Paired e) {left : Place} {idle : Bool}
    (hd : dues e = (false, roomFrom left ⟨false, false⟩, idle)) (hi : idle = true → e.pendingAdmission = none) :
    settled e = followed (followed (e.toState, e.out) (·.concluded left)) (whenever idle (·.idledBoth)) := by
  obtain ⟨hreeval, hroom, hidle⟩ :
      e.wantReeval = false ∧ e.room = roomFrom left ⟨false, false⟩ ∧ e.wantIdle = idle := by
    simpa only [dues, Prod.mk.injEq] using hd
  rw [settled_eq (grantable_of_lawful h) fun hw => hi (hidle ▸ hw), hreeval, hroom, hidle]
  congr 1
  rw [followed_assoc]
  unfold followed State.concluded
  simp only [paired_whenever hp, concluding, Bool.false_eq_true, if_false, tested_roomFrom, followed]

theorem concluding_silent (reeval : Bool) (s : State) :
    concluding reeval ⟨false, false⟩ s = whenever reeval (·.reconsidered) s := by
  unfold concluding
  rw [show tested ⟨false, false⟩ s = (s, []) from rfl]
  cases reeval with
  | true => exact followed_pure _ _
  | false => exact if_pos (LanesAsLong.refl s)

/-- An event that owes at most a re-evaluation and idle times. -/
theorem settled_reconsidered (hp : e.wantPairing = false) {reeval idle : Bool}
    (hd : dues e = (reeval, ⟨false, false⟩, idle)) (hg : Grantable e.toState)
    (hi : idle = true → e.pendingAdmission = none) :
    settled e = followed (followed (e.toState, e.out) (whenever reeval (·.reconsidered)))
      (whenever idle (·.idledBoth)) := by
  obtain ⟨hreeval, hroom, hidle⟩ : e.wantReeval = reeval ∧ e.room = ⟨false, false⟩ ∧ e.wantIdle = idle := by
    simpa only [dues, Prod.mk.injEq] using hd
  have hpair : e.pairIfWanted = e := by simp only [Event.pairIfWanted, hp, Bool.false_eq_true, if_false]
  have hg' : Grantable e.pairIfWanted.roomReports.toState := by
    rw [hpair, roomReports_of_silent hroom]
    exact hg
  rw [settled_eq hg' fun hw => hi (hidle ▸ hw), hp, hreeval, hroom, hidle]
  congr 1
  rw [followed_assoc]
  simp only [followed, concluding_silent, whenever_false, List.nil_append]

/-- A change of the gates in an event that owes nothing else. -/
theorem settled_gated {f : State → Made} (h : Gated e e' f) (ho : e.out = []) (hp : e'.wantPairing = false)
    (hd : dues e = (false, ⟨false, false⟩, false)) (hr : e'.room = ⟨false, false⟩) (hg : Grantable e'.toState) :
    settled e' = e.toState.reevaluated (f e.toState) := by
  obtain ⟨hreeval, -, hidle⟩ : e.wantReeval = false ∧ e.room = ⟨false, false⟩ ∧ e.wantIdle = false := by
    simpa only [dues, Prod.mk.injEq] using hd
  have hidle' : e'.wantIdle = false := h.idle.trans hidle
  have hword : (e'.toState, e'.out) = f e.toState := by rw [h.made.1, h.made.2, ho, List.nil_append]
  rw [settled_reconsidered (reeval := e'.wantReeval) (idle := false) hp (by rw [dues, hr, hidle']) hg nofun, hword]
  rw [followed_whenever_false]
  have hlanes := h.reeval
  rw [hreeval, h.made.1] at hlanes
  unfold State.reevaluated
  by_cases hl : LanesAsLong e.toState (f e.toState).1
  · rw [if_pos (by exact hl), Bool.eq_false_iff.mpr fun ho => (hlanes.mp ho).resolve_left nofun hl]
    exact followed_stay _
  · rw [if_neg (by exact hl), hlanes.mpr (.inr hl)]
    rfl

/-! ### The pending admission cancelled (R94) -/

/-- Nothing hears of room from these places. -/
theorem concluded_of_silent {left : Place} (h : ∀ s : State, s.retestedAfter left = (s, [])) (s : State) :
    s.concluded left = s.paired := by
  refine followed_nothing ?_
  rw [h]
  exact if_pos (LanesAsLong.refl _)

section Cancelled

variable {q : PendingAdmission} {tag : Nat} (hq : e.pendingAdmission = some q) (ht : q.tag = tag) (ho : e.out = [])
include hq ht ho

theorem settled_cancelled_concluded (h : Lawful s₀ (e.cancelPending tag)) (hp : Paired (e.cancelPending tag))
    {left : Place} (hd : dues e = (false, roomFrom left ⟨false, false⟩, false)) :
    settled (e.cancelPending tag) = e.toState.cancelled q (·.concluded left) := by
  rw [cancelPending_dues hq ht] at h hp ⊢
  have hd' : dues (e.send q.port (.admitCancelled tag)).dropPending =
      (false, roomFrom left ⟨false, false⟩, true) := by
    simp only [dues, Prod.mk.injEq] at hd ⊢
    exact ⟨hd.1, hd.2.1, rfl⟩
  rw [settled_concluded h hp hd' fun _ => rfl, State.cancelled, ht]
  simp only [Event.dropPending, Event.send, ho, List.nil_append]
  rfl

theorem settled_cancelled (hp : e.wantPairing = false) (hd : dues e = (false, ⟨false, false⟩, false)) :
    settled (e.cancelPending tag) = e.toState.cancelled q := by
  rw [cancelPending_dues hq ht]
  have hd' : dues (e.send q.port (.admitCancelled tag)).dropPending = (false, ⟨false, false⟩, true) := by
    simp only [dues, Prod.mk.injEq] at hd ⊢
    exact ⟨hd.1, hd.2.1, rfl⟩
  rw [settled_reconsidered (e := (e.send q.port (.admitCancelled tag)).dropPending) hp hd'
    (grantable_of_none rfl) fun _ => rfl, followed_whenever_false, State.cancelled, ht,
    followed_stay]
  simp only [Event.dropPending, Event.send, ho, List.nil_append]
  rfl

end Cancelled

/-- An event that owes pairing and room, with no admission pending of its rack. -/
theorem settled_uncancelled {tag : Nat} (hn : e.pendingAdmission.map (·.tag) ≠ some tag) (ho : e.out = [])
    (h : Lawful s₀ (e.cancelPending tag)) (hp : Paired (e.cancelPending tag)) {left : Place}
    (hd : dues e = (false, roomFrom left ⟨false, false⟩, false)) :
    settled (e.cancelPending tag) = e.toState.concluded left := by
  rw [Event.cancelPending_of_ne hn] at h hp ⊢
  rw [settled_concluded h hp hd nofun, followed_whenever_false, ho, followed_pure]

end Sys2Proof.Proofs.Owing
end

section
/-! Enrolment: the tests of an attempt in their order (R30 to R32, R36), and what SIGHT and EMPTIED of an unknown tag
make. -/

namespace Sys2Proof.Proofs.Enrolment

open Sys2Proof.Machine Sys2Proof.Proofs.Tables Sys2Proof.Proofs.Acts Sys2Proof.Proofs.ActsKeepTheTable
  Sys2Proof.Proofs.Requests Sys2Proof.Proofs.Words Sys2Proof.Proofs.Owing Sys2Proof.Proofs.Pairing
  Sys2Proof.Proofs.Beginnings

variable {s : State} {tag : Nat} {i : Fin 8}

/-! ### The matching window -/

theorem contains_iff (w : TagWindow) (tag : Nat) : w.contains tag = true ↔ w.covers tag := by
  simp only [TagWindow.contains, Bool.and_eq_true, decide_eq_true_eq, and_assoc, TagWindow.covers]

theorem classify_none (h : ∀ j : Fin 8, ¬ s.config.tagWindows[j].covers tag) : s.config.classify tag = none := by
  refine List.find?_eq_none.mpr fun w hw hc => ?_
  obtain ⟨j, hj, rfl⟩ := List.mem_iff_getElem.mp hw
  rw [contains_iff] at hc
  exact h ⟨j, by simpa using hj⟩ hc

theorem classify_matched (h : s.matchedBy tag i) : s.config.classify tag = some s.config.tagWindows[i] := by
  obtain ⟨hc, hfirst⟩ := h
  refine List.find?_eq_some_iff_getElem.mpr ⟨(contains_iff _ _).mpr hc, i.val, by simp, rfl, fun j hj => ?_⟩
  rw [Bool.not_eq_true', Bool.eq_false_iff]
  intro hcj
  rw [contains_iff] at hcj
  exact hfirst ⟨j, hj.trans i.isLt⟩ hj hcj

theorem load_eq (s : State) : s.load = s.tableLoad := (tableLoad_eq s).symm

/-! ### The tests in their order -/

section Tests

variable {own : TagWindow → Option Status}

theorem enrolTests_foreign (h : ∀ j : Fin 8, ¬ s.config.tagWindows[j].covers tag) :
    s.event.enrolTests tag own = .error (s.event.raise .foreignTag, .foreignTag) := by
  have hc : s.event.config.classify tag = none := classify_none h
  simp only [Event.enrolTests, hc]

theorem enrolTests_barred (h : s.matchedBy tag i) (he : s.config.tagWindows[i].enrol = false) :
    s.event.enrolTests tag own = .error (s.event, .notEnrollable) := by
  have hc : s.event.config.classify tag = some s.config.tagWindows[i] := classify_matched h
  simp only [Event.enrolTests, hc]
  exact if_neg (by rw [he]; nofun)

theorem enrolTests_refused (h : s.matchedBy tag i) (he : s.config.tagWindows[i].enrol = true) {st : Status}
    (ho : own s.config.tagWindows[i] = some st) : s.event.enrolTests tag own = .error (s.event, st) := by
  have hc : s.event.config.classify tag = some s.config.tagWindows[i] := classify_matched h
  simp only [Event.enrolTests, hc]
  rw [if_pos (by exact he), ho]

theorem enrolTests_full (h : s.matchedBy tag i) (he : s.config.tagWindows[i].enrol = true)
    (ho : own s.config.tagWindows[i] = none) (hl : 160 ≤ s.load) :
    s.event.enrolTests tag own = .error (s.event.raise .tableFull, .tableFull) := by
  have hc : s.event.config.classify tag = some s.config.tagWindows[i] := classify_matched h
  rw [load_eq] at hl
  simp only [Event.enrolTests, hc]
  rw [if_pos (by exact he), ho]
  exact if_neg (not_lt.mpr hl)

theorem enrolTests_passed (h : s.matchedBy tag i) (he : s.config.tagWindows[i].enrol = true)
    (ho : own s.config.tagWindows[i] = none) (hl : s.load < 160) :
    s.event.enrolTests tag own = .ok s.config.tagWindows[i].attributes := by
  have hc : s.event.config.classify tag = some s.config.tagWindows[i] := classify_matched h
  rw [load_eq] at hl
  simp only [Event.enrolTests, hc]
  rw [if_pos (by exact he), ho]
  exact if_pos hl

end Tests

/-- The request's own test of an enrolment attempt: SIGHT's class and demand, EMPTIED's room (R32, R36). -/
def ownTest (s : State) (w : Window) : ReqKind → TagWindow → Option Status
  | .sight => s.event.sightTests w
  | .emptied => fun _ => if s.hasRoom .returnLoop then none else some .returnFull
  | _ => fun _ => none

theorem sightTests_class {w : Window} {tw : TagWindow} (h : tw.cls ≠ s.windows[w].cls) :
    s.event.sightTests w tw = some .classMismatch := if_pos h

theorem sightTests_demand {w : Window} {tw : TagWindow} (h : tw.cls = s.windows[w].cls)
    (hd : s.windows[w].mode = .stop ∨ s.entriesOf w = []) : s.event.sightTests w tw = some .noDemand :=
  (if_neg (not_not_intro h)).trans (if_pos hd)

theorem sightTests_passed {w : Window} {tw : TagWindow} (h : tw.cls = s.windows[w].cls)
    (hm : s.windows[w].mode ≠ .stop) (hd : s.entriesOf w ≠ []) : s.event.sightTests w tw = none :=
  (if_neg (not_not_intro h)).trans (if_neg (not_or_intro hm hd))

theorem hasRoom_return_iff (s : State) : s.hasRoom .returnLoop = true ↔ s.count .returnLoop < 32 :=
  decide_eq_true_iff

/-- An enrolment attempt that its tests refuse: the answer, and the notice of the test. -/
theorem exec_refused {c : Instr} {p : Port} {role : Role} {k : ReqKind} {payload : List Byte} {w : Window}
    {tag : BitVec 24} (hf : s.free p role) (hw : c.wire = some (p, k, payload)) (ht : validTag tag)
    (hr : s.rack? tag.toNat = none)
    (hc : (c = .sight p (BitVec.ofNat 8 w.val) tag ∧ role = .windows) ∨
      (c = .admitRequest p tag ∧ role = .infeed ∧ s.pendingAdmission = none) ∨
      (c = .emptied p tag ∧ (role = .unload .a ∨ role = .unload .b)))
    {e : Event} {st : Status} (h : s.event.enrolTests tag.toNat (ownTest s w k) = .error (e, st)) :
    exec c s = .next (replied (settled e) p k payload st) := by
  have hr' : s.event.toState.rack? tag.toNat = none := hr
  rcases hc with ⟨rfl, rfl⟩ | ⟨rfl, rfl, hn⟩ | ⟨rfl, hrole⟩
  · cases hw
    rw [exec_request hf rfl (by decide) (parse_sight_of_valid (toNat_ofNat_window w) ht) rfl]
    change s.event.enrolTests tag.toNat (s.event.sightTests w) = _ at h
    simp only [Event.owner, Event.serveSight, hr', Event.sightUnknown, h]
  · cases hw
    have hb : s.deferredBusy p .admitRequest = false := by
      simp only [State.deferredBusy, hn]
      rfl
    have hn' : s.event.pendingAdmission.isSome = false := by
      rw [show s.event.pendingAdmission = none from hn]
      rfl
    rw [exec_request hf rfl (by decide) (parse_tag_of_valid (g := .admitRequest) rfl ht) hb]
    change s.event.enrolTests tag.toNat (fun _ => none) = _ at h
    simp only [Event.owner, Event.serveAdmit, hn', hr', h, Bool.false_eq_true, if_false]
  · cases hw
    have hk : ReqKind.emptied ∈ role.kinds := by rcases hrole with rfl | rfl <;> decide
    rw [exec_request hf rfl hk (parse_tag_of_valid (g := .emptied) rfl ht) rfl]
    change s.event.enrolTests tag.toNat (fun _ => if s.event.toState.hasRoom .returnLoop then none
      else some .returnFull) = _ at h
    simp only [Event.owner, Event.serveEmptied, hr', Event.emptiedUnknown, h]

/-- Settles O27: each clause is one answer of the four tests. -/
theorem enrolmentRefusalsInOrder : Obligations.EnrolmentRefusalsInOrder := by
  intro c p role k payload w tag i s hf hw ht hr hc
  have refused {st : Status} (h : s.event.enrolTests tag.toNat (ownTest s w k) = .error (s.event, st)) :
      exec c s = .next (s.answered p k payload st) := by
    rw [exec_refused hf hw ht hr hc h, settled_event, replied_nothing]
  have noticed {st : Status} {n : Notice}
      (h : s.event.enrolTests tag.toNat (ownTest s w k) = .error (s.event.raise n, st)) :
      exec c s = .next ((s.raise n).answered p k payload st) := by
    rw [exec_refused hf hw ht hr hc h, settled_raise, replied_nothing]
  refine ⟨fun h => noticed (enrolTests_foreign h), fun h he => refused (enrolTests_barred h he), ?_, ?_, ?_, ?_⟩
  · rintro h he rfl hcls
    exact refused (enrolTests_refused h he (sightTests_class hcls))
  · rintro h he rfl hcls hd
    exact refused (enrolTests_refused h he (sightTests_demand hcls hd))
  · rintro h he rfl hroom
    exact refused (enrolTests_refused h he (if_neg (mt (hasRoom_return_iff s).mp (not_lt.mpr hroom))))
  · intro h he hsight hemptied hl
    refine noticed (enrolTests_full h he ?_ hl)
    rcases hc with ⟨rfl, rfl⟩ | ⟨rfl, rfl, -⟩ | ⟨rfl, -⟩ <;> cases hw
    · obtain ⟨hcls, hm, hd⟩ := hsight rfl
      exact sightTests_passed hcls hm hd
    · rfl
    · exact if_pos ((hasRoom_return_iff s).mpr (hemptied rfl))

/-! ### SIGHT of an unknown tag (R32) -/

/-- The position a window offers: SPARE when FILL is occupied. -/
theorem freePosition_eq {w : Window} {spare : Bool} (hf : spare = false → s.count (.windowFill w) = 0)
    (hs : spare = true → s.count (.windowFill w) ≠ 0 ∧ s.count (.windowSpare w) = 0) :
    s.freePosition w = some (if spare then (.empty, .windowSpare w) else (.filling, .windowFill w)) := by
  unfold State.freePosition
  cases spare with
  | false => exact if_pos (decide_eq_true (by rw [hf rfl]; exact Nat.zero_lt_one))
  | true =>
    obtain ⟨hfill, hspare⟩ := hs rfl
    refine (if_neg fun h => hfill (Nat.lt_one_iff.mp (of_decide_eq_true h))).trans (if_pos ?_)
    exact decide_eq_true (by rw [hspare]; exact Nat.zero_lt_one)

/-- The event of a SIGHT that enrols its rack, before the pending admission is cancelled. -/
def sighted (s : State) (w : Window) (r : Rack) : Event := (s.event.consumeEntry w).join r

theorem sighted_toState {w : Window} {r : Rack} (ha : ∀ x ∈ s.racks, x.tag ≠ r.tag) (hp : r.place ≠ .hold) :
    (sighted s w r).toState = { s with demand := s.demand.eraseP (·.window = w), racks := s.racks ++ [r] } := by
  have hracks : rejoined (s.event.consumeEntry w).racks r = s.racks ++ [r] := rejoined_of_absent ha
  rw [sighted, Event.join_toState, if_neg hp, hracks]
  rfl

theorem sighted_owes {w : Window} {r : Rack} (hp : r.place ≠ .returnLoop) :
    (sighted s w r).out = [] ∧ dues (sighted s w r) = (false, ⟨false, false⟩, false) ∧
      (sighted s w r).wantPairing = false := by
  refine ⟨Event.join_out _ _, dues_join _ _, ?_⟩
  have := Sys2Proof.Proofs.Desk.desk_join hp (s.event.consumeEntry w)
  exact (Sys2Proof.Proofs.Desk.desk_parts this).2.2

theorem sighted_pending (s : State) (w : Window) (r : Rack) : (sighted s w r).pendingAdmission = s.pendingAdmission :=
  join_pending _ _

section Sight

variable {p : Port} {w : Window} {tag : BitVec 24} {i : Fin 8} {n : Nat} {spare : Bool}
  (hf : s.free p .windows) (ht : validTag tag) (hr : s.rack? tag.toNat = none) (hm : s.matchedBy tag.toNat i)
  (he : s.config.tagWindows[i].enrol = true) (hcls : s.config.tagWindows[i].cls = s.windows[w].cls)
  (hmode : s.windows[w].mode ≠ .stop) (hd : s.entriesOf w ≠ []) (hl : s.load < 160) (hn : s.lowestFree n)
  (hfill : spare = false → s.count (.windowFill w) = 0)
  (hspare : spare = true → s.count (.windowFill w) ≠ 0 ∧ s.count (.windowSpare w) = 0)
include hf ht hr hm he hcls hmode hd hl hn hfill hspare

/-- SIGHT of an unknown tag that passes the tests. -/
theorem exec_sight_enrols : exec (.sight p (BitVec.ofNat 8 w.val) tag) s =
    .next (replied (settled ((sighted s w (newRack tag.toNat n s.config.tagWindows[i].attributes
        (if spare then .empty else .filling) (if spare then .windowSpare w else .windowFill w) s.now)).cancelPending
          tag.toNat)) p .sight (BitVec.ofNat 8 w.val :: tagBytes tag.toNat) .done (.position spare)) := by
  have hr' : s.event.toState.rack? tag.toNat = none := hr
  have htests := enrolTests_passed (own := s.event.sightTests w) hm he (sightTests_passed hcls hmode hd) hl
  have hfree : s.event.toState.freePosition w = _ := freePosition_eq hfill hspare
  have hslot : (s.event.consumeEntry w).toState.freeSlot = n := State.freeSlot_eq hn
  rw [exec_request hf rfl (by decide) (parse_sight_of_valid (toNat_ofNat_window w) ht) rfl]
  simp only [Event.owner, Event.serveSight, hr', Event.sightUnknown, htests, hfree]
  cases spare
  all_goals
    simp only [Event.enrol, hslot]
    rfl

end Sight

/-- Settles O28. -/
theorem sightEnrols : Obligations.SightEnrols := by
  intro p w tag i n spare s hf ht hr hm he hcls hmode hd hl hn hpend hfill hspare
  rw [exec_sight_enrols hf ht hr hm he hcls hmode hd hl hn hfill hspare]
  set r := newRack tag.toNat n s.config.tagWindows[i].attributes (if spare then .empty else .filling)
    (if spare then .windowSpare w else .windowFill w) s.now with hrdef
  have hplace : r.place = if spare then .windowSpare w else .windowFill w := rfl
  have hhold : r.place ≠ .hold := by rw [hplace]; split <;> nofun
  have hreturn : r.place ≠ .returnLoop := by rw [hplace]; split <;> nofun
  obtain ⟨hout, hdues, hpair⟩ := sighted_owes (s := s) (w := w) hreturn
  obtain ⟨hreeval, hroom, hidle⟩ := dues_parts (e := s.event) hdues
  rw [Event.cancelPending_of_ne (by rw [sighted_pending]; exact hpend),
    settled_of_nothing_owed hpair hreeval hroom hidle, hout, sighted_toState (State.rack?_none hr) hhold,
    replied_nothing]
  rfl

/-! ### EMPTIED of an unknown tag (R36) -/

/-- The event of an EMPTIED that enrols its rack, before the pending admission is cancelled. -/
def returned (s : State) (r : Rack) : Event := (s.event.raise .unproven).join r

theorem returned_toState {r : Rack} (ha : ∀ x ∈ s.racks, x.tag ≠ r.tag) (hp : r.place = .returnLoop) :
    (returned s r).toState = { s with racks := s.racks ++ [r], notices := s.notices ||| 4 } := by
  have hracks : rejoined (s.event.raise .unproven).racks r = s.racks ++ [r] := rejoined_of_absent ha
  rw [returned, Event.join_toState, if_neg (by rw [hp]; nofun), hracks]
  rfl

section Emptied

variable {p : Port} {u : Tunnel} {tag : BitVec 24} {i : Fin 8} {n : Nat}
  (hf : s.free p (.unload u)) (ht : validTag tag) (hr : s.rack? tag.toNat = none) (hm : s.matchedBy tag.toNat i)
  (he : s.config.tagWindows[i].enrol = true) (hroom : s.count .returnLoop < 32) (hl : s.load < 160)
  (hn : s.lowestFree n)
include hr hm he hroom hl hn

/-- EMPTIED of an unknown tag that passes the tests. -/
theorem serveEmptied_enrols : s.event.serveEmptied u tag.toNat = ⟨(returned s (newRack tag.toNat n
      s.config.tagWindows[i].attributes .empty .returnLoop s.now)).cancelPending tag.toNat, .done,
        .emptied .returnLoop 0 false⟩ := by
  have hr' : s.event.toState.rack? tag.toNat = none := hr
  have htests := enrolTests_passed
    (own := fun _ => if s.event.toState.hasRoom .returnLoop then none else some .returnFull) hm he
    (if_pos ((hasRoom_return_iff s).mpr hroom)) hl
  have hslot : (s.event.raise .unproven).toState.freeSlot = n := State.freeSlot_eq hn
  simp only [Event.serveEmptied, hr', Event.emptiedUnknown, htests, Event.enrol, hslot]
  rfl

include hf ht

theorem exec_emptied_enrols : exec (.emptied p tag) s = .next (replied (settled ((returned s (newRack tag.toNat n
      s.config.tagWindows[i].attributes .empty .returnLoop s.now)).cancelPending tag.toNat)) p .emptied
        (tagBytes tag.toNat) .done (.emptied .returnLoop 0 false)) := by
  rw [exec_request hf rfl (by cases u <;> decide) (parse_tag_of_valid (g := .emptied) rfl ht) rfl]
  rw [Event.owner, show (Role.unload u).tunnelOrA = u from rfl, serveEmptied_enrols hr hm he hroom hl hn]

omit hf

/-- The enrolment keeps the law of the Rack Table and leaves nothing to pair but what it owes. -/
theorem lawful_returned (h : s.pairedLaw) : Lawful s ((returned s (newRack tag.toNat n
      s.config.tagWindows[i].attributes .empty .returnLoop s.now)).cancelPending tag.toNat) ∧
    Paired ((returned s (newRack tag.toNat n
      s.config.tagWindows[i].attributes .empty .returnLoop s.now)).cancelPending tag.toNat) := by
  have hacts := acts_emptied h.1 .a ((isTag_iff tag).mpr ht)
  rw [serveEmptied_enrols hr hm he hroom hl hn] at hacts
  exact lawful_and_paired h hacts

end Emptied

theorem returned_owes (s : State) (r : Rack) :
    (returned s r).out = [] ∧ dues (returned s r) = (false, roomFrom .store ⟨false, false⟩, false) ∧
      (returned s r).pendingAdmission = s.pendingAdmission :=
  ⟨Event.join_out _ _, dues_join _ _, join_pending _ _⟩

/-- Settles O29. -/
theorem emptiedEnrols : Obligations.EmptiedEnrols := by
  rintro p u tag i n r s s' hf ht hr hm he hroom hl hn hpend hlaw rfl rfl
  obtain ⟨hlawful, hpaired⟩ := lawful_returned ht hr hm he hroom hl hn hlaw
  obtain ⟨hout, hdues, hpending⟩ := returned_owes s
    (newRack tag.toNat n s.config.tagWindows[i].attributes .empty .returnLoop s.now)
  rw [exec_emptied_enrols hf ht hr hm he hroom hl hn,
    settled_uncancelled (by rw [hpending]; exact hpend) hout hlawful hpaired hdues,
    concluded_of_silent fun _ => rfl, returned_toState (State.rack?_none hr) rfl]
  rfl

end Sys2Proof.Proofs.Enrolment
end

section
/-! Records that leave the table or are moved by people: WITHDRAW, RETIRE, lost-record expiry, RELOCATE (R15 to R20,
R52 to R55), and the pending admission that goes with them (R94). -/

namespace Sys2Proof.Proofs.Departures

open Sys2Proof.Machine Sys2Proof.Proofs.Tables Sys2Proof.Proofs.Acts Sys2Proof.Proofs.ActsKeepTheTable
  Sys2Proof.Proofs.Requests Sys2Proof.Proofs.Words Sys2Proof.Proofs.Owing Sys2Proof.Proofs.Pairing
  Sys2Proof.Proofs.Beginnings Sys2Proof.Proofs.Enrolment Sys2Proof.Proofs.Endings

variable {s : State} {r : Rack} {tag : BitVec 24} {g : Target}

theorem soundRack_of_lookup (h : s.recordLaw) {n : Nat} (hr : s.rack? n = some r) : SoundRack r :=
  (lawful_event h).soundRack (State.rack?_some hr).1

/-- The rack of a pending admission that is in the table may be admitted (R94). -/
theorem admissible_of_pending (h : s.recordLaw) {q : PendingAdmission} (hq : s.pendingAdmission = some q)
    (hr : s.rack? q.tag = some r) : r.admissible = true := by
  obtain ⟨-, hs⟩ := (pendingSound_iff hq).mp ((recordLaw_iff s).mp h).2
  rcases hs with ⟨-, hn⟩ | ⟨-, x, hx, ha⟩
  · cases hn.symm.trans hr
  · cases hx.symm.trans hr
    exact ha

theorem state_of_admissible (h : r.admissible = true) : r.state ≠ .washing := by
  rcases (admissible_iff r).mp h with ⟨hs, -⟩ | ⟨hs, -⟩ <;> rw [hs] <;> nofun

/-! ### Retirement (R15 to R18) -/

/-- What the removal of a record leaves, and what it leaves owing. -/
theorem removed (ho : OffLane r) : (s.event.remove r).toState = s.without r ∧ (s.event.remove r).out = [] ∧
    dues (s.event.remove r) = (false, roomFrom r.place ⟨false, false⟩, false) ∧
    (s.event.remove r).pendingAdmission = s.pendingAdmission :=
  ⟨departed_toState ho _, departed_out ho _, dues_departed ho _, departed_pending _ _⟩

theorem acts_retireRack {n : Nat} (hr : s.rack? n = some r) (ho : OffLane r) : Acts s s.event (s.event.retireRack r) :=
  acts_retire (State.rack?_some hr).1 ho

/-- A retirement with no admission pending of the rack. -/
theorem settled_retired (h : s.pairedLaw) {n : Nat} (hr : s.rack? n = some r) (hs : r.state ≠ .washing)
    (hn : s.pendingAdmission.map (·.tag) ≠ some n) :
    settled (s.event.retireRack r) = (s.without r).concluded r.place := by
  have ho := offLane_of_state (soundRack_of_lookup h.1 hr) hs
  obtain ⟨hl, hp⟩ := lawful_and_paired h (acts_retireRack hr ho)
  obtain ⟨hstate, hout, hdues, hpending⟩ := removed (s := s) ho
  obtain ⟨-, rfl⟩ := State.rack?_some hr
  rw [← hstate]
  exact settled_uncancelled (by rw [hpending]; exact hn) hout hl hp hdues

/-- A retirement that cancels the pending admission. -/
theorem settled_retired_pending (h : s.pairedLaw) {q : PendingAdmission} (hq : s.pendingAdmission = some q)
    (hr : s.rack? q.tag = some r) :
    settled (s.event.retireRack r) = (s.without r).cancelled q (·.concluded r.place) := by
  have ho := offLane_of_state (soundRack_of_lookup h.1 hr) (state_of_admissible (admissible_of_pending h.1 hq hr))
  obtain ⟨hl, hp⟩ := lawful_and_paired h (acts_retireRack hr ho)
  obtain ⟨hstate, hout, hdues, hpending⟩ := removed (s := s) ho
  rw [← hstate]
  exact settled_cancelled_concluded (hpending.trans hq) (State.rack?_some hr).2.symm hout hl hp hdues

theorem exec_withdraw {p : Port} {role : Role} (hf : s.free p role) (hrole : role = .windows ∨ role = .handheld)
    (ht : validTag tag) {v : Served} (hv : s.event.serveWithdraw tag.toNat = v) :
    exec (.withdraw p tag) s =
      .next (replied (settled v.event) p .withdraw (tagBytes tag.toNat) v.status v.fields) := by
  have hk : ReqKind.withdraw ∈ role.kinds := by rcases hrole with rfl | rfl <;> decide
  rw [exec_request hf rfl hk (parse_tag_of_valid (g := .withdraw) rfl ht) rfl]
  rw [Event.owner, hv]

theorem serveWithdraw_known {n : Nat} (hr : s.rack? n = some r) (hp : r.isProtected = false)
    (hs : r.state ≠ .washing) : s.event.serveWithdraw n = ⟨s.event.retireRack r, .done, .alone⟩ := by
  have hr' : s.event.toState.rack? n = some r := hr
  simp only [Event.serveWithdraw, hr', hp, Bool.false_eq_true, if_false, hs]

theorem retireTag_known {n : Nat} (ht : isTag n = true) (hr : s.rack? n = some r) (hs : r.state ≠ .washing) :
    s.retireTag n = ⟨s.event.retireRack r, .done, .alone⟩ := by
  simp only [State.retireTag, ht, if_true, hr, hs, if_false]

theorem exec_retire {x : Transfer} (hr : s.rstLow = false) (hx : x.isWhole 3) {v : Taken}
    (hv : s.retireTag tag.toNat = v) :
    exec (.retire x tag) s = .next ((ended (settled v.event)).respond x ⟨v.status, v.body⟩) := by
  subst hv
  exact take_command hr hx fun s => s.retireTag tag.toNat

/-! ### Lost-record expiry (R19, R20) -/

theorem lostDue_iff (s : State) (r : Rack) : s.lostDue r = true ↔ r.place = .unknown ∧ r.isProtected = false ∧
    s.config.lostTimeout ≠ 0 ∧ s.config.lostTimeout ≤ (s.now - r.since).toNat := by
  simp only [State.lostDue, Bool.and_eq_true, decide_eq_true_eq, Bool.not_eq_true', and_assoc]
  exact Iff.rfl

/-- The record of a lost rack gone, with LOST_RETIRED. -/
def lostRecord (s : State) (r : Rack) : Event := (s.event.raise .lostRetired).remove r

theorem lostRecord_eq (hp : r.place = .unknown) : lostRecord s r = { s.event with
    racks := s.racks.filter (·.tag ≠ r.tag), notices := s.notices ||| 8 } := by
  unfold lostRecord Event.remove Event.departed
  rw [hp]
  rfl

theorem settled_lostRecord (hp : r.place = .unknown) : settled (lostRecord s r) =
    ({ s with racks := s.racks.filter (·.tag ≠ r.tag), notices := s.notices ||| 8 }, []) := by
  rw [lostRecord_eq hp]
  exact settled_of_nothing_owed rfl rfl rfl rfl

theorem exec_lostRecordExpiry (hr : s.rstLow = false) (h : s.rack? tag.toNat = some r) :
    exec (.lostRecordExpiry tag) s =
      .next (if s.lostDue r then ended (settled ((lostRecord s r).cancelPending r.tag)) else s) := by
  simp only [exec, execLostRecordExpiry, unlessReset_of_high hr, h]
  rfl

/-- Settles O25. -/
theorem retirementByTheTable : Obligations.RetirementByTheTable := by
  intro p role tag x r s hf hrole hx
  have hrst := hf.1
  refine ⟨fun ht hr => ⟨?_, ?_, ?_⟩, fun ht => ?_, fun ht hr hp => ?_, fun ht hr hp hs => ?_, fun ht hr hs => ?_,
    fun ht hr hp hs hlaw hn => ?_, fun ht hr hs hlaw hn => ?_, fun hr hnot => ?_, fun hr hp hprot h0 hdue hn => ?_⟩
  · have hr' : s.event.toState.rack? tag.toNat = none := hr
    rw [exec_withdraw hf hrole ht (by simp only [Event.serveWithdraw, hr']; rfl), settled_event, replied_nothing]
  · rw [exec_retire hrst hx (by simp only [State.retireTag, (isTag_iff tag).mpr ht, if_true, hr]; rfl), settled_event,
      ended_nothing]
  · simp only [exec, execLostRecordExpiry, unlessReset_of_high hrst, hr]
  · have ht' : isTag tag.toNat = false := Bool.eq_false_iff.mpr (mt (isTag_iff tag).mp ht)
    exact take_command_of_eq hrst hx (by simp only [State.retireTag, ht', Bool.false_eq_true, if_false]; rfl)
  · have hr' : s.event.toState.rack? tag.toNat = some r := hr
    rw [exec_withdraw hf hrole ht (by simp only [Event.serveWithdraw, hr', hp, if_true]; rfl), settled_event,
      replied_nothing]
  · have hr' : s.event.toState.rack? tag.toNat = some r := hr
    rw [exec_withdraw hf hrole ht
      (by simp only [Event.serveWithdraw, hr', hp, hs, Bool.false_eq_true, if_true, if_false]; rfl), settled_event,
      replied_nothing]
  · rw [exec_retire hrst hx (by simp only [State.retireTag, (isTag_iff tag).mpr ht, if_true, hr, hs]; rfl),
      settled_event, ended_nothing]
  · rw [exec_withdraw hf hrole ht (serveWithdraw_known hr hp hs), settled_retired hlaw hr hs hn]
  · rw [exec_retire hrst hx (retireTag_known ((isTag_iff tag).mpr ht) hr hs), settled_retired hlaw hr hs hn]
  · have hdue : s.lostDue r ≠ true := by
      rw [Ne, lostDue_iff]
      rintro ⟨hp, hprot, h0, hd⟩
      rcases hnot with h | h | h | h
      · exact h hp
      · rw [hprot] at h
        cases h
      · exact h0 h
      · exact absurd hd (not_le.mpr h)
    rw [exec_lostRecordExpiry hrst hr, if_neg hdue]
  · obtain ⟨-, htag⟩ := State.rack?_some hr
    have hpend : (lostRecord s r).pendingAdmission.map (·.tag) ≠ some r.tag := by
      rw [lostRecord_eq hp, htag]
      exact hn
    rw [exec_lostRecordExpiry hrst hr, if_pos ((lostDue_iff s r).mpr ⟨hp, hprot, h0, hdue⟩),
      Event.cancelPending_of_ne hpend, settled_lostRecord hp, ended_nothing]

end Sys2Proof.Proofs.Departures
end

section
/-! RELOCATE, by a HANDHELD port and by the supervisor (R52, R53, R55), and the events that take its rack from a pending
admission (R94). -/

namespace Sys2Proof.Proofs.Relocations

open Sys2Proof.Machine Sys2Proof.Proofs.Tables Sys2Proof.Proofs.Acts Sys2Proof.Proofs.ActsKeepTheTable
  Sys2Proof.Proofs.Requests Sys2Proof.Proofs.Words Sys2Proof.Proofs.Owing Sys2Proof.Proofs.Pairing
  Sys2Proof.Proofs.Beginnings Sys2Proof.Proofs.Enrolment Sys2Proof.Proofs.Endings Sys2Proof.Proofs.Departures

variable {s : State} {r : Rack} {tag : BitVec 24} {g : Target} {target : Byte}

/-! ### The table of 3.8 -/

theorem heldForService_iff (r : Rack) :
    r.heldForService = true ↔ r.place = .hold ∧ r.lastOutcome = some (.hold .serviceDue) := by
  simp only [Rack.heldForService, Bool.and_eq_true, decide_eq_true_eq]

theorem mayRelocate_iff (r : Rack) (g : Target) : r.mayRelocate g = true ↔ r.mayGo g := by
  cases g with
  | hold =>
    simp only [Rack.mayRelocate, Rack.mayGo, List.forall_mem_cons, List.not_mem_nil, false_implies, implies_true,
      and_true]
    cases hp : r.place with
    | tunnel t => cases t <;> simp
    | _ => simp
  | collect =>
    simp only [Rack.mayRelocate, Rack.mayGo]
    cases r.place <;> simp
  | store | returnLoop =>
    simp only [Rack.mayRelocate, Rack.mayGo, Bool.or_eq_true, decide_eq_true_eq, heldForService_iff]

theorem hasRoom_iff (s : State) (g : Target) : s.hasRoom g.place = true ↔ ¬ s.fullTarget g := by
  cases g
  case store => simp [Target.place, State.hasRoom]
  all_goals exact decide_eq_true_iff.trans not_le.symm

/-- A move of a rack that is in no lane and, off RETURN, has no destination. -/
theorem moved_offLane (ho : OffLane r) (hd : r.place ≠ .returnLoop → r.destination = none) (st : RackState) (p : Place)
    (cause : Option HoldCause) (now : Tick) : r.moved st p cause now = { r with
      state := st, place := p, since := now, destination := none
      lastOutcome := cause.elim r.lastOutcome fun c => some (.hold c) } := by
  have hdest : (if r.place = .returnLoop then none else r.destination) = none := by
    split
    · rfl
    · exact hd ‹_›
  unfold Rack.moved
  rw [hdest]
  cases hp : r.place
  case tunnel t => exact absurd hp (ho t)
  all_goals cases cause <;> rfl

theorem relocated_eq (r : Rack) (g : Target) : r.relocated g = { r with
    passes := if g = .collect then 0 else r.passes
    cycles := if r.heldForService then 0 else r.cycles
    serviceDue := if r.heldForService then false else r.serviceDue } := by
  unfold Rack.relocated
  dsimp only
  split <;> split <;> rfl

/-- What RELOCATE makes of a sound record outside the lanes. -/
theorem moved_relocated (h : SoundRack r) (ho : OffLane r) (g : Target) (now : Tick) :
    (r.relocated g).moved g.rackState g.place (if g = .hold then some .manual else none) now = r.goneTo g now := by
  have hserviced := heldForService_iff r
  rw [moved_offLane (r := r.relocated g) (by rw [relocated_eq]; exact ho) (by rw [relocated_eq]; exact h.destination),
    relocated_eq]
  unfold Rack.goneTo
  cases hh : r.heldForService with
  | true =>
    simp only [if_pos (hserviced.mp hh), if_true]
    cases g <;> rfl
  | false =>
    simp only [if_neg (mt hserviced.mpr (Bool.eq_false_iff.mp hh)), Bool.false_eq_true, if_false]
    cases g <;> rfl

/-! ### The move -/

/-- The move of RELOCATE. -/
def relocating (s : State) (r : Rack) (g : Target) : Event :=
  s.event.move (r.relocated g) g.rackState g.place (if g = .hold then some .manual else none)

/-- What leaves a place is decided by the place and the destination. -/
theorem departed_relocated (e : Event) (r : Rack) (g : Target) : e.departed (r.relocated g) = e.departed r := by
  rw [relocated_eq]
  rfl

theorem relocating_made (h : SoundRack r) (ho : OffLane r) (g : Target) :
    (relocating s r g).toState = s.relocation r g ∧ (relocating s r g).out = [] ∧
      dues (relocating s r g) = (false, roomFrom r.place ⟨false, false⟩, false) ∧
      (relocating s r g).pendingAdmission = s.pendingAdmission := by
  have heq : relocating s r g = (s.event.join (r.goneTo g s.now)).departed r := by
    unfold relocating Event.move
    rw [departed_relocated]
    exact congrArg (fun x => (s.event.join x).departed r) (moved_relocated h ho g s.now)
  have hjoin : (s.event.join (r.goneTo g s.now)).toState =
      if g = .hold then ({ s with racks := rejoined s.racks (r.goneTo g s.now) } : State).holdNoted
      else { s with racks := rejoined s.racks (r.goneTo g s.now) } := by
    rw [Event.join_toState]
    cases g <;> rfl
  have hdues := dues_departed ho (s.event.join (r.goneTo g s.now))
  obtain ⟨hreeval, hroom, hidle⟩ := dues_parts (dues_join s.event (r.goneTo g s.now))
  rw [heq]
  refine ⟨?_, ?_, ?_, ?_⟩
  · rw [departed_toState ho, hjoin]
    rfl
  · rw [departed_out ho]
    exact Event.join_out _ _
  · rw [hdues, hreeval, hroom, hidle]
    rfl
  · rw [departed_pending, join_pending]
    rfl

theorem serveRelocate_moved {n : Nat} (hr : s.rack? n = some r) (hs : r.state ≠ .washing) (hg : r.mayGo g)
    (hroom : ¬ s.fullTarget g) :
    s.event.serveRelocate n g = ⟨(relocating s r g).cancelPending n, .done, .alone⟩ := by
  have hr' : s.event.toState.rack? n = some r := hr
  have hroom' : s.event.toState.hasRoom g.place = true := (hasRoom_iff s g).mpr hroom
  simp only [Event.serveRelocate, hr', if_neg hs, (mayRelocate_iff r g).mpr hg, hroom', if_true]
  rfl

/-- The move of RELOCATE with no admission pending of the rack. -/
theorem settled_relocated (h : s.pairedLaw) {n : Nat} (hr : s.rack? n = some r) (hs : r.state ≠ .washing)
    (hg : r.mayGo g) (hroom : ¬ s.fullTarget g) (hn : s.pendingAdmission.map (·.tag) ≠ some n) :
    settled ((relocating s r g).cancelPending n) = (s.relocation r g).concluded r.place := by
  have hsound := soundRack_of_lookup h.1 hr
  have ho := offLane_of_state hsound hs
  have hacts := acts_relocate h.1 n g
  rw [serveRelocate_moved hr hs hg hroom] at hacts
  obtain ⟨hl, hp⟩ := lawful_and_paired h hacts
  obtain ⟨hstate, hout, hdues, hpending⟩ := relocating_made (s := s) hsound ho g
  rw [← hstate]
  exact settled_uncancelled (by rw [hpending]; exact hn) hout hl hp hdues

/-- The move of RELOCATE that cancels the pending admission. -/
theorem settled_relocated_pending (h : s.pairedLaw) {q : PendingAdmission} (hq : s.pendingAdmission = some q)
    (hr : s.rack? q.tag = some r) (hg : r.mayGo g) (hroom : ¬ s.fullTarget g) :
    settled ((relocating s r g).cancelPending q.tag) = (s.relocation r g).cancelled q (·.concluded r.place) := by
  have hs := state_of_admissible (admissible_of_pending h.1 hq hr)
  have hsound := soundRack_of_lookup h.1 hr
  have ho := offLane_of_state hsound hs
  have hacts := acts_relocate h.1 q.tag g
  rw [serveRelocate_moved hr hs hg hroom] at hacts
  obtain ⟨hl, hp⟩ := lawful_and_paired h hacts
  obtain ⟨hstate, hout, hdues, hpending⟩ := relocating_made (s := s) hsound ho g
  rw [← hstate]
  exact settled_cancelled_concluded (hpending.trans hq) rfl hout hl hp hdues

/-! ### The request and the command -/

theorem targetOf_number (h : target.toNat = targetNumber g) : targetOf target.toNat = some g := by
  rw [h]
  cases g <;> rfl

theorem exec_relocate {p : Port} (hf : s.free p .handheld) (ht : validTag tag) (hg : target.toNat = targetNumber g)
    {v : Served} (hv : s.event.serveRelocate tag.toNat g = v) : exec (.relocate p tag target) s =
      .next (replied (settled v.event) p .relocate (tagBytes tag.toNat ++ [target]) v.status v.fields) := by
  have hparse : parseRequest .relocate (tagBytes tag.toNat ++ [target]) = some (.relocate tag.toNat g) := by
    rw [parse_relocate, if_pos ((isTag_iff tag).mpr ht), targetOf_number hg]
    rfl
  rw [exec_request hf rfl (by decide) hparse rfl]
  rw [Event.owner, hv]

theorem exec_supervisorRelocate {x : Transfer} (hrst : s.rstLow = false) (hx : x.isWhole 4) (ht : validTag tag)
    (hg : target.toNat = targetNumber g) {v : Served} (hv : s.event.serveRelocate tag.toNat g = v) :
    exec (.supervisorRelocate x tag target) s =
      .next ((ended (settled v.event)).respond x ⟨relocateResponse v.status, .alone⟩) := by
  refine (take_command hrst hx fun s => s.relocateBy tag.toNat target.toNat).trans ?_
  simp only [State.relocateBy, targetOf_number hg, (isTag_iff tag).mpr ht, if_true, hv]

/-- A RELOCATE that its tests refuse is refused on both ways. -/
theorem relocate_refused {p : Port} {x : Transfer} (hf : s.free p .handheld) (hx : x.isWhole 4) (ht : validTag tag)
    (hg : target.toNat = targetNumber g) {st : Status}
    (hv : s.event.serveRelocate tag.toNat g = ⟨s.event, st, .alone⟩) :
    exec (.relocate p tag target) s = .next (s.answered p .relocate (tagBytes tag.toNat ++ [target]) st) ∧
      exec (.supervisorRelocate x tag target) s = .next (s.respond x ⟨relocateResponse st, .alone⟩) := by
  rw [exec_relocate hf ht hg hv, exec_supervisorRelocate hf.1 hx ht hg hv,
    settled_event, replied_nothing, ended_nothing]
  exact ⟨rfl, rfl⟩

/-- Settles O30. -/
theorem relocateByTheTable : Obligations.RelocateByTheTable := by
  intro p tag target g x r s hf hx hg
  refine ⟨fun ht => ?_, fun bad hbad => ?_, fun ht hr => ?_, fun ht hr hs => ?_, fun ht hr hs hgo => ?_,
    fun ht hr hs hgo hfull => ?_, fun ht hr hs hgo hroom hlaw hn => ⟨?_, ?_⟩⟩
  · have ht' : isTag tag.toNat = false := Bool.eq_false_iff.mpr (mt (isTag_iff tag).mp ht)
    exact take_command_of_eq hf.1 hx
      (by simp only [State.relocateBy, targetOf_number hg, ht', Bool.false_eq_true, if_false]; rfl)
  · have hnone : targetOf bad.toNat = none := by
      rw [← Option.not_isSome_iff_eq_none, targetOf_isSome]
      exact not_le.mpr hbad
    exact take_command_of_eq hf.1 hx (by simp only [State.relocateBy, hnone]; rfl)
  · have hr' : s.event.toState.rack? tag.toNat = none := hr
    exact relocate_refused hf hx ht hg (by simp only [Event.serveRelocate, hr'])
  · have hr' : s.event.toState.rack? tag.toNat = some r := hr
    exact relocate_refused hf hx ht hg (by simp only [Event.serveRelocate, hr', if_pos hs])
  · have hr' : s.event.toState.rack? tag.toNat = some r := hr
    have hgo' : r.mayRelocate g = false := Bool.eq_false_iff.mpr (mt (mayRelocate_iff r g).mp hgo)
    exact relocate_refused hf hx ht hg
      (by simp only [Event.serveRelocate, hr', if_neg hs, hgo', Bool.false_eq_true, if_false])
  · have hr' : s.event.toState.rack? tag.toNat = some r := hr
    have hroom : s.event.toState.hasRoom g.place = false :=
      Bool.eq_false_iff.mpr fun h => (hasRoom_iff s g).mp h hfull
    exact relocate_refused hf hx ht hg (by
      simp only [Event.serveRelocate, hr', if_neg hs, (mayRelocate_iff r g).mpr hgo, hroom, Bool.false_eq_true, if_true,
        if_false])
  · rw [exec_relocate hf ht hg (serveRelocate_moved hr hs hgo hroom), settled_relocated hlaw hr hs hgo hroom hn]
  · rw [exec_supervisorRelocate hf.1 hx ht hg (serveRelocate_moved hr hs hgo hroom),
      settled_relocated hlaw hr hs hgo hroom hn]
    rfl

/-! ### The pending admission loses its rack (R94) -/

theorem settled_lostRecord_pending {q : PendingAdmission} (hq : s.pendingAdmission = some q) (ht : q.tag = r.tag)
    (hp : r.place = .unknown) : settled ((lostRecord s r).cancelPending r.tag) =
      ({ s with racks := s.racks.filter (·.tag ≠ r.tag), notices := s.notices ||| 8 } : State).cancelled q := by
  rw [lostRecord_eq hp]
  exact settled_cancelled (e := { s.event with racks := s.racks.filter (·.tag ≠ r.tag), notices := s.notices ||| 8 })
    hq ht rfl rfl rfl

theorem settled_sighted_pending {q : PendingAdmission} {w : Window} (hq : s.pendingAdmission = some q)
    (ht : q.tag = r.tag) (ha : ∀ x ∈ s.racks, x.tag ≠ r.tag) (hhold : r.place ≠ .hold)
    (hreturn : r.place ≠ .returnLoop) : settled ((sighted s w r).cancelPending r.tag) =
      ({ s with demand := s.demand.eraseP (·.window = w), racks := s.racks ++ [r] } : State).cancelled q := by
  obtain ⟨hout, hdues, hpair⟩ := sighted_owes (s := s) (w := w) hreturn
  rw [← sighted_toState ha hhold]
  exact settled_cancelled ((sighted_pending s w r).trans hq) ht hout hpair hdues

/-- Settles O26. -/
theorem losingItsRackCancelsTheAdmission : Obligations.LosingItsRackCancelsTheAdmission := by
  intro p role u w i n spare tag target g x a r q s s' hf hq htag hlaw
  have ht' : isTag tag.toNat = true := by
    rw [← htag]
    exact ((pendingSound_iff hq).mp ((recordLaw_iff s).mp hlaw).2).1
  have ht := (isTag_iff tag).mp ht'
  refine ⟨fun hr hx hp => ?_, fun hr hrole hprot hp => ?_, fun hr hp hprot h0 hdue hs' => ?_,
    fun hr hrole hg hgo hroom hp => ?_, fun hr hx hg hgo hroom hp => ?_, fun hr hm he hl hn ha => ⟨?_, ?_⟩⟩
  · have hrq : s.rack? q.tag = some r := htag ▸ hr
    have hs := state_of_admissible (admissible_of_pending hlaw hq hrq)
    rw [exec_retire hf.1 hx (retireTag_known ht' hr hs), settled_retired_pending hp hq hrq]
  · have hrq : s.rack? q.tag = some r := htag ▸ hr
    have hs := state_of_admissible (admissible_of_pending hlaw hq hrq)
    rw [exec_withdraw hf hrole ht (serveWithdraw_known hr hprot hs), settled_retired_pending hp hq hrq]
  · have hrtag : q.tag = r.tag := htag.trans (State.rack?_some hr).2.symm
    rw [exec_lostRecordExpiry hf.1 hr, if_pos ((lostDue_iff s r).mpr ⟨hp, hprot, h0, hdue⟩),
      settled_lostRecord_pending hq hrtag hp, hs']
  · subst hrole
    have hrq : s.rack? q.tag = some r := htag ▸ hr
    have hs := state_of_admissible (admissible_of_pending hlaw hq hrq)
    rw [exec_relocate hf ht hg (serveRelocate_moved hr hs hgo hroom), ← htag,
      settled_relocated_pending hp hq hrq hgo hroom]
  · have hrq : s.rack? q.tag = some r := htag ▸ hr
    have hs := state_of_admissible (admissible_of_pending hlaw hq hrq)
    rw [exec_supervisorRelocate hf.1 hx ht hg (serveRelocate_moved hr hs hgo hroom), ← htag,
      settled_relocated_pending hp hq hrq hgo hroom]
    rfl
  · rintro rfl hcls hmode hd hfill hspare rfl
    subst ha
    rw [exec_sight_enrols hf ht hr hm he hcls hmode hd hl hn hfill hspare]
    have hsettled := settled_sighted_pending (w := w) (r := newRack tag.toNat n s.config.tagWindows[i].attributes
      (if spare then .empty else .filling) (if spare then .windowSpare w else .windowFill w) s.now) hq htag
      (State.rack?_none hr) (by cases spare <;> nofun) (by cases spare <;> nofun)
    exact congrArg (fun m => Host.Outcome.next (replied m p .sight (BitVec.ofNat 8 w.val :: tagBytes tag.toNat) .done
      (.position spare))) hsettled
  · rintro rfl hroom hp rfl
    subst ha
    obtain ⟨hlawful, hpaired⟩ := lawful_returned ht hr hm he hroom hl hn hp
    obtain ⟨hout, hdues, hpending⟩ := returned_owes s
      (newRack tag.toNat n s.config.tagWindows[i].attributes .empty .returnLoop s.now)
    rw [exec_emptied_enrols hf ht hr hm he hroom hl hn,
      settled_cancelled_concluded (hpending.trans hq) htag hout hlawful hpaired hdues,
      returned_toState (State.rack?_none hr) rfl]
    simp only [concluded_of_silent (left := .store) fun _ => rfl]
    rfl

end Sys2Proof.Proofs.Relocations
end

section
/-! Racks at the windows and the unload tables: SIGHT of a known rack (R151, R152), DISPATCH (R153), EMPTIED of a known
rack (R160, R161). -/

namespace Sys2Proof.Proofs.WindowRequests

open Sys2Proof.Machine Sys2Proof.Proofs.Tables Sys2Proof.Proofs.Acts Sys2Proof.Proofs.ActsKeepTheTable
  Sys2Proof.Proofs.Requests Sys2Proof.Proofs.Words Sys2Proof.Proofs.Owing Sys2Proof.Proofs.Pairing
  Sys2Proof.Proofs.Beginnings Sys2Proof.Proofs.Enrolment Sys2Proof.Proofs.Endings Sys2Proof.Proofs.Departures
  Sys2Proof.Proofs.Relocations

variable {s : State} {r : Rack} {tag : BitVec 24} {w : Window} {wb : Byte}

/-! ### SIGHT of a known rack -/

theorem exec_sight {p : Port} (hf : s.free p .windows) (ht : validTag tag) (hw : wb.toNat = w.val)
    (hr : s.rack? tag.toNat = some r) {v : Served} (hv : s.event.sightKnown w r = v) :
    exec (.sight p wb tag) s =
      .next (replied (settled v.event) p .sight (wb :: tagBytes tag.toNat) v.status v.fields) := by
  have hr' : s.event.toState.rack? tag.toNat = some r := hr
  rw [exec_request hf rfl (by decide) (parse_sight_of_valid hw ht) rfl]
  simp only [Event.owner, Event.serveSight, hr', hv]

theorem sightKnown_routed (hs : r.state = .empty) (hp : r.place = .returnLoop) {w' : Window}
    (hd : r.destination = some w') : s.event.sightKnown w r =
      if w' = w then s.event.takeAtWindow w r false else ⟨s.event, .notYours, .window w'⟩ := by
  unfold Event.sightKnown
  rw [if_neg (not_not_intro hs), hp, hd]

theorem sightKnown_unrouted (hs : r.state = .empty)
    (hp : r.place = .store ∨ (r.place = .returnLoop ∧ r.destination = none)) : s.event.sightKnown w r =
      if r.cls ≠ s.windows[w].cls then ⟨s.event, .classMismatch, .alone⟩
      else if s.windows[w].mode = .stop ∨ s.entriesOf w = [] then ⟨s.event, .noDemand, .alone⟩
      else s.event.takeAtWindow w r true := by
  unfold Event.sightKnown
  rw [if_neg (not_not_intro hs)]
  rcases hp with hp | ⟨hp, hd⟩
  · rw [hp]
    cases r.destination <;> rfl
  · rw [hp, hd]
    rfl

theorem sightKnown_elsewhere (hs : r.state = .empty) (h1 : r.place ≠ .returnLoop) (h2 : r.place ≠ .store) :
    s.event.sightKnown w r = ⟨s.event, .badPlace, .alone⟩ := by
  unfold Event.sightKnown
  rw [if_neg (not_not_intro hs)]
  cases hp : r.place
  case returnLoop => exact absurd hp h1
  case store => exact absurd hp h2
  all_goals rfl

/-- A rack taken at a window: at the position it offers, and its answer. -/
theorem takeAtWindow_eq {spare : Bool} {st : RackState} {p : Place}
    (hfree : s.freePosition w = some (st, p)) (hfields : positionOf p = .position spare) (b : Bool) :
    s.event.takeAtWindow w r b = ⟨(if b then s.event.consumeEntry w else s.event).join (r.moved st p none s.now), .done,
      .position spare⟩ := by
  have hfree' : s.event.toState.freePosition w = some (st, p) := hfree
  cases b <;> simp only [Event.takeAtWindow, hfree', hfields] <;> rfl

/-- A rack that joins a window position sets off nothing. -/
theorem settled_joined {e : Event} {x : Rack} (ho : e.out = []) (hp : e.wantPairing = false)
    (hd : dues e = (false, ⟨false, false⟩, false)) (h1 : x.place ≠ .hold) (h2 : x.place ≠ .returnLoop) :
    settled (e.join x) = ({ e.toState with racks := rejoined e.racks x }, []) := by
  obtain ⟨hreeval, hroom, hidle⟩ : (e.join x).wantReeval = false ∧ (e.join x).room = ⟨false, false⟩ ∧
      (e.join x).wantIdle = false := by
    simpa only [dues, Prod.mk.injEq] using (dues_join e x).trans hd
  have hpair := (Sys2Proof.Proofs.Desk.desk_parts (Sys2Proof.Proofs.Desk.desk_join h2 e)).2.2
  rw [settled_of_nothing_owed (hpair.trans hp) hreeval hroom hidle, Event.join_toState, if_neg h1, Event.join_out, ho]

/-- The record of a rack taken at a window. -/
def takenRack (r : Rack) (w : Window) (spare : Bool) (now : Tick) : Rack := { r with
  state := if spare then .empty else .filling, place := if spare then .windowSpare w else .windowFill w
  since := now, destination := none }

/-- What taking a rack at a window makes, against an entry or on its route (R152). -/
theorem take_made (ho : OffLane r) (hd : r.place ≠ .returnLoop → r.destination = none) {spare : Bool}
    (hfree : s.freePosition w = some (if spare then (.empty, .windowSpare w) else (.filling, .windowFill w)))
    (b : Bool) :
    ∃ e, s.event.takeAtWindow w r b = ⟨e, .done, .position spare⟩ ∧
      settled e = ({ s with
        racks := rejoined s.racks (takenRack r w spare s.now)
        demand := if b then s.demand.eraseP (·.window = w) else s.demand }, []) := by
  have hmade (st : RackState) (p : Place) (hp : positionOf p = .position spare)
      (hfree : s.freePosition w = some (st, p)) (h1 : p ≠ .hold) (h2 : p ≠ .returnLoop)
      (hx : r.moved st p none s.now = takenRack r w spare s.now) :
      ∃ e, s.event.takeAtWindow w r b = ⟨e, .done, .position spare⟩ ∧
        settled e = ({ s with
          racks := rejoined s.racks (takenRack r w spare s.now)
          demand := if b then s.demand.eraseP (·.window = w) else s.demand }, []) := by
    refine ⟨_, takeAtWindow_eq hfree hp b, ?_⟩
    have hplace : (r.moved st p none s.now).place = p := rfl
    rw [settled_joined (by cases b <;> rfl) (by cases b <;> rfl) (by cases b <;> rfl) (hplace ▸ h1) (hplace ▸ h2), hx]
    cases b <;> rfl
  cases spare with
  | false => exact hmade .filling (.windowFill w) rfl hfree nofun nofun (moved_offLane ho hd _ _ _ _)
  | true => exact hmade .empty (.windowSpare w) rfl hfree nofun nofun (moved_offLane ho hd _ _ _ _)

/-- Settles O50. -/
theorem sightOfAKnownRack : Obligations.SightOfAKnownRack := by
  rintro p w w' wb tag r r' spare payload s hf ht hr hlaw hw rfl rfl
  have hsound := soundRack_of_lookup hlaw hr
  have hempty (hp : r.place = .returnLoop ∨ r.place = .store) : r.state = .empty := by
    have := hsound.placed
    rcases hp with hp | hp <;> rw [Rack.placed, hp] at this <;> exact of_decide_eq_true this
  have hempty' (hp : r.place = .store ∨ (r.place = .returnLoop ∧ r.destination = none)) : r.state = .empty :=
    hempty (hp.symm.imp_left And.left)
  have refused {st : Status} {f : Fields} (hv : s.event.sightKnown w r = ⟨s.event, st, f⟩) :
      exec (.sight p wb tag) s = .next (s.answered p .sight (wb :: tagBytes tag.toNat) st f) := by
    rw [exec_sight hf ht hw hr hv, settled_event, replied_nothing]
  refine ⟨fun hs => refused ?_, fun hs h1 h2 => refused (sightKnown_elsewhere hs h1 h2), fun hp hd hne => refused ?_,
    fun hp hc => refused ?_, fun hp hc hd => refused ?_, fun hpos => ?_⟩
  · exact if_pos hs
  · rw [sightKnown_routed (hempty (.inl hp)) hp hd, if_neg hne]
  · rw [sightKnown_unrouted (hempty' hp) hp, if_pos hc]
  · rw [sightKnown_unrouted (hempty' hp) hp, if_neg (not_not_intro hc), if_pos hd]
  have hfree : s.freePosition w = some (if spare then (.empty, .windowSpare w) else (.filling, .windowFill w)) := by
    refine freePosition_eq (fun h => ?_) fun h => ?_ <;> rw [h] at hpos <;> exact hpos
  have taken {b : Bool} (hs : r.state = .empty) (hv : s.event.sightKnown w r = s.event.takeAtWindow w r b) :
      exec (.sight p wb tag) s = .next (({ s with
        racks := rejoined s.racks (takenRack r w spare s.now)
        demand := if b then s.demand.eraseP (·.window = w) else s.demand } : State).answered p .sight
          (wb :: tagBytes tag.toNat) .done (.position spare)) := by
    have ho : OffLane r := offLane_of_state hsound (by rw [hs]; nofun)
    obtain ⟨e, he, hmade⟩ := take_made ho hsound.destination hfree b
    rw [exec_sight hf ht hw hr (hv.trans he), hmade, replied_nothing]
  refine ⟨fun hp hd => ?_, fun hp hc hm hd => ?_⟩
  · exact taken (b := false) (hempty (.inl hp)) (by rw [sightKnown_routed (hempty (.inl hp)) hp hd, if_pos rfl])
  · exact taken (b := true) (hempty' hp) (by
      rw [sightKnown_unrouted (hempty' hp) hp, if_neg (not_not_intro hc), if_neg (not_or_intro hm hd)])

/-! ### The move of a rack outside the lanes (R5) -/

/-- What a move leaves, and what it leaves owing. -/
theorem move_made {e : Event} {x x' : Rack} {st : RackState} {p : Place} {cause : Option HoldCause} (ho : OffLane x)
    (hx : x.moved st p cause e.now = x') : (e.move x st p cause).toState =
      (if p = .hold then ({ e.toState with racks := rejoined e.racks x' } : State).holdNoted
        else { e.toState with racks := rejoined e.racks x' } : State).vacated x ∧
    (e.move x st p cause).out = e.out ∧
    dues (e.move x st p cause) = (e.wantReeval, roomFrom x.place e.room, e.wantIdle) ∧
    (e.move x st p cause).pendingAdmission = e.pendingAdmission := by
  have hplace : x'.place = p := by
    rw [← hx]
    rfl
  obtain ⟨hreeval, hroom, hidle⟩ := dues_parts (dues_join e x')
  unfold Event.move
  rw [hx]
  refine ⟨?_, (departed_out ho _).trans (Event.join_out e x'), ?_, (departed_pending _ _).trans (join_pending e x')⟩
  · rw [departed_toState ho, Event.join_toState, hplace]
  · rw [dues_departed ho, hreeval, hroom, hidle]

/-! ### DISPATCH (R153) -/

theorem loadField_eq {load : Byte} {l : Option (Fin 8)} (h : load.toNat = (l.map (·.val)).getD 255) :
    loadField load = some l := by
  unfold loadField
  cases l with
  | none => exact if_pos (BitVec.eq_of_toNat_eq h)
  | some n =>
    have hn : load.toNat = n.val := h
    have hne : load ≠ 0xFF := fun he => by
      rw [he] at hn
      have := n.isLt
      rw [← hn] at this
      revert this
      decide
    rw [if_neg hne, dif_pos (by rw [hn]; exact n.isLt)]
    exact congrArg (fun x => some (some x)) (Fin.ext hn)

theorem exec_dispatch {p : Port} {load : Byte} {l : Option (Fin 8)} (hf : s.free p .windows) (hw : wb.toNat = w.val)
    (hl : load.toNat = (l.map (·.val)).getD 255) {v : Served} (hv : s.event.serveDispatch w l = v) :
    exec (.dispatch p wb load) s = .next (replied (settled v.event) p .dispatch [wb, load] v.status v.fields) := by
  have hparse : parseRequest .dispatch [wb, load] = some (.dispatch w l) := by
    rw [parseRequest, windowOf_toNat hw, Option.bind_some, loadField_eq hl]
    rfl
  rw [exec_request hf rfl (by decide) hparse rfl]
  rw [Event.owner, hv]

/-- The rack that a DISPATCH moves: a new soil cycle and its load code. -/
def soiledRack (r : Rack) (l : Option (Fin 8)) : Rack := { r with passes := 0, loadCode := l }

theorem serveDispatch_moved {l : Option (Fin 8)} (hr : s.fillRack w = some r)
    (hc : s.count .collect + s.config.recircReserve < 24) : s.event.serveDispatch w l =
      ⟨s.event.move (soiledRack r l) .soiled .collect, .done, .dispatched r.tag
        (((s.event.move (soiledRack r l) .soiled .collect).toState.fillRack w).map (·.tag))⟩ := by
  have hr' : s.event.toState.fillRack w = some r := hr
  have hroom : ¬ Config.collectCapacity - s.event.config.recircReserve ≤ s.event.toState.count .collect := by
    change ¬ 24 - s.config.recircReserve ≤ s.count .collect
    omega
  simp only [Event.serveDispatch, hr', if_neg hroom]
  rfl

/-- Settles O51. -/
theorem dispatchMovesToCollect : Obligations.DispatchMovesToCollect := by
  rintro p w wb load l r r' s gone hf hw hl rfl rfl
  refine ⟨fun hr => ?_, fun hr hc => ?_, fun hr hc hlaw => ?_⟩
  · have hr' : s.event.toState.fillRack w = none := hr
    rw [exec_dispatch hf hw hl (by simp only [Event.serveDispatch, hr']; rfl), settled_event, replied_nothing]
  · have hr' : s.event.toState.fillRack w = some r := hr
    have hfull : Config.collectCapacity - s.event.config.recircReserve ≤ s.event.toState.count .collect := by
      change 24 - s.config.recircReserve ≤ s.count .collect
      omega
    rw [exec_dispatch hf hw hl (by simp only [Event.serveDispatch, hr', if_pos hfull]; rfl), settled_event,
      replied_nothing]
  · have hp : r.place = .windowFill w := (mem_of_fillRack hr).2
    have ho : OffLane (soiledRack r l) := fun t => by
      change r.place ≠ _
      rw [hp]
      nofun
    have hx : (soiledRack r l).moved .soiled .collect none s.event.now =
        { r with state := .soiled, place := .collect, since := s.now, loadCode := l, passes := 0 } := by
      simp only [Rack.moved, soiledRack, hp]
      rfl
    obtain ⟨hstate, hout, hdues, -⟩ := move_made ho hx
    have hv := serveDispatch_moved (l := l) hr hc
    have hacts := acts_dispatch hlaw.1 w l
    rw [hv] at hacts
    obtain ⟨hlawful, hpaired⟩ := lawful_and_paired hlaw hacts
    have hsilent (z : State) : z.retestedAfter (soiledRack r l).place = (z, []) := by
      change z.retestedAfter r.place = _
      rw [hp]
      rfl
    rw [exec_dispatch hf hw hl hv, settled_concluded (idle := false) hlawful hpaired hdues nofun,
      followed_whenever_false, hout]
    simp only [concluded_of_silent hsilent]
    rw [show s.event.out = [] from rfl, followed_pure, hstate]
    rfl

/-! ### EMPTIED of a known rack (R160, R161) -/

theorem exec_emptied {p : Port} {u : Tunnel} (hf : s.free p (.unload u)) (ht : validTag tag) {v : Served}
    (hv : s.event.serveEmptied u tag.toNat = v) :
    exec (.emptied p tag) s = .next (replied (settled v.event) p .emptied (tagBytes tag.toNat) v.status v.fields) := by
  rw [exec_request hf rfl (by cases u <;> decide) (parse_tag_of_valid (g := .emptied) rfl ht) rfl]
  rw [Event.owner, show (Role.unload u).tunnelOrA = u from rfl, hv]

/-- The record that an EMPTIED makes before its move (R21, R22). -/
theorem emptiedRack_eq (c : Configuration) (r : Rack) : c.emptiedRack r = { r with
    cycles := if r.cycles < 65535 then r.cycles + 1 else 65535
    serviceDue := r.serviceDue || decide (c.serviceLimitOf r.cls ≠ 0 ∧
      c.serviceLimitOf r.cls ≤ if r.cycles < 65535 then r.cycles + 1 else 65535)
    passes := 0, loadCode := none } := by
  have hcycles : min (r.cycles + 1) Config.maxCycles = if r.cycles < 65535 then r.cycles + 1 else 65535 := by
    change min (r.cycles + 1) 65535 = _
    split <;> omega
  unfold Configuration.emptiedRack
  simp only [hcycles, Bool.decide_and]

/-- A rack on the unload table, taken to HOLD or to RETURN. -/
theorem settled_emptied {e : Event} {x x' : Rack} {st : RackState} {p : Place} {cause : Option HoldCause} {u : Tunnel}
    (hu : x.place = .unload u) (hx : x.moved st p cause e.now = x') (ho : e.out = [])
    (hd : dues e = (false, ⟨false, false⟩, false)) (hl : Lawful s (e.move x st p cause))
    (hp : Paired (e.move x st p cause)) : settled (e.move x st p cause) =
      (if p = .hold then ({ e.toState with racks := rejoined e.racks x' } : State).holdNoted
        else { e.toState with racks := rejoined e.racks x' } : State).concluded (.unload u) := by
  have hoff : OffLane x := fun t => by
    rw [hu]
    nofun
  obtain ⟨hreeval, hroom, hidle⟩ : e.wantReeval = false ∧ e.room = ⟨false, false⟩ ∧ e.wantIdle = false := by
    simpa only [dues, Prod.mk.injEq] using hd
  obtain ⟨hstate, hout, hdues, -⟩ := move_made hoff hx
  rw [hreeval, hroom, hidle, hu] at hdues
  rw [settled_concluded hl hp hdues nofun, followed_whenever_false, hout, ho, followed_pure, hstate]
  unfold State.vacated
  rw [hu]

theorem emptied_paired {e : Event} {x : Rack} (hu : ∃ u, x.place = .unload u) :
    (e.move x .empty .returnLoop none).wantPairing = true := by
  obtain ⟨u, hu⟩ := hu
  unfold Event.move Event.departed
  rw [hu]
  unfold Event.join
  rfl

theorem emptiedKnown_held (hd : (s.config.emptiedRack r).serviceDue = true) (hh : s.count .hold < 8) :
    s.event.emptiedKnown r = ⟨(s.event.raise .serviceDue).move (s.config.emptiedRack r) .held .hold (some .serviceDue),
      .done, .emptied .hold (s.config.emptiedRack r).cycles true⟩ := by
  have hroom : s.event.toState.hasRoom .hold = true := decide_eq_true hh
  have hd' : (s.event.config.emptiedRack r).serviceDue = true := hd
  unfold Event.emptiedKnown
  simp only [hd', hroom, Bool.and_true, if_true]
  rfl

/-- The event of an EMPTIED that sends its rack to RETURN, before the move. -/
def emptiedEvent (s : State) (due : Bool) : Event := if due then s.event.raise .serviceDue else s.event

theorem emptiedKnown_else (hd : (s.config.emptiedRack r).serviceDue = false ∨ 8 ≤ s.count .hold) :
    s.event.emptiedKnown r = if s.count .returnLoop < 32 then
        ⟨(emptiedEvent s (s.config.emptiedRack r).serviceDue).move (s.config.emptiedRack r) .empty .returnLoop, .done,
          .emptied .returnLoop (s.config.emptiedRack r).cycles (s.config.emptiedRack r).serviceDue⟩
      else ⟨s.event, .returnFull, .alone⟩ := by
  have hnot : ((s.event.config.emptiedRack r).serviceDue && s.event.toState.hasRoom .hold) = false := by
    rcases hd with hd | hh
    · rw [show (s.event.config.emptiedRack r).serviceDue = false from hd, Bool.false_and]
    · rw [show s.event.toState.hasRoom .hold = false from decide_eq_false (not_lt.mpr hh), Bool.and_false]
  unfold Event.emptiedKnown
  simp only [hnot, Bool.false_eq_true, if_false]
  by_cases hr : s.count .returnLoop < 32
  · rw [if_pos hr, if_pos (show s.event.toState.hasRoom .returnLoop = true from decide_eq_true hr)]
    rfl
  · rw [if_neg hr, if_neg (show ¬ s.event.toState.hasRoom .returnLoop = true from mt of_decide_eq_true hr)]

/-- Settles O55. -/
theorem emptiedByTheTable : Obligations.EmptiedByTheTable := by
  rintro p u tag cycles due r held back s noted hf ht hr hcycles hdue rfl rfl rfl
  have hr' : s.event.toState.rack? tag.toNat = some r := hr
  have hrack := emptiedRack_eq s.config r
  rw [← hcycles, ← hdue] at hrack
  have hrdue : (s.config.emptiedRack r).serviceDue = due := by rw [hrack]
  have hserve (hp : r.place = .unload u) {v : Served} (hv : s.event.emptiedKnown r = v) :
      s.event.serveEmptied u tag.toNat = v := by
    simp only [Event.serveEmptied, hr', if_pos hp, hv]
  have hacts (hlaw : s.recordLaw) {v : Served} (hv : s.event.serveEmptied u tag.toNat = v) : Acts s s.event v.event :=
    hv ▸ acts_emptied hlaw u ((isTag_iff tag).mpr ht)
  have hplace (hp : r.place = .unload u) : (s.config.emptiedRack r).place = .unload u := hp
  refine ⟨fun hp => ?_, fun hp hd hh hlaw => ?_, fun hp hd hroom hlaw => ?_, fun hp hd hroom => ?_⟩
  · rw [exec_emptied hf ht (by simp only [Event.serveEmptied, hr', if_neg hp]; rfl), settled_event, replied_nothing]
  · have hv := hserve hp (emptiedKnown_held (hrdue.trans hd) hh)
    obtain ⟨hl, hpaired⟩ := lawful_and_paired hlaw (hacts hlaw.1 hv)
    rw [exec_emptied hf ht hv, settled_emptied (hplace hp) rfl rfl rfl hl hpaired, hrack, hd]
    simp only [Rack.moved, hp]
    rfl
  · have hv := hserve hp ((emptiedKnown_else (hd.imp_left hrdue.trans)).trans (if_pos hroom))
    have hl := lawful_acts (lawful_event hlaw) (hacts hlaw hv)
    have ho : (emptiedEvent s (s.config.emptiedRack r).serviceDue).out = [] ∧
        dues (emptiedEvent s (s.config.emptiedRack r).serviceDue) = (false, ⟨false, false⟩, false) := by
      unfold emptiedEvent
      split <;> exact ⟨rfl, rfl⟩
    rw [exec_emptied hf ht hv,
      settled_emptied (hplace hp) rfl ho.1 ho.2 hl (.inl (emptied_paired ⟨u, hplace hp⟩)), hrdue, hrack]
    simp only [Rack.moved, hp]
    cases due <;> rfl
  · have hv := hserve hp ((emptiedKnown_else (hd.imp_left hrdue.trans)).trans (if_neg (not_lt.mpr hroom)))
    rw [exec_emptied hf ht hv, settled_event, replied_nothing]

end Sys2Proof.Proofs.WindowRequests
end

section
/-! The tunnels' states: the TUNNEL commands (R64 to R77), the TANK reports (R66), entry into FAULT (R75, R76), the idle
and restart timers (R69, R70). -/

namespace Sys2Proof.Proofs.TunnelStates

open Sys2Proof.Machine Sys2Proof.Proofs.Tables Sys2Proof.Proofs.Acts Sys2Proof.Proofs.ActsKeepTheTable
  Sys2Proof.Proofs.Requests Sys2Proof.Proofs.Words Sys2Proof.Proofs.Owing Sys2Proof.Proofs.GateTests
  Sys2Proof.Proofs.Endings Sys2Proof.Proofs.Rows Sys2Proof.Proofs.TunnelLaw Sys2Proof.Proofs.LaneLists
  Sys2Proof.Proofs.GateWords Sys2Proof.Proofs.Beginnings Sys2Proof.Proofs.Chains

variable {s : State} {t : Tunnel} {c : TunnelContext} {x : Transfer} {tb : Byte} {e : Event}

/-! ### A change of state -/

/-- A tunnel that enters a state, with what the change sets off (R78, R79, R92). -/
theorem settled_turned (hg : Grantable s) (t : Tunnel) (c : TunnelContext) (st : TunnelState) (fresh : Bool) :
    settled ((s.event.setTunnel t c).enter t st fresh) = s.turned t { c with state := st } fresh := by
  have hstate : ((s.event.setTunnel t c).enter t st fresh).toState =
      { s with tunnels := s.tunnels.set t { c with state := st } } := by
    simp [Event.enter, Event.setTunnel, Event.sendRole, State.event]
  have hg' : Grantable ((s.event.setTunnel t c).enter t st fresh).toState := by
    rw [hstate]
    exact hg
  rw [settled_reconsidered (reeval := true) (idle := false) rfl rfl hg' nofun, followed_whenever_false, hstate]
  rfl

theorem setTunnel_self (s : State) (t : Tunnel) : s.event.setTunnel t (s.tunnels.get t) = s.event := by
  simp [Event.setTunnel, State.event]

/-- A tunnel that enters a state with its context left. -/
theorem settled_entered (hg : Grantable s) (t : Tunnel) (st : TunnelState) :
    settled (s.event.enter t st) = s.turned t { s.tunnels.get t with state := st } := by
  have := settled_turned hg t (s.tunnels.get t) st false
  rwa [setTunnel_self] at this

theorem state_of_entered (e : Event) (t : Tunnel) (st : TunnelState) (fresh : Bool) :
    ((e.enter t st fresh).tunnels.get t).state = st := by
  rw [Event.enter_tunnels, PerTunnel.get_set_same]

/-! ### The TUNNEL commands -/

theorem tunnelOf_number (h : tb.toNat = tunnelNumber t) : tunnelOf tb.toNat = some t := by
  rw [h]
  cases t <;> rfl

theorem tunnelOf_none {n : Nat} (h : 1 < n) : tunnelOf n = none := by
  obtain ⟨m, rfl⟩ := Nat.exists_eq_add_of_le' h
  rfl

theorem command_tunnel_refused (hr : s.rstLow = false) (hx : x.isWhole 2) (h : 1 < tb.toNat)
    (action : Event → Tunnel → Event × RespStatus) :
    command x 2 (fun s => s.tunnelCommand tb.toNat action) s = .next (s.respond x ⟨.badValue, .alone⟩) :=
  take_command_of_eq hr hx (by rw [State.tunnelCommand, tunnelOf_none h]; rfl)

theorem command_tunnel (hr : s.rstLow = false) (hx : x.isWhole 2) (h : tb.toNat = tunnelNumber t)
    {action : Event → Tunnel → Event × RespStatus} {e : Event} {st : RespStatus} (ha : action s.event t = (e, st)) :
    command x 2 (fun s => s.tunnelCommand tb.toNat action) s =
      .next ((ended (settled e)).respond x ⟨st, .tunnelState (e.tunnels.get t).state⟩) := by
  rw [take_command hr hx]
  simp only [State.tunnelCommand, tunnelOf_number h, ha]

/-- A TUNNEL command that changes the state. -/
theorem command_tunnel_turned (hr : s.rstLow = false) (hx : x.isWhole 2) (hg : Grantable s)
    (h : tb.toNat = tunnelNumber t) {action : Event → Tunnel → Event × RespStatus} {st : TunnelState} {fresh : Bool}
    (ha : action s.event t = ((s.event.setTunnel t c).enter t st fresh, .done)) :
    command x 2 (fun s => s.tunnelCommand tb.toNat action) s =
      .next ((ended (s.turned t { c with state := st } fresh)).respond x ⟨.done, .tunnelState st⟩) := by
  rw [command_tunnel hr hx h ha, settled_turned hg, state_of_entered]

/-- A TUNNEL command that changes nothing. -/
theorem command_tunnel_same (hr : s.rstLow = false) (hx : x.isWhole 2) (h : tb.toNat = tunnelNumber t)
    {action : Event → Tunnel → Event × RespStatus} {st : RespStatus} (ha : action s.event t = (s.event, st)) :
    command x 2 (fun s => s.tunnelCommand tb.toNat action) s =
      .next (s.respond x ⟨st, .tunnelState (s.tunnels.get t).state⟩) := by
  rw [command_tunnel hr hx h ha, settled_event, ended_nothing]
  rfl

/-- Settles O33, by the row of each command in each state: `settled_turned` where it changes the state. -/
theorem tunnelCommandsByTheTable : Obligations.TunnelCommandsByTheTable := by
  rintro x tb t c s hr hx hps rfl
  have hg := grantable_of_pendingSound hps
  have hempty : (s.event.toState.lane t).isEmpty = true ↔ s.lane t = [] := List.isEmpty_iff
  refine ⟨fun h => ⟨command_tunnel_refused hr hx h _, command_tunnel_refused hr hx h _,
    command_tunnel_refused hr hx h _, command_tunnel_refused hr hx h _⟩, fun h hst => ?_, fun h hst => ?_,
    fun h hst => ?_, fun h hst => ?_, fun h hst => ?_, fun h hst => ?_, fun h hother => ?_, fun h hother hst hl => ?_,
    fun h hother hnot => ?_, fun h hst => ?_, fun h hst => ?_⟩
  · refine command_tunnel_turned (c := { s.tunnels.get t with admissionSeq := 0 }) hr hx hg h ?_
    unfold Event.startTunnel
    dsimp only
    split
    · rfl
    · rename_i hne
      exact absurd hst hne
  · refine command_tunnel_same hr hx h ?_
    unfold Event.startTunnel
    dsimp only
    split
    · exact absurd ‹_› hst
    · rfl
  · have hturn := command_tunnel_turned (action := Event.stopTunnel) (c := (s.tunnels.get t).withoutTimers)
      (st := if (s.lane t).isEmpty then .off else .closing) (fresh := false) hr hx hg h (by
        have hst' : (s.event.tunnels.get t).state ∈ [TunnelState.warming, .ready, .running, .economy, .restarting] :=
          hst
        unfold Event.stopTunnel
        dsimp only
        split <;> simp_all)
    rw [show (if (s.lane t).isEmpty then TunnelState.off else .closing) = if s.lane t = [] then .off else .closing by
      simp only [List.isEmpty_iff]] at hturn
    exact hturn
  · have := command_tunnel_same (action := Event.stopTunnel) (st := .done) hr hx h (by
      simp only [Event.stopTunnel, show (s.event.tunnels.get t).state = .closing from hst])
    rwa [hst] at this
  · have := command_tunnel_same (action := Event.stopTunnel) (st := .busy) hr hx h (by
      simp only [Event.stopTunnel, show (s.event.tunnels.get t).state = .flushing from hst])
    rwa [hst] at this
  · refine command_tunnel_same (action := Event.stopTunnel) (st := .badState) hr hx h ?_
    rcases hst with hst | hst
    · simp only [Event.stopTunnel, show (s.event.tunnels.get t).state = .off from hst]
    · simp only [Event.stopTunnel, show (s.event.tunnels.get t).state = .fault from hst]
  · exact command_tunnel_same (action := Event.flushTunnel) hr hx h (if_pos hother)
  · refine command_tunnel_turned (action := Event.flushTunnel) hr hx hg h ((if_neg hother).trans (if_pos ?_))
    exact ⟨hst, hempty.mpr hl⟩
  · refine command_tunnel_same (action := Event.flushTunnel) hr hx h ((if_neg hother).trans (if_neg ?_))
    rintro ⟨hst, hl⟩
    rcases hnot with ⟨h1, h2⟩ | hne
    · exact hst.elim h1 h2
    · exact hne (hempty.mp hl)
  · have := command_tunnel_turned (action := Event.clearFault) (c := s.tunnels.get t) (st := .off) (fresh := false)
      hr hx hg h (by
        rw [setTunnel_self]
        simp only [Event.clearFault, show (s.event.tunnels.get t).state = .fault from hst])
    exact this
  · refine command_tunnel_same (action := Event.clearFault) hr hx h ?_
    unfold Event.clearFault
    split
    · exact absurd ‹_› hst
    · rfl

/-! ### The TANK reports (R66) -/

/-- The payload of a TANK report. -/
def conditionByte : TankCondition → Byte
  | .ready => 0
  | .cold => 1
  | .flushDone => 2
  | .fault => 3

/-- The row of a TANK report. -/
def tankRow (p : Port) : TankCondition → Instr
  | .ready => .tankReady p
  | .cold => .tankCold p
  | .flushDone => .tankFlushDone p
  | .fault => .tankFault p

theorem tankRow_wire (p : Port) (k : TankCondition) : (tankRow p k).wire = some (p, .tank, [conditionByte k]) := by
  cases k <;> rfl

theorem parse_conditionByte (k : TankCondition) : parseRequest .tank [conditionByte k] = some (.tank k) := by
  cases k <;> rfl

theorem exec_tank {p : Port} (hf : s.free p (.tunnel t)) (k : TankCondition) {e : Event}
    (he : s.event.tankReport t k = e) : exec (tankRow p k) s =
      .next (replied (settled e) p .tank [conditionByte k] .done (.tank (e.tunnels.get t).state)) := by
  have hkinds : ReqKind.tank ∈ (Role.tunnel t).kinds := by cases t <;> decide
  rw [exec_request hf (tankRow_wire p k) hkinds (parse_conditionByte k) rfl]
  rw [Event.owner, show (Role.tunnel t).tunnelOrA = t from rfl, Event.serveTank, he]

theorem exec_tank_turned {p : Port} (hf : s.free p (.tunnel t)) (hg : Grantable s) (k : TankCondition)
    {st : TunnelState} (he : s.event.tankReport t k = (s.event.setTunnel t c).enter t st) : exec (tankRow p k) s =
      .next (replied (s.turned t { c with state := st }) p .tank [conditionByte k] .done (.tank st)) := by
  rw [exec_tank hf k he, settled_turned hg, state_of_entered]

theorem exec_tank_same {p : Port} (hf : s.free p (.tunnel t)) (k : TankCondition)
    (he : s.event.tankReport t k = s.event) : exec (tankRow p k) s =
      .next (s.answered p .tank [conditionByte k] .done (.tank (s.tunnels.get t).state)) := by
  rw [exec_tank hf k he, settled_event, replied_nothing]
  rfl

/-- Settles O34, by the row of each report in each state. -/
theorem tankReportsByTheTable : Obligations.TankReportsByTheTable := by
  rintro p t c s hf hps rfl
  have hg := grantable_of_pendingSound hps
  refine ⟨fun hst => ?_, fun hst => ?_, fun hst => ?_, fun hst => ?_, fun hst => ?_, fun hst => ?_, fun hst => ?_⟩
  · have hturn := exec_tank_turned (c := { s.tunnels.get t with
        idleStart := if s.lane t = [] then some s.now else (s.tunnels.get t).idleStart }) (st := .ready) hf hg .ready
        (by
      have hst' : (s.event.tunnels.get t).state = .warming := hst
      simp only [Event.tankReport, hst']
      by_cases hl : s.lane t = []
      · rw [if_pos (show (s.event.toState.lane t).isEmpty = true from List.isEmpty_iff.mpr hl), if_pos hl]
        rw [← hst']
        rfl
      · rw [if_neg (show ¬ (s.event.toState.lane t).isEmpty = true from mt List.isEmpty_iff.mp hl), if_neg hl]
        exact congrArg (fun e : Event => e.enter t .ready) (setTunnel_self s t).symm)
    exact hturn
  · refine exec_tank_same hf .ready ?_
    have hst' : (s.event.tunnels.get t).state ≠ .warming := hst
    unfold Event.tankReport
    dsimp only
    split <;> simp_all
  · refine exec_tank_turned (c := { s.tunnels.get t with idleStart := none, restartTimer := none }) hf hg .cold ?_
    have hst' : (s.event.tunnels.get t).state ∈ [TunnelState.ready, .running, .restarting] := hst
    unfold Event.tankReport
    dsimp only
    split <;> simp_all
  · refine exec_tank_same hf .cold ?_
    have hst' : (s.event.tunnels.get t).state ∉ [TunnelState.ready, .running, .restarting] := hst
    unfold Event.tankReport
    dsimp only
    split <;> simp_all
  · refine exec_tank_turned (c := { s.tunnels.get t with flushTimer := none }) hf hg .flushDone ?_
    have hst' : (s.event.tunnels.get t).state = .flushing := hst
    unfold Event.tankReport
    dsimp only
    split <;> simp_all
  · refine exec_tank_same hf .flushDone ?_
    have hst' : (s.event.tunnels.get t).state ≠ .flushing := hst
    unfold Event.tankReport
    dsimp only
    split <;> simp_all
  · refine exec_tank_same hf .fault ?_
    have hst' : (s.event.tunnels.get t).state = .off ∨ (s.event.tunnels.get t).state = .fault := hst
    unfold Event.tankReport
    dsimp only
    split <;> simp_all

/-! ### The idle and restart timers (R69, R70) -/

theorem exec_idleTimer (hr : s.rstLow = false) (t : Tunnel) :
    exec (.idleTimerExpiry t) s = .next (ended (settled (s.event.idleExpire t))) := by
  simp only [exec, execIdleTimerExpiry, unlessReset_of_high hr, ended_settled]

theorem reached_iff (now expiry : Tick) : reached now expiry = true ↔ (now - expiry).toNat < 2147483648 :=
  decide_eq_true_iff

theorem timerDue_iff (now : Tick) (timer : Option Tick) : timerDue now timer = true ↔
    ∃ x, timer = some x ∧ (now - x).toNat < 2147483648 := by
  cases timer with
  | none => exact ⟨nofun, nofun⟩
  | some x =>
    refine (reached_iff now x).trans ⟨fun h => ⟨x, rfl, h⟩, ?_⟩
    rintro ⟨_, ⟨⟩, h⟩
    exact h

/-- A timer that is absent, or not yet due. -/
theorem timerDue_false {now start : Tick} {timer : Option Tick}
    (h : timer = none ∨ (timer = some start ∧ 2147483648 ≤ (now - start).toNat)) : ¬ timerDue now timer = true := by
  rw [timerDue_iff]
  rintro ⟨x, rfl, hx⟩
  rcases h with h | ⟨⟨⟩, h⟩
  · cases h
  · exact absurd hx (not_lt.mpr h)

/-- An idle time reached: ECONOMY, with nothing pending to reconsider. -/
theorem settled_idleExpire (t : Tunnel) : settled (s.event.idleExpire t) = s.idled t := by
  obtain ⟨hstate, hout⟩ := s.event.idleExpire_carries t
  by_cases hdue : s.idleDue t = true
  · have hpending : s.pendingAdmission = none := by
      simp only [State.idleDue, Bool.and_eq_true, Option.isNone_iff_eq_none] at hdue
      exact hdue.2
    have hword : settled (s.event.idleExpire t) = ((s.event.idleExpire t).toState, (s.event.idleExpire t).out) := by
      have hexpire : s.event.idleExpire t = (s.event.setTunnel t { s.tunnels.get t with
          economyStart := some s.now, idleStart := none }).enter t .economy := if_pos hdue
      rw [hexpire, settled_turned (grantable_of_none hpending)]
      refine (followed_nothing (State.reconsidered_of_none hpending)).trans ?_
      simp [Event.enter, Event.setTunnel, Event.sendRole, State.event, State.toRole]
    rw [hword, hstate, hout]
    rfl
  · have hexpire : s.event.idleExpire t = s.event := if_neg hdue
    rw [hexpire] at hstate hout ⊢
    rw [settled_event, Prod.ext_iff]
    exact ⟨hstate, hout⟩

/-- Settles O36, by the conditions of each timer. -/
theorem idleAndRestartTimers : Obligations.IdleAndRestartTimers := by
  rintro t start c s hr rfl
  have hrestart (h : ¬ ((s.tunnels.get t).state = .restarting ∧ timerDue s.now (s.tunnels.get t).restartTimer = true)) :
      exec (.restartTimerExpiry t) s = .next s := by
    simp only [exec, execRestartTimerExpiry, unlessReset_of_high hr, if_neg h]
  refine ⟨fun hst hz hi hdue hl hp => ?_, fun h => ?_, fun hst htimer hdue hps => ?_, fun h => hrestart ?_⟩
  · have hcond : ((s.tunnels.get t).state = .ready ∨ (s.tunnels.get t).state = .running) ∧ s.config.idleTime ≠ 0 ∧
        ((s.tunnels.get t).idleStart.any fun x => decide (s.config.idleTime ≤ (s.now - x).toNat)) ∧ s.lane t = [] ∧
        s.pendingAdmission = none := ⟨hst, hz, by rw [hi]; exact decide_eq_true hdue, hl, hp⟩
    rw [exec_idleTimer hr, settled_idleExpire]
    unfold State.idled State.turned
    dsimp only
    rw [if_pos hcond]
    exact congrArg (fun m => Host.Outcome.next (ended m)) (followed_nothing (State.reconsidered_of_none hp)).symm
  · rw [exec_idleTimer hr, settled_idleExpire]
    unfold State.idled
    dsimp only
    rw [if_neg, ended_nothing]
    rintro ⟨hst, hz, hi, hl, hp⟩
    rcases h with ⟨h1, h2⟩ | h | h | ⟨h1, h2⟩ | h | h
    · exact hst.elim h1 h2
    · exact hz h
    · rw [h] at hi
      cases hi
    · rw [h1] at hi
      exact absurd (of_decide_eq_true hi) (not_le.mpr h2)
    · exact h hl
    · exact h hp
  · have hdue' : timerDue s.now (s.tunnels.get t).restartTimer = true :=
      (timerDue_iff _ _).mpr ⟨start, htimer, hdue⟩
    simp only [exec, execRestartTimerExpiry, unlessReset_of_high hr, if_pos (And.intro hst hdue'), ended_settled]
    exact congrArg (fun m => Host.Outcome.next (ended m))
      (settled_turned (grantable_of_pendingSound hps) t _ .running false)
  · rintro ⟨hst, hdue⟩
    rcases h with h | h
    · exact h hst
    · exact timerDue_false h hdue

/-! ### Entry into FAULT (R75, R76) -/

/-- Racks lost from a lane, in the words of the statements. -/
theorem loseRacks_toState (cause : HoldCause) {rs : List Rack} (hd : Tags rs) (e : Event) :
    (e.loseRacks cause rs).toState = { e.toState with
      racks := e.racks.filter (fun x => decide (x.tag ∉ rs.map (·.tag))) ++
        rs.map fun r => r.moved .held .unknown (some cause) e.now } := by
  have hother : ∀ (rs : List Rack) (e : Event),
      (e.loseRacks cause rs).toState = { e.toState with racks := (e.loseRacks cause rs).racks } := by
    intro rs
    induction rs with
    | nil => exact fun _ => rfl
    | cons r rs ih =>
      intro e
      refine (ih _).trans ?_
      rw [Event.join_toState, if_neg (by exact nofun)]
      rfl
  rw [hother, loseRacks_racks _ _ _ hd]

theorem loseRacks_out (cause : HoldCause) (rs : List Rack) : ∀ e : Event, (e.loseRacks cause rs).out = e.out := by
  induction rs with
  | nil => exact fun _ => rfl
  | cons r rs ih => exact fun e => (ih _).trans (Event.join_out _ _)

theorem loseRacks_wantPairing (cause : HoldCause) (rs : List Rack) :
    ∀ e : Event, (e.loseRacks cause rs).wantPairing = e.wantPairing := by
  induction rs with
  | nil => exact fun _ => rfl
  | cons r rs ih => exact fun e => (ih _).trans rfl

theorem moved_of_lane {r : Rack} (hp : r.place = .tunnel t) (cause : HoldCause) (now : Tick) :
    r.moved .held .unknown (some cause) now = { r with
      state := .held, place := .unknown, since := now, sheet := none, lastOutcome := some (.hold cause) } := by
  simp only [Rack.moved, hp, reduceCtorEq, if_false]

/-- The message of an EXIT abandoned. -/
def abandonment (s : State) (t : Tunnel) : List (Port × Message) :=
  match (s.tunnels.get t).deferredExit, s.finalRack t with
  | some p, some r => [(p, .exitAbandoned r.tag)]
  | _, _ => []

theorem abandonExit_word (e : Event) (t : Tunnel) : e.carries (e.abandonExit t) fun s =>
    ({ s with tunnels := s.tunnels.set t { s.tunnels.get t with deferredExit := none, gateShut := false } },
      abandonment s t) := by
  unfold Event.abandonExit abandonment
  dsimp only [Event.carries]
  cases (e.tunnels.get t).deferredExit <;> cases e.toState.finalRack t
  case some.some => exact ⟨rfl, rfl⟩
  all_goals exact ⟨rfl, (List.append_nil _).symm⟩

theorem filter_outside_lane {l : List Rack} (htags : Tags l) (t : Tunnel) :
    l.filter (fun x => decide (x.tag ∉ (laneIn l t).map (·.tag))) = l.filter (·.place ≠ .tunnel t) := by
  refine List.filter_congr fun x hx => decide_eq_decide.mpr (not_congr ⟨fun h => ?_, fun h => ?_⟩)
  · obtain ⟨y, hy, ht⟩ := List.mem_map.mp h
    obtain ⟨hym, hyp⟩ := mem_laneIn.mp hy
    obtain rfl := eq_of_tag htags hx hym ht
    exact hyp
  · exact List.mem_map_of_mem (mem_laneIn.mpr ⟨hx, h⟩)

theorem tags_laneIn {l : List Rack} (htags : Tags l) (t : Tunnel) : Tags (laneIn l t) :=
  htags.sublist (List.filter_sublist.map _)

theorem abandonExit_wantPairing (e : Event) (t : Tunnel) : (e.abandonExit t).wantPairing = e.wantPairing := by
  unfold Event.abandonExit
  dsimp only
  split <;> rfl

/-- The state of the event of a lost lane, before its tunnel enters FAULT. -/
def laneLost (s : State) (t : Tunnel) (c : TunnelContext) : State :=
  { s with
    racks := s.racks.filter (·.place ≠ .tunnel t) ++ (s.lane t).map fun r => { r with
      state := .held, place := .unknown, since := s.now, sheet := none, lastOutcome := some (.hold .tunnelFault) }
    tunnels := s.tunnels.set t c }

theorem loseRacks_of_lane (htags : Tags e.racks) (t : Tunnel) :
    (e.loseRacks .tunnelFault (e.toState.lane t)).toState = laneLost e.toState t (e.tunnels.get t) := by
  rw [lane_eq, loseRacks_toState _ (tags_laneIn htags t), laneLost, PerTunnel.set_get, ← filter_outside_lane htags t]
  refine congrArg (fun l => ({ e.toState with racks := _ ++ l } : State)) (List.map_congr_left fun r hr => ?_)
  exact moved_of_lane (mem_laneIn.mp hr).2 _ _

/-- What entry into FAULT makes, and what it leaves owing. -/
theorem enterFault_word (htags : Tags e.racks) (t : Tunnel) : e.carries (e.enterFault t) (·.tornDown t) ∧
    dues (e.enterFault t) = (true, e.room, e.wantIdle) ∧ (e.enterFault t).wantPairing = e.wantPairing := by
  obtain ⟨hstate, hout⟩ := abandonExit_word e t
  obtain ⟨-, hroom, hidle⟩ := dues_parts (dues_abandonExit e t)
  have hpair := abandonExit_wantPairing e t
  unfold Event.enterFault
  dsimp only
  generalize e.abandonExit t = e₁ at hstate hout hroom hidle hpair ⊢
  have hracks : e₁.racks = e.racks := (congrArg State.racks hstate).trans rfl
  generalize he₂ : e₁.setTunnel t (e₁.tunnels.get t).withoutTimers = e₂
  have hlost := loseRacks_of_lane (e := e₂) (by rw [← he₂, Event.setTunnel_racks, hracks]; exact htags) t
  have hlostOut := loseRacks_out .tunnelFault (e₂.toState.lane t) e₂
  obtain ⟨-, hlostRoom, hlostIdle⟩ := dues_parts (dues_loseRacks .tunnelFault (e₂.toState.lane t) e₂)
  have hlostPair := loseRacks_wantPairing .tunnelFault (e₂.toState.lane t) e₂
  generalize e₂.loseRacks .tunnelFault (e₂.toState.lane t) = e₃ at hlost hlostOut hlostRoom hlostIdle hlostPair ⊢
  have hst : e₂.toState = { e.toState with tunnels := e.tunnels.set t ({ e.tunnels.get t with
      deferredExit := none, gateShut := false } : TunnelContext).withoutTimers } := by
    subst he₂
    simp only [Event.setTunnel, hstate, PerTunnel.get_set_same, PerTunnel.set_set]
  have hst₃ : e₃.toState = laneLost e.toState t ({ e.tunnels.get t with
      deferredExit := none, gateShut := false } : TunnelContext).withoutTimers := by
    rw [hlost, hst]
    simp only [laneLost, PerTunnel.get_set_same, PerTunnel.set_set]
    rfl
  refine ⟨⟨?_, ?_⟩, ?_, ?_⟩
  · have : ((e₃.raise (.tunnelFault t)).enter t .fault).toState = { e₃.toState with
      notices := e₃.notices ||| (Notice.tunnelFault t).bit
      tunnels := e₃.tunnels.set t { e₃.tunnels.get t with state := .fault } } := rfl
    rw [this, hst₃]
    simp only [laneLost, PerTunnel.get_set_same, PerTunnel.set_set, State.tornDown]
    cases t <;> rfl
  · rw [Event.enter_out, Event.raise_out, hlostOut, ← he₂, Event.setTunnel_out, hout]
    have hrole : (e₃.raise (.tunnelFault t)).config = e.config := (congrArg State.config hst₃).trans rfl
    unfold State.toRole
    rw [hrole, List.append_assoc]
    rfl
  · simp only [dues, Event.enter_wantReeval, Event.enter_room, Event.enter_wantIdle, Event.raise_room,
      Event.raise_wantIdle, hlostRoom, hlostIdle, ← he₂, Event.setTunnel_room, Event.setTunnel_wantIdle, hroom, hidle]
  · rw [Event.enter_wantPairing, Event.raise_wantPairing, hlostPair, ← he₂, Event.setTunnel_wantPairing, hpair]

/-- A lane torn down, and the re-evaluation that follows. -/
theorem settled_enterFault (h : s.recordLaw) (t : Tunnel) :
    settled (s.event.enterFault t) = followed (s.tornDown t) (·.reconsidered) := by
  have hlaw := lawful_event h
  obtain ⟨⟨hstate, hout⟩, hdues, hpair⟩ := enterFault_word (e := s.event) hlaw.tags t
  have hg : Grantable (s.event.enterFault t).toState :=
    grantable_of_pendingSound ((recordLaw_iff _).mp (lawful_acts hlaw (.single .tornDown)).law).2
  rw [settled_reconsidered (reeval := true) (idle := false) hpair hdues hg nofun, followed_whenever_false, hstate, hout]
  rfl

/-- Settles O35: the torn-down lane of `enterFault_word`, then the re-evaluation. -/
theorem faultTearsTheLaneDown : Obligations.FaultTearsTheLaneDown := by
  intro p t expiry s h
  have htimer (hr : s.rstLow = false)
      (h : ¬ ((s.tunnels.get t).state = .flushing ∧ timerDue s.now (s.tunnels.get t).flushTimer = true)) :
      exec (.flushTimerExpiry t) s = .next s := by
    simp only [exec, execFlushTimerExpiry, unlessReset_of_high hr, if_neg h]
  refine ⟨fun hf hoff hfault => ?_, fun hr hst htm hdue => ?_, fun hr htm hdue => htimer hr ?_,
    fun hr hn => htimer hr ?_⟩
  · have htank : s.event.tankReport t .fault = s.event.enterFault t := by
      have hoff' : (s.event.tunnels.get t).state ≠ .off := hoff
      have hfault' : (s.event.tunnels.get t).state ≠ .fault := hfault
      unfold Event.tankReport
      dsimp only
      split <;> simp_all
    have := exec_tank hf .fault htank
    rw [settled_enterFault h] at this
    refine this.trans ?_
    rw [Event.enterFault, state_of_entered]
    rfl
  · have hdue' : timerDue s.now (s.tunnels.get t).flushTimer = true := (timerDue_iff _ _).mpr ⟨expiry, htm, hdue⟩
    simp only [exec, execFlushTimerExpiry, unlessReset_of_high hr, if_pos (And.intro hst hdue'), ended_settled,
      settled_enterFault h]
  · exact fun hc => timerDue_false (.inr ⟨htm, hdue⟩) hc.2
  · rintro ⟨hst, hdue⟩
    rcases hn with hn | hn
    · exact hn hst
    · exact timerDue_false (start := expiry) (.inl hn) hdue

end Sys2Proof.Proofs.TunnelStates
end

section
/-! ADMIT (R80 to R91) and the admission timers (R87, R88, R92). -/

namespace Sys2Proof.Proofs.Admission

open Sys2Proof.Machine Sys2Proof.Proofs.Tables Sys2Proof.Proofs.Acts Sys2Proof.Proofs.ActsKeepTheTable
  Sys2Proof.Proofs.Requests Sys2Proof.Proofs.Words Sys2Proof.Proofs.Owing Sys2Proof.Proofs.GateTests
  Sys2Proof.Proofs.Endings Sys2Proof.Proofs.Rows Sys2Proof.Proofs.Desk Sys2Proof.Proofs.Enrolment
  Sys2Proof.Proofs.Pairing Sys2Proof.Proofs.Departures Sys2Proof.Proofs.Chains

variable {s : State} {e e' : Event} {t : Tunnel} {r : Rack} {p : Port} {tag : BitVec 24}

/-! ### The end of the event of an ADMIT -/

theorem calm_pass_of_none (h : e.pendingAdmission = none) : Calm e.pass := by
  obtain ⟨hgates, hsilent⟩ := gated_roomReports e
  have hpass : e.pass = { e.roomReports with wantReeval := false } := reevaluate_of_none (hgates.pending.trans h)
  rw [hpass]
  exact ⟨hsilent, rfl⟩

theorem pairIfWanted_of_unwanted (h : e.wantPairing = false) : e.pairIfWanted = e := by
  simp only [Event.pairIfWanted, h, Bool.false_eq_true, if_false]

/-- An admission made at once. -/
theorem settled_admitted (h : Admitted s.event e t r) (hp : s.pendingAdmission = none) (hw : e.wantPairing = false) :
    settled e = followed (s.admittedInto t r) (·.retestedAfter r.place) := by
  have hrest := h.rest rfl hp
  have hcalm : Calm e.pass := calm_pass_of_none (h.pending.trans hp)
  have hsettle : e.settle = e.pass.pass.pass.idleIfWanted := by
    rw [Event.settle, pairIfWanted_of_unwanted hw, hcalm.pass, hcalm.pass, hcalm.pass]
  rw [settled, hsettle, hrest.1, hrest.2]
  exact Eq.trans (b := followed (followed (s.admittedInto t r) (·.retestedAfter r.place))
    (whenever false (·.idledBoth))) rfl (followed_whenever_false _ _)

/-- An admission that becomes pending: the tests of R90. -/
theorem settled_becomePending {q : PendingAdmission} (hc : s.chosenTunnel = none) :
    settled (s.event.becomePending q).event = ({ s with pendingAdmission := some q } : State).wakened := by
  have hu : Unserved { s.event with pendingAdmission := some q } := ⟨nofun, hc, rfl, rfl⟩
  have hpair : (s.event.becomePending q).event.wantPairing = false := by
    unfold Event.becomePending
    exact (desk_parts (desk_wake _)).2.2
  have hwoken := carries_wakened_then (rest := fun e => e.pass.pass.pass.idleIfWanted)
    (fun _ h hl => (rest_of_lull h hl).2) hu
  rw [settled, Event.settle, pairIfWanted_of_unwanted hpair]
  exact Prod.ext hwoken.1 (hwoken.2.trans (List.nil_append _))

/-! ### ADMIT (R81 to R85) -/

/-- A request that a port with something deferred refuses. -/
theorem exec_request_deferred {c : Instr} {k : ReqKind} {payload : List Byte} {role : Role} {req : Request}
    (hf : s.free p role) (hw : c.wire = some (p, k, payload)) (hk : k ∈ role.kinds)
    (hp : parseRequest k payload = some req) (hb : s.deferredBusy p k = true) :
    exec c s = .next (s.answered p k payload .busy) := by
  obtain ⟨hr, rfl, hq⟩ := hf
  rw [exec_wire_of_high hw hr, arrive_refused hq (judge_of_deferred hk hp hb), State.pushAnswer_answered]

section Exec

variable (hf : s.free p .infeed) (ht : validTag tag)
include hf ht

theorem exec_admit_busy (h : s.pendingAdmission ≠ none) :
    exec (.admitRequest p tag) s = .next (s.answered p .admitRequest (tagBytes tag.toNat) .busy) := by
  have hparse : parseRequest .admitRequest (tagBytes tag.toNat) = some (.admitRequest tag.toNat) :=
    parse_tag_of_valid rfl ht
  cases hb : s.deferredBusy p .admitRequest with
  | true => exact exec_request_deferred hf rfl (by decide) hparse hb
  | false =>
    refine exec_request_refused hf rfl (by decide) hparse hb ?_
    have hsome : s.event.pendingAdmission.isSome = true := Option.isSome_iff_ne_none.mpr h
    simp only [Event.owner, Event.serveAdmit, hsome, if_true]

theorem exec_admit (h : s.pendingAdmission = none) {v : Served} (hv : s.event.serveAdmit p tag.toNat = v) :
    exec (.admitRequest p tag) s =
      .next (replied (settled v.event) p .admitRequest (tagBytes tag.toNat) v.status v.fields) := by
  have hb : s.deferredBusy p .admitRequest = false := by
    simp only [State.deferredBusy, h]
    rfl
  rw [exec_request hf rfl (by decide) (parse_tag_of_valid (g := .admitRequest) rfl ht) hb, Event.owner, hv]

end Exec

section Serve

variable {n : Nat} {i : Fin 8} (h : s.pendingAdmission = none)
include h

/-- Nothing is pending at the event of the ADMIT. -/
theorem not_pending : s.event.pendingAdmission.isSome = false := by
  rw [show s.event.pendingAdmission = none from h]
  rfl

theorem serveAdmit_inadmissible (hr : s.rack? n = some r) (ha : ¬ r.admissible = true) :
    s.event.serveAdmit p n = ⟨s.event, .badState, .alone⟩ := by
  have hr' : s.event.toState.rack? n = some r := hr
  simp only [Event.serveAdmit, not_pending h, hr', Bool.false_eq_true, if_false, if_neg ha]

theorem serveAdmit_known (hr : s.rack? n = some r) (ha : r.admissible = true) (hc : s.chosenTunnel = some t) :
    s.event.serveAdmit p n = ⟨s.event.admitRack t r, .done, .admitted t⟩ := by
  have hr' : s.event.toState.rack? n = some r := hr
  have hc' : s.event.toState.chosenTunnel = some t := hc
  simp only [Event.serveAdmit, not_pending h, hr', Bool.false_eq_true, if_false, if_pos ha, hc']

theorem serveAdmit_known_waits (hr : s.rack? n = some r) (ha : r.admissible = true) (hc : s.chosenTunnel = none) :
    s.event.serveAdmit p n = s.event.becomePending ⟨n, p, none⟩ := by
  have hr' : s.event.toState.rack? n = some r := hr
  have hc' : s.event.toState.chosenTunnel = none := hc
  simp only [Event.serveAdmit, not_pending h, hr', Bool.false_eq_true, if_false, if_pos ha, hc']

variable (hr : s.rack? n = none) (hm : s.matchedBy n i) (he : s.config.tagWindows[i].enrol = true) (hl : s.load < 160)
include hr hm he hl

theorem serveAdmit_new (hc : s.chosenTunnel = some t) : s.event.serveAdmit p n =
    ⟨s.event.admitNew t n s.config.tagWindows[i].attributes, .done, .admitted t⟩ := by
  have hr' : s.event.toState.rack? n = none := hr
  have hc' : s.event.toState.chosenTunnel = some t := hc
  have htests := enrolTests_passed (own := fun _ => none) hm he rfl hl
  simp only [Event.serveAdmit, not_pending h, hr', Bool.false_eq_true, if_false, htests, hc']

theorem serveAdmit_new_waits (hc : s.chosenTunnel = none) : s.event.serveAdmit p n =
    s.event.becomePending ⟨n, p, some s.config.tagWindows[i].attributes⟩ := by
  have hr' : s.event.toState.rack? n = none := hr
  have hc' : s.event.toState.chosenTunnel = none := hc
  have htests := enrolTests_passed (own := fun _ => none) hm he rfl hl
  simp only [Event.serveAdmit, not_pending h, hr', Bool.false_eq_true, if_false, htests, hc']

end Serve

/-- Settles O38: the refusals, and the two admissions by what `Admitted` says of them. -/
theorem admitByItsTests : Obligations.AdmitByItsTests := by
  intro p tag t i n r s hf ht
  refine ⟨exec_admit_busy hf ht, fun hp hr hs hh => ?_, fun hr hadm hc _ hp => ?_, ?_⟩
  · have ha : ¬ r.admissible = true := fun ha => ((admissible_iff r).mp ha).elim hs hh
    rw [exec_admit hf ht hp (serveAdmit_inadmissible hp hr ha), settled_event, replied_nothing]
  · have ha := (admissible_iff r).mpr hadm
    have hw : (s.event.admitRack t r).wantPairing = false := (desk_parts (desk_admitRack ha s.event t)).2.2
    have hmade : Admitted s.event (s.event.admitRack t r) t r := admitted_rack (e := s.event) (admits_of_chosen hc) ha
    rw [exec_admit hf ht hp (serveAdmit_known hp hr ha hc), settled_admitted hmade hp hw]
  · rintro hr hm he hl hn hc hp rfl
    have hw := (desk_parts (desk_admitNew s.event t tag.toNat s.config.tagWindows[i].attributes)).2.2
    have hmade := admitted_new (e := s.event) (admits_of_chosen hc) tag.toNat s.config.tagWindows[i].attributes
    rw [exec_admit hf ht hp (serveAdmit_new hp hr hm he hl hc), settled_admitted hmade hp hw]
    rw [show s.event.toState.freeSlot = n from State.freeSlot_eq hn]
    exact congrArg (fun m => Host.Outcome.next (replied m _ _ _ _ _)) (followed_stay _)

/-- Settles O39: nothing is chosen, so the admission waits and the tests of R90 are made. -/
theorem admitWaitsAndWakes : Obligations.AdmitWaitsAndWakes := by
  intro p tag i r s hf ht hp hc
  refine ⟨fun hr hadm => ?_, fun hr hm he hl => ?_⟩
  · have hv := serveAdmit_known_waits (p := p) hp hr ((admissible_iff r).mpr hadm) hc
    rw [exec_admit hf ht hp hv, settled_becomePending hc]
    rfl
  · rw [exec_admit hf ht hp (serveAdmit_new_waits hp hr hm he hl hc), settled_becomePending hc]
    rfl

/-! ### The admission timers (R87, R88, R92) -/

/-- The event of a re-evaluation that changes nothing else. -/
def reevaluating (b : State) : Event := { b.event with wantReeval := true }

theorem settled_reevaluating (h : Grantable s) : settled (reevaluating s) = s.reconsidered := by
  have := settled_reconsidered (e := reevaluating s) (reeval := true) (idle := false) rfl rfl h nofun
  rw [this, followed_whenever_false]
  exact followed_pure _ _

theorem settled_reevaluating_unserved (hp : s.pendingAdmission ≠ none) (hc : s.chosenTunnel = none) :
    settled (reevaluating s) = s.wakened := by
  have hu : Unserved s.event := ⟨hp, hc, rfl, rfl⟩
  have hwoken := carries_wakened hu
  have hpass : (reevaluating s).pass = s.event.wake := by
    rw [pass_of_silent rfl]
    exact Unserved.reevaluate (e := reevaluating s) ⟨hp, hc, rfl, rfl⟩ rfl
  rw [settled, Event.settle, pairIfWanted_of_unwanted (e := reevaluating s) rfl, hpass]
  exact Prod.ext hwoken.1 (hwoken.2.trans (List.nil_append _))

theorem exec_spacingExpiry (hr : s.rstLow = false) {x : Tick} (hx : s.lastAdmission.get t = some x) :
    exec (.spacingExpiry t) s =
      .next (if s.config.spacing ≤ (s.now - x).toNat then ended (settled (reevaluating s)) else s) := by
  simp only [exec, execSpacingExpiry, unlessReset_of_high hr, hx]
  rfl

theorem exec_boosterAgeing (hr : s.rstLow = false) : exec .boosterAgeing s =
    .next (if s.config.boosterWindow ≠ 0 ∧ ∃ x ∈ s.boosterHistory, s.config.boosterWindow ≤ (s.now - x).toNat then
      ended (settled (reevaluating s)) else s) := by
  simp only [exec, execBoosterAgeing, unlessReset_of_high hr, List.any_eq_true, decide_eq_true_eq]
  rfl

theorem exec_lastAdmissionAgeOut (hr : s.rstLow = false) {x : Tick} (hx : s.lastAdmission.get t = some x) :
    exec (.lastAdmissionAgeOut t) s = .next (if 200 ≤ (s.now - x).toNat then
      if 200 ≤ s.config.spacing then
        ended (settled (reevaluating { s with lastAdmission := s.lastAdmission.set t none }))
      else { s with lastAdmission := s.lastAdmission.set t none }
    else s) := by
  simp only [exec, execLastAdmissionAgeOut, unlessReset_of_high hr, hx]
  rfl

theorem exec_boosterEntryRemoval (hr : s.rstLow = false) {b : State}
    (hb : b = { s with boosterHistory := s.boosterHistory.filter fun y => decide ((s.now - y).toNat < 1200) }) :
    exec .boosterEntryRemoval s =
      .next (if 1200 ≤ s.config.boosterWindow ∧ ∃ x ∈ s.boosterHistory, 1200 ≤ (s.now - x).toNat then
        ended (settled (reevaluating b)) else b) := by
  subst hb
  simp only [exec, execBoosterEntryRemoval, unlessReset_of_high hr, List.any_eq_true, decide_eq_true_eq]
  rfl

/-- What a re-evaluation reads of the table is as before. -/
structure SameTable (s b : State) : Prop where
  racks : b.racks = s.racks
  pending : b.pendingAdmission = s.pendingAdmission
  now : b.now = s.now

theorem SameTable.grantable {b : State} (hb : SameTable s b) (h : s.recordLaw) : Grantable b := by
  intro q hq he
  rw [State.rack?, hb.racks]
  exact grantable_of_pendingSound ((recordLaw_iff s).mp h).2 q (hb.pending.symm.trans hq) he

theorem SameTable.freeSlot {b : State} (hb : SameTable s b) {n : Nat} (h : s.lowestFree n) : b.freeSlot = n := by
  refine State.freeSlot_eq ?_
  simpa only [State.lowestFree, hb.racks] using h

/-- A row that re-evaluates: the four clauses of what follows. -/
theorem reevaluation_clauses {b : State} (hb : SameTable s b) {o : Result}
    (ho : o = .next (ended (settled (reevaluating b)))) (q : PendingAdmission) (a : EnrolAttributes) (n : Nat) :
    (s.pendingAdmission = none → o = .next b) ∧
    (s.pendingAdmission = some q → b.chosenTunnel = none → o = .next (ended b.wakened)) ∧
    (s.pendingAdmission = some q → b.chosenTunnel = some t → s.recordLaw → q.enrol = none →
      s.rack? q.tag = some r → o = .next (ended (b.granted q t r))) ∧
    (s.pendingAdmission = some q → b.chosenTunnel = some t → s.recordLaw → q.enrol = some a → s.lowestFree n →
      r = newRack q.tag n a .washing (.tunnel t) s.now → o = .next (ended (b.granted q t r))) := by
  subst ho
  refine ⟨fun hn => ?_, fun hq hc => ?_, fun hq hc h he hr => ?_, fun hq hc h he hn hr => ?_⟩
  · have hn' := hb.pending.trans hn
    rw [settled_reevaluating (grantable_of_none hn'), State.reconsidered_of_none hn', ended_nothing]
  · rw [settled_reevaluating_unserved (by rw [hb.pending, hq]; nofun) hc]
  · have hr' : b.rack? q.tag = some r := by rw [State.rack?, hb.racks]; exact hr
    rw [settled_reevaluating (hb.grantable h)]
    simp only [State.reconsidered, hb.pending, hq, hc, he, hr']
  · rw [settled_reevaluating (hb.grantable h)]
    simp only [State.reconsidered, hb.pending, hq, hc, he, hb.freeSlot hn, hb.now, hr]

/-- Settles O40: each row by its condition, and where it re-evaluates by `reevaluation_clauses`. -/
theorem admissionTimers : Obligations.AdmissionTimers := by
  intro c u t x n q a r s b hr
  refine ⟨?rows, ?spacing, ?ageing, ?ageOut, ?aged, ?removal⟩
  case rows =>
    rintro (⟨rfl, hx, hd, rfl⟩ | ⟨rfl, hw, hm, hd, rfl⟩ | ⟨rfl, hx, hd, hs, rfl⟩ | ⟨rfl, hw, hm, hd, rfl⟩)
    · refine reevaluation_clauses (s := b) (by constructor <;> rfl) ?_ q a n
      rw [exec_spacingExpiry hr hx, if_pos hd]
    · refine reevaluation_clauses (s := b) (by constructor <;> rfl) ?_ q a n
      rw [exec_boosterAgeing hr, if_pos ⟨hw, x, hm, hd⟩]
    · refine reevaluation_clauses (s := s) (by constructor <;> rfl) ?_ q a n
      rw [exec_lastAdmissionAgeOut hr hx, if_pos hd, if_pos hs]
    · refine reevaluation_clauses (s := s) (by constructor <;> rfl) ?_ q a n
      rw [exec_boosterEntryRemoval hr rfl, if_pos ⟨hw, x, hm, hd⟩]
  case spacing =>
    rintro (hx | ⟨hx, hd⟩)
    · simp only [exec, execSpacingExpiry, unlessReset_of_high hr, hx]
    · rw [exec_spacingExpiry hr hx, if_neg (not_le.mpr hd)]
  case ageing =>
    intro h
    rw [exec_boosterAgeing hr, if_neg]
    rintro ⟨hw, y, hm, hd⟩
    exact h.elim hw fun h => absurd hd (not_le.mpr (h y hm))
  case ageOut =>
    rintro (hx | ⟨hx, hd⟩)
    · simp only [exec, execLastAdmissionAgeOut, unlessReset_of_high hr, hx]
    · rw [exec_lastAdmissionAgeOut hr hx, if_neg (not_le.mpr hd)]
  case aged =>
    intro hx hd hs
    rw [exec_lastAdmissionAgeOut hr hx, if_pos hd, if_neg (not_le.mpr hs)]
  case removal =>
    intro h
    rw [exec_boosterEntryRemoval hr rfl, if_neg]
    rintro ⟨hw, y, hm, hd⟩
    exact h.elim (fun h => absurd hw (not_le.mpr h)) fun h => absurd hd (not_le.mpr (h y hm))

end Sys2Proof.Proofs.Admission
end

section
/-! The pass: section reports (R102 to R109) and samples (R117 to R125). -/

namespace Sys2Proof.Proofs.Reports

open Sys2Proof.Machine Sys2Proof.Proofs.Tables Sys2Proof.Proofs.Acts Sys2Proof.Proofs.ActsKeepTheTable
  Sys2Proof.Proofs.Requests Sys2Proof.Proofs.Words Sys2Proof.Proofs.Owing Sys2Proof.Proofs.GateTests
  Sys2Proof.Proofs.GateWords Sys2Proof.Proofs.Endings Sys2Proof.Proofs.LaneLists Sys2Proof.Proofs.TunnelStates
  Sys2Proof.Proofs.Chains Sys2Proof.Proofs.Beginnings Sys2Proof.Proofs.Pairing Sys2Proof.Proofs.Desk

variable {s : State} {t : Tunnel} {p : Port} {r : Rack} {sh : PassSheet} {st next : Stage} {older younger : List Rack}
  {seq fault stage : Byte} {m : BitVec 16}

/-! ### Requests on a tunnel's port -/

/-- A request on a free port of tunnel `t`. -/
theorem exec_on_tunnel {c : Instr} {k : ReqKind} {payload : List Byte} {req : Request} {v : Served}
    (hf : s.free p (.tunnel t)) (hw : c.wire = some (p, k, payload)) (hk : k ∈ (Role.tunnel .a).kinds)
    (hp : parseRequest k payload = some req) (hb : s.deferredBusy p k = false) (hv : s.event.owner p t req = v) :
    exec c s = .next (replied (settled v.event) p k payload v.status v.fields) := by
  rw [exec_request hf hw hk hp hb, show (Role.tunnel t).tunnelOrA = t from rfl, hv]

theorem raise_trackFault (s : State) (t : Tunnel) :
    s.raise (.trackFault t) = { s with notices := s.notices ||| trackFault t } := by
  cases t <;> rfl

/-- A request on a tunnel's port that raises TRACK_FAULT and changes nothing else. -/
theorem exec_track_fault {c : Instr} {k : ReqKind} {payload : List Byte} {req : Request} {status : Status}
    {fields : Fields} (hf : s.free p (.tunnel t)) (hw : c.wire = some (p, k, payload))
    (hk : k ∈ (Role.tunnel .a).kinds) (hp : parseRequest k payload = some req) (hb : s.deferredBusy p k = false)
    (hv : s.event.owner p t req = ⟨s.event.raise (.trackFault t), status, fields⟩) :
    exec c s =
      .next (({ s with notices := s.notices ||| trackFault t } : State).answered p k payload status fields) := by
  rw [exec_on_tunnel hf hw hk hp hb hv, settled_raise, replied_nothing, raise_trackFault]

/-! ### SECTION -/

theorem reportedStage_of_code (hn : st ≠ .final) (h : stage.toNat = st.code) :
    reportedStageOf stage.toNat = some st := by
  rw [h]
  cases st
  case final => exact absurd rfl hn
  all_goals rfl

theorem parse_section_of_stage (hn : st ≠ .final) (h : stage.toNat = st.code) (hf : fault.toNat ≤ 15) :
    parseRequest .sectionReport (stage :: seq :: bytesOf 2 m.toNat ++ [fault]) =
      some (.sectionReport st seq m.toNat fault.toNat) := by
  rw [parse_section, reportedStage_of_code hn h, Option.bind_some, if_pos hf]

/-- The next required section: the first one after `st` that is required. -/
theorem next_eq {required : Stages} (hlt : st.code < next.code) (hreq : required.has next = true)
    (hbetween : ∀ z ∈ [Stage.wash, .rinse], st.code < z.code → z.code < next.code → required.has z = false) :
    required.next st = next := by
  simp only [List.forall_mem_cons, List.not_mem_nil, IsEmpty.forall_iff, implies_true, and_true] at hbetween
  cases st <;> cases next <;> simp_all [Stages.next, Stages.has, Stage.code]

theorem capacity_eq (st : Stage) : st.capacity = if st = .pre ∨ st = .wash then 2 else 1 := by cases st <;> rfl

/-- The first rack of a list in section `st`. -/
theorem find_stage (hn : ∀ y ∈ older, y.stage? ≠ some st) (hs : r.sheet = some sh) (hst : sh.stage = st) :
    (older ++ r :: younger).find? (fun y => decide (y.stage? = some st)) = some r := by
  have hr : r.stage? = some st := by rw [Rack.stage?, hs, ← hst]; rfl
  rw [List.find?_append, List.find?_eq_none.mpr fun y hy => by simpa using hn y hy, Option.none_or]
  exact List.find?_cons_of_pos (by simpa using hr)

theorem olderThan_eq (h : Tags (older ++ r :: younger)) : olderThan (older ++ r :: younger) r.tag = older := by
  have hne : ∀ y ∈ older, decide (y.tag ≠ r.tag) = true := by
    intro y hy
    refine decide_eq_true fun ht => ?_
    have hnodup : ((older ++ r :: younger).map (·.tag)).Nodup := h
    rw [List.map_append, List.nodup_append] at hnodup
    exact hnodup.2.2 _ (List.mem_map_of_mem hy) _ (List.mem_map_of_mem List.mem_cons_self) ht
  rw [olderThan, List.takeWhile_append_of_pos hne, List.takeWhile_cons_of_neg (by simp), List.append_nil]

theorem anyBefore_false_iff (l : List Rack) (st : Stage) : anyBefore l st = false ↔
    ∀ y ∈ l, ∀ z ∈ [Stage.pre, .wash, .rinse, .final], y.stage? = some z → st.code ≤ z.code := by
  have hall (z : Stage) : z ∈ [Stage.pre, .wash, .rinse, .final] := by cases z <;> decide
  rw [anyBefore, List.any_eq_false]
  refine forall₂_congr fun y _ => ?_
  cases hy : y.stage? with
  | none => exact ⟨nofun, nofun⟩
  | some x =>
    simp only [Stage.before, decide_eq_true_eq, not_lt, Option.some.injEq]
    exact ⟨fun h z _ hz => hz ▸ h, fun h => h x (hall x) rfl⟩

/-- The room test of an advance (R61, R106). -/
theorem advanceRoom_iff (hd : Tags (s.lane t)) (hl : s.lane t = older ++ r :: younger) (next : Stage) :
    s.advanceRoom t r.tag next = true ↔
      ((s.lane t).filter fun y => decide (y.stage? = some next)).length <
        (if next = .pre ∨ next = .wash then 2 else 1) ∧
      ∀ y ∈ older, ∀ z ∈ [Stage.pre, .wash, .rinse, .final], y.stage? = some z → next.code ≤ z.code := by
  have holder : olderThan (s.lane t) r.tag = older := by
    rw [hl] at hd ⊢
    exact olderThan_eq hd
  rw [State.advanceRoom, Bool.and_eq_true, decide_eq_true_eq, holder, Bool.not_eq_true', anyBefore_false_iff,
    capacity_eq, stageCount]

/-- The stored pair of a measurement and a fault code (R103). -/
theorem storedPair_eq (m : BitVec 16) (fault : Nat) : storedPair m.toNat fault =
    (if m.toNat ≤ 1200 then some m.toNat else none, if m.toNat ≤ 1200 ∨ m = 0xFFFF then fault else 15) := by
  have hnone : m.toNat = 0xFFFF ↔ m = 0xFFFF := ⟨fun h => BitVec.eq_of_toNat_eq h, fun h => h ▸ rfl⟩
  unfold storedPair
  by_cases h : m.toNat ≤ 1200
  · simp only [h, if_true, true_or]
  · by_cases hm : m = 0xFFFF
    · rw [if_neg h, if_pos (hnone.mpr hm), if_neg h, if_pos (.inr hm)]
    · rw [if_neg h, if_neg (mt hnone.mp hm), if_neg h, if_neg (not_or_intro h hm)]

/-- The sheet of an advance in the words of the statements. -/
theorem advanced_sheet (hn : st ≠ .final) (sh : PassSheet) (f : Fragment) (now : Tick) :
    (sh.withFragment st f).enterStage next now = { sh with
      stage := next
      preFragment := if st = .pre then some f else sh.preFragment
      washFragment := if st = .wash then some f else sh.washFragment
      rinseFragment := if st = .rinse then some f else sh.rinseFragment
      finalEntry := if next = .final then some now else sh.finalEntry
      reference := if next = .final then some now else sh.reference } := by
  unfold PassSheet.enterStage
  cases st
  case final => exact absurd rfl hn
  all_goals
    by_cases h : next = .final
    · subst h
      rfl
    · simp only [h, if_false]
      rfl

/-- The event of an accepted report: the advance, and the re-evaluation that it sets off. -/
theorem settled_advanced (h : s.recordLaw) (hr : r ∈ s.lane t) (hs : r.sheet = some sh) (hst : sh.stage = st)
    (hn : st ≠ .final) (hnext : sh.required.next st = next) (hroom : s.advanceRoom t r.tag next = true) (f : Fragment) :
    settled { (s.event.modifySheet r.tag fun sh' => (sh'.withFragment st f).enterStage next s.now) with
        wantReeval := true } =
      (s.withSheet r.tag ((sh.withFragment st f).enterStage next s.now)).reconsidered := by
  subst hnext
  have hlaw := lawful_event h
  have hmember : r ∈ s.event.racks := (mem_lane.mp hr).1
  have hstate := modifySheet_toState (e := s.event) hlaw.tags hmember hs
    fun sh' => (sh'.withFragment st f).enterStage (sh.required.next st) s.now
  have hacts : Acts s s.event (s.event.modifySheet r.tag fun sh' =>
      (sh'.withFragment st f).enterStage (sh.required.next st) s.now) :=
    .single (.advanced (e := s.event) hr hs hst hn hroom)
  have hg := grantable_of_pendingSound ((recordLaw_iff _).mp (lawful_acts hlaw hacts).law).2
  rw [settled_reconsidered (e := { (s.event.modifySheet r.tag fun sh' =>
    (sh'.withFragment st f).enterStage (sh.required.next st) s.now) with wantReeval := true }) (reeval := true)
    (idle := false) rfl rfl hg nofun, followed_whenever_false]
  refine (followed_pure _ _).trans ?_
  exact congrArg State.reconsidered hstate

/-- Settles O41: the report's own rack and section, then the room test of the advance. -/
theorem sectionReports : Obligations.SectionReports := by
  intro p t stage seq fault m st next older younger r sh f payload s hf hfault hn hstage hpayload
  subst hpayload
  have hparse : parseRequest .sectionReport (stage :: seq :: bytesOf 2 m.toNat ++ [fault]) =
      some (.sectionReport st seq m.toNat fault.toNat) := parse_section_of_stage hn hstage hfault
  refine ⟨fun hempty => exec_track_fault hf rfl (by decide) hparse rfl ?_,
    fun h hl holder hs hst hlt hreq hbetween => ?_⟩
  · have hfind : (s.event.toState.lane t).find? (fun y => decide (y.stage? = some st)) = none :=
      List.find?_eq_none.mpr fun y hy => by simpa using hempty y hy
    simp only [Event.owner, Event.serveSection, hfind]
  · have hfind : (s.event.toState.lane t).find? (fun y => decide (y.stage? = some st)) = some r := by
      rw [show s.event.toState.lane t = older ++ r :: younger from hl]
      exact find_stage holder hs hst
    have hnext := next_eq hlt hreq hbetween
    have hr : r ∈ s.lane t := hl ▸ List.mem_append_right _ List.mem_cons_self
    have hiff := advanceRoom_iff (tags_laneIn (lawful_event h).tags t) hl next
    refine ⟨fun hroom hfrag => ?_, fun hfull => exec_track_fault hf rfl (by decide) hparse rfl ?_⟩
    · have hroom' : s.event.toState.advanceRoom t r.tag next = true := hiff.mpr hroom
      have hv : s.event.owner p t (.sectionReport st seq m.toNat fault.toNat) =
          ⟨{ (s.event.modifySheet r.tag fun sh' => (sh'.withFragment st f).enterStage next s.now) with
            wantReeval := true }, .done, .advanced r.tag next f.slip f.measurement f.faultCode⟩ := by
        simp only [Event.owner, Event.serveSection, hfind, hs, hnext, if_pos hroom', storedPair_eq, hfrag]
        rfl
      rw [exec_on_tunnel hf rfl (by decide) hparse rfl hv, settled_advanced h hr hs hst hn hnext hroom' f,
        advanced_sheet hn]
    · have hroom' : ¬ s.event.toState.advanceRoom t r.tag next = true := by
        refine fun hc => ?_
        obtain ⟨hcount, hbefore⟩ := hiff.mp hc
        rcases hfull with hge | ⟨y, hy, z, hz, hyz, hlt⟩
        · exact absurd hcount (not_lt.mpr hge)
        · exact absurd (hbefore y hy z hz hyz) (not_le.mpr hlt)
      simp only [Event.owner, Event.serveSection, hfind, hs, hnext, if_neg hroom']

/-! ### Sheets written twice -/

theorem withSheet_withSheet (s : State) (tag : Nat) (sh sh' : PassSheet) :
    (s.withSheet tag sh).withSheet tag sh' = s.withSheet tag sh' := by
  unfold State.withSheet
  dsimp only
  rw [List.map_map]
  refine congrArg (fun l => ({ s with racks := l } : State)) (List.map_congr_left fun x _ => ?_)
  rw [Function.comp_apply]
  by_cases h : x.tag = tag
  · rw [if_pos h, if_pos h, if_pos (show ({ x with sheet := some sh } : Rack).tag = tag from h)]
  · rw [if_neg h, if_neg h]

theorem lane_length_withSheet (s : State) (tag : Nat) (sh : PassSheet) (t : Tunnel) :
    ((s.withSheet tag sh).lane t).length = (s.lane t).length := by
  rw [lane_withSheet]
  exact List.length_map _

/-- A sheet written beside it sets off no re-evaluation. -/
theorem reevaluated_withSheet (s : State) (tag : Nat) (sh : PassSheet) (x : Made) :
    (s.withSheet tag sh).reevaluated x = s.reevaluated x := by
  unfold State.reevaluated
  rw [lane_length_withSheet, lane_length_withSheet]

/-- The judgement writes the whole sheet. -/
theorem judgedAt_withSheet (s : State) (t : Tunnel) (r : Rack) (o : Option PassSheet) (sh₀ sh : PassSheet) :
    (s.withSheet r.tag sh₀).judgedAt t { r with sheet := o } sh = s.judgedAt t r sh := by
  unfold State.judgedAt
  dsimp only
  rw [withSheet_withSheet]
  rfl

theorem readied_of_ready (hf : s.finalRack t = some r) (hs : r.sheet = some sh) (hv : sh.verdict = none)
    (h : sh.isReady s.config s.now) : s.readied t = s.judgedAt t r sh := by
  simp only [State.readied, hf, hs]
  exact if_pos ⟨hv, h⟩

theorem readied_of_unready (hf : s.finalRack t = some r) (hs : r.sheet = some sh)
    (h : sh.verdict ≠ none ∨ ¬ sh.isReady s.config s.now) : s.readied t = (s, []) := by
  simp only [State.readied, hf, hs]
  exact if_neg fun hc => h.elim (· hc.1) (· hc.2)

theorem readied_of_empty (hf : s.finalRack t = none) : s.readied t = (s, []) := by
  simp only [State.readied, hf]

theorem reevaluated_stay (s : State) : s.reevaluated (s, []) = (s, []) := if_pos ⟨rfl, rfl⟩

/-! ### SAMPLE -/

/-- The sheet of a sample in the words of the statements. -/
theorem sampled_eq {ref : Tick} (h : sh.reference = some ref) (x : Nat) (now : Tick) : sh.sampled x now = { sh with
    credit := min (sh.credit + sh.increment x now) 16777215
    gap := sh.gap || decide (20 < (now - ref).toNat) || decide (1200 < x)
    reference := some now } := by
  unfold PassSheet.sampled sensorFault
  rw [PassSheet.sinceReference, h]
  rfl

theorem interval_eq {ref : Tick} (h : sh.reference = some ref) (now : Tick) :
    sh.interval now = min (now - ref).toNat 20 := by
  rw [PassSheet.interval, PassSheet.sinceReference, h]
  rfl

theorem increment_eq (sh : PassSheet) (x : Nat) (now : Tick) :
    sh.increment x now = if 1200 < x then 0 else weight x * sh.interval now := by
  unfold PassSheet.increment sensorFault
  simp only [decide_eq_true_eq]

theorem readinessTest_owes (e : Event) (t : Tunnel) :
    (e.readinessTest t).room = e.room ∧ (e.readinessTest t).wantPairing = e.wantPairing := by
  rcases e.readinessTest_cases t with h | ⟨r, sh, -, -, -, -, h⟩ <;> rw [h]
  · exact ⟨rfl, rfl⟩
  · split
    · exact ⟨releaseTest_room _ t true, (desk_parts (desk_releaseTest t true)).2.2⟩
    · exact ⟨rfl, rfl⟩

/-- An event that ends with a readiness test. -/
theorem settled_readied {s₀ : State} {e : Event} (h : Lawful s₀ e) (hfinals : FinalsFrom s₀ e) (ho : e.out = [])
    (hp : e.wantPairing = false) (hd : dues e = (false, ⟨false, false⟩, false)) (t : Tunnel) :
    settled (e.readinessTest t) = e.toState.reevaluated (e.toState.readied t) := by
  have hg := grantable_of_pendingSound
    ((recordLaw_iff _).mp (lawful_acts h (acts_readinessTest hfinals t).1).law).2
  obtain ⟨hroom, hpair⟩ := readinessTest_owes e t
  exact settled_gated (gated_readinessTest h.tags t) ho (hpair.trans hp) hd
    (hroom.trans (congrArg (·.2.1) hd)) hg

/-- The event of a sample, with the tick set. -/
def sampling (s : State) (t : Tunnel) : Event :=
  s.event.setTunnel t { s.tunnels.get t with lastSample := some s.now }

theorem settled_sampled (h : s.recordLaw) (hf : s.finalRack t = some r) (hs : r.sheet = some sh) (x : Nat) :
    settled (((sampling s t).modifySheet r.tag fun sh' => sh'.sampled x s.now).readinessTest t) =
      (sampling s t).toState.reevaluated (((sampling s t).toState.withSheet r.tag (sh.sampled x s.now)).readied t) := by
  have hlaw : Lawful s (sampling s t) := lawful_acts (lawful_event h) (acts_same (same_setTunnel rfl))
  obtain ⟨hm, hp, hfin⟩ := mem_of_finalRack hf
  have hfinals : FinalsFrom s (sampling s t) := (FinalsFrom.event s).of_racks rfl
  have hsheet : Act s (sampling s t) ((sampling s t).modifySheet r.tag fun sh' => sh'.sampled x s.now) :=
    .sheet hm hp (sheetKept_final hfin (fun _ => rfl) (fun _ => rfl) (fun _ => rfl)
      (fun sh' _ => sampled_credit_le sh' x s.now) (fun _ _ => rfl) fun _ _ hv => .inl hv)
  have hstate := modifySheet_toState (e := sampling s t) hlaw.tags hm hs fun sh' => sh'.sampled x s.now
  rw [settled_readied (lawful_acts hlaw (.single hsheet)) (hfinals.modifySheet fun _ => rfl) rfl rfl rfl t, hstate,
    reevaluated_withSheet]

/-- SAMPLE with a rack in FINAL. -/
theorem exec_sample (hf : s.free p (.tunnel t)) (h : s.recordLaw) (hr : s.finalRack t = some r)
    (hs : r.sheet = some sh) (x : BitVec 16) : exec (.sample p x) s =
      .next (replied ((sampling s t).toState.reevaluated
        (((sampling s t).toState.withSheet r.tag (sh.sampled x.toNat s.now)).readied t)) p .sample
        (bytesOf 2 x.toNat) .done (.sampled ((s.tunnels.get t).lastSample.map fun y => min (s.now - y).toNat 65535)
          (some ⟨r.tag, sh.interval s.now, sh.increment x.toNat s.now, (sh.sampled x.toNat s.now).credit,
            (sh.sampled x.toNat s.now).gap⟩))) := by
  have hv : s.event.owner p t (.sample x.toNat) =
      ⟨((sampling s t).modifySheet r.tag fun sh' => sh'.sampled x.toNat s.now).readinessTest t, .done,
        .sampled (s.sincePrevious t) (some ⟨r.tag, sh.interval s.now, sh.increment x.toNat s.now,
          (sh.sampled x.toNat s.now).credit, (sh.sampled x.toNat s.now).gap⟩)⟩ := by
    have hr' : (s.event.setTunnel t { s.event.tunnels.get t with lastSample := some s.event.now }).toState.finalRack t =
        some r := hr
    simp only [Event.owner, Event.serveSample, hr', hs]
    rfl
  rw [exec_on_tunnel hf rfl (by decide) (parse_sample x) rfl hv, settled_sampled h hr hs]
  rfl

/-- Settles O42: the sheet after the sample, then the readiness test of `settled_sampled`. -/
theorem sampleAccruesAndTests : Obligations.SampleAccruesAndTests := by
  rintro p t x since interval inc r sh sh' ref s s' hf rfl rfl
  refine ⟨fun hnone => ?_, fun h hr hs href hint hinc hsh' => ?_⟩
  · have hv : s.event.owner p t (.sample x.toNat) = ⟨sampling s t, .done, .sampled (s.sincePrevious t) none⟩ := by
      have hr' : (s.event.setTunnel t { s.event.tunnels.get t with
          lastSample := some s.event.now }).toState.finalRack t = none := hnone
      simp only [Event.owner, Event.serveSample, hr']
      rfl
    rw [exec_on_tunnel hf rfl (by decide) (parse_sample x) rfl hv,
      settled_of_nothing_owed (e := sampling s t) rfl rfl rfl rfl]
    rfl
  · have hsampled : sh.sampled x.toNat s.now = sh' := by
      rw [hsh', sampled_eq href, increment_eq, interval_eq href, hinc, hint]
    have hverdict : sh'.verdict = sh.verdict := by rw [← hsampled]; rfl
    have hstage : sh'.stage = sh.stage := by rw [← hsampled]; rfl
    have hexec := exec_sample hf h hr hs x
    rw [hsampled, increment_eq, interval_eq href, ← hint, ← hinc] at hexec
    rw [hexec]
    have hfinal : ((sampling s t).toState.withSheet r.tag sh').finalRack t = some { r with sheet := some sh' } :=
      finalRack_withSheet (lawful_event h).tags hr hs hstage
    refine ⟨fun hun => ?_, fun hv hready => ?_⟩
    · rw [readied_of_unready hfinal rfl (hun.imp_left (hverdict ▸ ·)), ← reevaluated_withSheet _ r.tag sh',
        reevaluated_stay]
      rfl
    · rw [readied_of_ready hfinal rfl (hverdict.trans hv) hready, judgedAt_withSheet (r := r)]
      rfl

end Sys2Proof.Proofs.Reports
end

section
/-! The exit gate: EXIT in order and out of order (R130 to R133), and the dwell expiries (R135). -/

namespace Sys2Proof.Proofs.ExitGate

open Sys2Proof.Machine Sys2Proof.Proofs.Tables Sys2Proof.Proofs.Acts Sys2Proof.Proofs.ActsKeepTheTable
  Sys2Proof.Proofs.Requests Sys2Proof.Proofs.Words Sys2Proof.Proofs.Owing Sys2Proof.Proofs.GateTests
  Sys2Proof.Proofs.GateWords Sys2Proof.Proofs.Endings Sys2Proof.Proofs.LaneLists Sys2Proof.Proofs.TunnelStates
  Sys2Proof.Proofs.Chains Sys2Proof.Proofs.Beginnings Sys2Proof.Proofs.Pairing Sys2Proof.Proofs.Desk
  Sys2Proof.Proofs.Reports Sys2Proof.Proofs.Rows

variable {s : State} {t : Tunnel} {p : Port} {r : Rack} {sh : PassSheet} {tag : BitVec 24}

/-! ### The dwell expiries -/

theorem dwelling_of_empty (h : s.finalRack t = none) : s.dwelling t = none := by
  simp only [State.dwelling, h, Option.bind_none]

theorem dwelling_of_judged (hf : s.finalRack t = some r) (hs : r.sheet = some sh) (hv : sh.verdict ≠ none) :
    s.dwelling t = none := by
  simp only [State.dwelling, hf, Option.bind_some, hs]
  exact if_neg fun h => hv h.1

theorem dwelling_eq (hf : s.finalRack t = some r) (hs : r.sheet = some sh) (hv : sh.verdict = none)
    (he : sh.finalEntry ≠ none) : s.dwelling t = some sh := by
  simp only [State.dwelling, hf, Option.bind_some, hs]
  exact if_pos ⟨hv, he⟩

/-- A dwell expiry, with its limit. -/
def IsDwellExpiry (c : Instr) (t : Tunnel) (limit : Nat) (s : State) : Prop :=
  (c = .minimumDwellExpiry t ∧ limit = s.config.minDwell) ∨
    (c = .maximumDwellExpiry t ∧ limit = max s.config.maxDwell s.config.minDwell)

section Dwell

variable {c : Instr} {limit : Nat} (hr : s.rstLow = false) (hc : IsDwellExpiry c t limit s)
include hr hc

theorem exec_dwell_none (h : s.dwelling t = none) : exec c s = .next s := by
  rcases hc with ⟨rfl, -⟩ | ⟨rfl, -⟩
  · simp only [exec, execMinimumDwellExpiry, unlessReset_of_high hr, h]
  · simp only [exec, execMaximumDwellExpiry, unlessReset_of_high hr, h]

theorem exec_dwell (h : s.dwelling t = some sh) : exec c s =
    .next (if limit ≤ sh.dwell s.now then ended (settled (s.event.readinessTest t)) else s) := by
  rcases hc with ⟨rfl, rfl⟩ | ⟨rfl, rfl⟩
  · simp only [exec, execMinimumDwellExpiry, unlessReset_of_high hr, h, ended_settled]
  · simp only [exec, execMaximumDwellExpiry, unlessReset_of_high hr, h, ended_settled]
    rfl

end Dwell

/-- Settles O48: the readiness test of `settled_readied`, once the dwell has reached the limit. -/
theorem dwellExpiries : Obligations.DwellExpiries := by
  intro c t limit r sh entry s hr h hc
  refine ⟨fun hf => exec_dwell_none hr hc (dwelling_of_empty hf),
    fun hf hs hv => exec_dwell_none hr hc (dwelling_of_judged hf hs hv), fun hf hs hv he => ?_⟩
  have hdwell : sh.dwell s.now = (s.now - entry).toNat := by
    rw [PassSheet.dwell, he]
    rfl
  have hsettled := settled_readied (lawful_event h) (FinalsFrom.event s) rfl rfl rfl t
  rw [exec_dwell hr hc (dwelling_eq hf hs hv (by rw [he]; nofun)), hdwell, hsettled]
  refine ⟨fun hno => ?_, fun hle hready => ?_⟩
  · by_cases hle : limit ≤ (s.now - entry).toNat
    · rw [if_pos hle, show s.event.toState.readied t = (s, []) from
        readied_of_unready hf hs (.inr (hno.resolve_left (not_lt.mpr hle)))]
      exact congrArg (fun m => Host.Outcome.next (ended m)) (reevaluated_stay s)
    · rw [if_neg hle]
  · rw [if_pos hle, show s.event.toState.readied t = s.judgedAt t r sh from readied_of_ready hf hs hv hready]
    rfl

/-! ### EXIT (R130) -/

/-- Neither gate waits for a deferred EXIT of this port. -/
theorem not_deferredBusy (ha : s.tunnels.a.deferredExit ≠ some p) (hb : s.tunnels.b.deferredExit ≠ some p) :
    s.deferredBusy p .exit = false := by
  rw [State.deferredBusy, decide_eq_false ha, decide_eq_false hb]
  rfl

/-- The event of an EXIT that has read the rack `r` in FINAL. -/
def reading (s : State) (t : Tunnel) (p : Port) (r : Rack) : Event :=
  (s.event.modifySheet r.tag fun sh => { sh with exitRequested := true }).setTunnel t
    { s.tunnels.get t with deferredExit := some p }

/-- The rack read. -/
def readRack (r : Rack) (sh : PassSheet) : Rack := { r with sheet := some { sh with exitRequested := true } }

theorem reading_toState (htags : Tags s.racks) (hr : r ∈ s.racks) (hs : r.sheet = some sh) :
    (reading s t p r).toState =
      ({ s with tunnels := s.tunnels.set t { s.tunnels.get t with deferredExit := some p } } : State).withSheet r.tag
        { sh with exitRequested := true } := by
  have h := modifySheet_toState (e := s.event) htags hr hs fun sh => { sh with exitRequested := true }
  rw [reading, Event.setTunnel]
  dsimp only
  rw [h]
  rfl

theorem finalRack_reading (htags : Tags s.racks) (hf : s.finalRack t = some r) (hs : r.sheet = some sh) :
    (reading s t p r).toState.finalRack t = some (readRack r sh) := by
  rw [reading_toState htags (mem_of_finalRack hf).1 hs]
  exact finalRack_withSheet (s := { s with tunnels := _ }) htags hf hs rfl

/-- An EXIT that reads the rack in FINAL for the first time. -/
theorem exitMatch_read (hs : r.sheet = some sh) (hx : sh.exitRequested = false) {e : Event}
    {outcome : Option (Verdict × Destination)} (ho : (reading s t p r).releaseTest t false = (e, outcome)) :
    s.event.exitMatch t p r = outcome.elim ⟨e, .wait, .atGate r.tag sh.verdict.isSome⟩
      fun x => ⟨e, .done, .released x.1 x.2⟩ := by
  have ho' : ((s.event.modifySheet r.tag fun sh => { sh with exitRequested := true }).setTunnel t
      { (s.event.modifySheet r.tag fun sh => { sh with exitRequested := true }).tunnels.get t with
        deferredExit := some p }).releaseTest t false = (e, outcome) := ho
  simp only [Event.exitMatch, hs, hx, Bool.false_eq_true, if_false, ho']
  cases outcome <;> rfl

section ReleaseTest

variable {e : Event} (hf : e.toState.finalRack t = some (readRack r sh))
include hf

theorem releaseTest_unjudged (hv : sh.verdict = none) (grant : Bool) : e.releaseTest t grant = (e, none) := by
  simp only [Event.releaseTest, hf, readRack, Option.bind_some, hv]

theorem releaseTest_shut {v : Verdict} (hv : sh.verdict = some v) (hrow : e.toState.gateRow t v r.passes = none)
    (grant : Bool) : e.releaseTest t grant =
      ((e.setTunnel t { e.tunnels.get t with gateShut := true }).raise (.exitBlocked t), none) := by
  rw [← State.gateDestination_eq] at hrow
  simp only [Event.releaseTest, hf, readRack, Option.bind_some, Option.map_some, Option.getD_some, hv, hrow]

theorem releaseTest_released {v : Verdict} {d : Destination} {cause : Option HoldCause} (hv : sh.verdict = some v)
    (hrow : e.toState.gateRow t v r.passes = some (d, cause)) :
    e.releaseTest t false = (e.release t (readRack r sh) v d cause, some (v, d)) := by
  rw [← State.gateDestination_eq] at hrow
  simp only [Event.releaseTest, hf, readRack, Option.bind_some, Option.map_some, Option.getD_some, hv, hrow]

end ReleaseTest

/-! ### The release of the rack read -/

/-- A rack put elsewhere leaves no trace of what its sheet was. -/
theorem rejoined_withSheet (s : State) {r r' : Rack} (ht : r'.tag = r.tag) (sh : PassSheet) :
    rejoined (s.withSheet r.tag sh).racks r' = rejoined s.racks r' := by
  unfold rejoined State.withSheet
  rw [ht, List.filter_map]
  refine congrArg (· ++ [r']) ?_
  have hfilter : s.racks.filter ((fun x => decide (x.tag ≠ r.tag)) ∘
      fun x => if x.tag = r.tag then { x with sheet := some sh } else x) = s.racks.filter (·.tag ≠ r.tag) := by
    refine List.filter_congr fun x _ => ?_
    rw [Function.comp_apply]
    split <;> rfl
  rw [hfilter]
  refine (List.map_congr_left fun x hx => ?_).trans (List.map_id _)
  exact if_neg (of_decide_eq_true (List.mem_filter.mp hx).2)

/-- The notices of a move are those of the racks alone. -/
theorem rehoused_of_racks (s : State) {l : List Rack} {r' : Rack} (h : rejoined l r' = rejoined s.racks r')
    (d : Destination) (cause : Option HoldCause) (ts u : PerTunnel TunnelContext) :
    { rehoused { s with racks := l, tunnels := ts } r' d cause with tunnels := u } =
      { rehoused s r' d cause with tunnels := u } := by
  unfold rehoused
  simp only [h]
  by_cases hc : cause = some .repeatFail
  · simp only [hc, if_true]
    by_cases hd : d = .hold
    · simp only [hd, if_true]
      have := holdNoted_tunnels (State.raise { s with racks := rejoined s.racks r' } .repeatFail) ts
      exact congrArg (fun x => ({ x with tunnels := u } : State)) this
    · simp only [hd, if_false]
      rfl
  · simp only [hc, if_false]
    by_cases hd : d = .hold
    · simp only [hd, if_true]
      have := holdNoted_tunnels { s with racks := rejoined s.racks r' } ts
      exact congrArg (fun x => ({ x with tunnels := u } : State)) this
    · simp only [hd, if_false]

theorem lastInLane_withSheet (s : State) (t : Tunnel) (r : Rack) (n : Nat) (sh : PassSheet) :
    (s.withSheet n sh).lastInLane t r = s.lastInLane t r := by
  rw [State.lastInLane, State.lastInLane, lane_withSheet, edited, List.all_map]
  refine congrArg (List.all (s.lane t)) (funext fun x => ?_)
  rw [Function.comp_apply]
  split <;> rfl

/-- The release of a rack that has just been read: what the reading wrote goes with it. -/
theorem releasedFrom_reading (htags : Tags s.racks) (hr : r ∈ s.racks) (hs : r.sheet = some sh) (v : Verdict)
    (d : Destination) (cause : Option HoldCause) :
    (reading s t p r).toState.releasedFrom t (readRack r sh) v d cause = s.releasedFrom t r v d cause ∧
      (reading s t p r).toState.closingEnded t (readRack r sh) = s.closingEnded t r := by
  have hlast : (reading s t p r).toState.lastInLane t (readRack r sh) = s.lastInLane t r := by
    rw [reading_toState htags hr hs]
    exact lastInLane_withSheet _ t r r.tag _
  have hracks : rejoined (reading s t p r).racks (r.released v d cause s.now) =
      rejoined s.racks (r.released v d cause s.now) := by
    rw [reading_toState htags hr hs]
    exact rejoined_withSheet _ rfl _
  have htunnels : (reading s t p r).tunnels = s.tunnels.set t { s.tunnels.get t with deferredExit := some p } := rfl
  constructor
  · unfold State.releasedFrom
    simp only [hlast, htunnels, PerTunnel.get_set_same, PerTunnel.set_set]
    exact rehoused_of_racks s hracks d cause _ _
  · unfold State.closingEnded
    simp only [hlast, htunnels, PerTunnel.get_set_same]
    rfl

theorem settled_released (h : s.recordLaw) (hf : s.finalRack t = some r) (hs : r.sheet = some sh)
    {v : Verdict} {d : Destination} {cause : Option HoldCause}
    (hserve : (s.event.serveExit t p r.tag).event = (reading s t p r).release t (readRack r sh) v d cause)
    (hd : d.place ≠ .returnLoop) :
    settled ((reading s t p r).release t (readRack r sh) v d cause) =
      followed (s.releasedFrom t r v d cause, s.closingEnded t r) (·.reconsidered) := by
  have hlaw := lawful_event h
  obtain ⟨hm, hp, -⟩ := mem_of_finalRack hf
  have hp' : (readRack r sh).place = .tunnel t := hp
  have hg := grantable_of_pendingSound
    ((recordLaw_iff _).mp (lawful_acts hlaw (hserve ▸ acts_exit t p r.tag)).law).2
  obtain ⟨⟨hstate, hout⟩, hdues⟩ := release_made hp' (reading s t p r) v d cause
  have hpair := (desk_parts (desk_release hp' hd (reading s t p r) v cause)).2.2
  obtain ⟨hmade, hended⟩ := releasedFrom_reading (p := p) hlaw.tags hm hs v d cause
  rw [settled_reconsidered (reeval := true) (idle := false) hpair hdues hg nofun, followed_whenever_false, hstate, hout]
  exact congrArg (fun x => followed x (·.reconsidered)) (Prod.ext hmade hended)

theorem not_return_of_gateRow {v : Verdict} {n : Nat} {d : Destination} {cause : Option HoldCause}
    (h : s.gateRow t v n = some (d, cause)) : d.place ≠ .returnLoop := by
  rintro hp
  obtain rfl : d = .returnLoop := by
    cases d
    case returnLoop => rfl
    all_goals cases hp
  unfold State.gateRow at h
  split at h
  · split at h <;> cases h
  · split at h
    · cases h
    · split at h <;> cases h

theorem count_withSheet (s : State) (n : Nat) (sh : PassSheet) (pl : Place) :
    (s.withSheet n sh).count pl = s.count pl := by
  unfold State.count State.members State.withSheet
  dsimp only
  rw [List.filter_map, List.length_map]
  refine congrArg List.length (List.filter_congr fun x _ => ?_)
  rw [Function.comp_apply]
  split <;> rfl

theorem gateRow_withSheet (s : State) (n : Nat) (sh : PassSheet) (t : Tunnel) (v : Verdict) (passes : Nat) :
    (s.withSheet n sh).gateRow t v passes = s.gateRow t v passes := by
  unfold State.gateRow
  simp only [count_withSheet]

theorem serveExit_final (h : s.recordLaw) {n : Nat} (hf : s.finalRack t = some r) (htag : r.tag = n) :
    s.event.owner p t (.exit n) = s.event.exitMatch t p r := by
  subst htag
  have hlook : s.event.toState.rack? r.tag = some r :=
    State.rack?_of_mem (lawful_event h).tags (mem_of_finalRack hf).1
  have hf' : s.event.toState.finalRack t = some r := hf
  simp only [Event.owner, Event.serveExit, hlook, hf', if_true]

/-- Settles O46: the tests of R130 in their order, then the release test of the rack read. -/
theorem exitAtTheGate : Obligations.ExitAtTheGate := by
  intro p t tag y r sh v d cause s read hf ht h ha hb
  have hbusy := not_deferredBusy ha hb
  have hparse : parseRequest .exit (tagBytes tag.toNat) = some (.exit tag.toNat) := parse_tag_of_valid rfl ht
  have hlaw := lawful_event h
  refine ⟨fun hr => ?_, fun hy hfin => ?_, fun hy hplace hfin => ?_, fun hfin htag hs hx => ?_,
    fun hfin htag hs hx hread => ?_⟩
  · have hr' : s.event.toState.rack? tag.toNat = none := hr
    refine exec_track_fault hf rfl (by decide) hparse hbusy ?_
    simp only [Event.owner, Event.serveExit, hr']
  · have hy' : s.event.toState.rack? tag.toNat = some y := hy
    have hfin' : s.event.toState.finalRack t = none := hfin
    refine exec_track_fault hf rfl (by decide) hparse hbusy ?_
    simp only [Event.owner, Event.serveExit, hy', hfin']
  · have hy' : s.event.toState.rack? tag.toNat = some y := hy
    have hfin' : s.event.toState.finalRack t = some r := hfin
    have hne : r.tag ≠ tag.toNat := by
      rintro htag
      obtain ⟨hm, hp, -⟩ := mem_of_finalRack hfin
      obtain ⟨hym, hyt⟩ := State.rack?_some hy
      obtain rfl := eq_of_tag hlaw.tags hm hym (hyt.trans htag.symm)
      exact hplace hp
    refine exec_track_fault hf rfl (by decide) hparse hbusy ?_
    simp only [Event.owner, Event.serveExit, hy', hfin', if_neg hne, if_neg hplace]
  · rw [exec_on_tunnel hf rfl (by decide) hparse hbusy (serveExit_final h hfin htag)]
    simp only [Event.exitMatch, hs, hx, if_true, settled_event, replied_nothing]
  · have hfinal := finalRack_reading (p := p) hlaw.tags hfin hs
    have hm := (mem_of_finalRack hfin).1
    have hstate : (reading s t p r).toState = read := (reading_toState hlaw.tags hm hs).trans hread.symm
    have hserve {e : Event} {o : Option (Verdict × Destination)}
        (ho : (reading s t p r).releaseTest t false = (e, o)) :=
      (serveExit_final (p := p) h hfin htag).trans (exitMatch_read hs hx ho)
    have hgate : (reading s t p r).toState.gateRow t v r.passes = s.gateRow t v r.passes := by
      rw [hstate, hread]
      exact gateRow_withSheet _ _ _ t v r.passes
    refine ⟨fun hv => ?_, fun hv hrow => ?_, fun hv hrow => ?_⟩
    · rw [exec_on_tunnel hf rfl (by decide) hparse hbusy (hserve (releaseTest_unjudged hfinal hv false)), hv, ← hstate]
      exact congrArg (fun m => Host.Outcome.next (replied m _ _ _ _ _))
        (settled_of_nothing_owed (e := reading s t p r) rfl rfl rfl rfl)
    · have hshut := releaseTest_shut hfinal hv (hgate.trans hrow) false
      rw [exec_on_tunnel hf rfl (by decide) hparse hbusy (hserve hshut), hv, ← hstate,
        gateTest_shut (hgate.trans hrow)]
      exact congrArg (fun m => Host.Outcome.next (replied m _ _ _ _ _))
        (settled_of_nothing_owed (e := ((reading s t p r).setTunnel t { (reading s t p r).tunnels.get t with
          gateShut := true }).raise (.exitBlocked t)) rfl rfl rfl rfl)
    · have hv' := hserve (releaseTest_released hfinal hv (hgate.trans hrow))
      have hevent : (s.event.serveExit t p r.tag).event = (reading s t p r).release t (readRack r sh) v d cause := by
        rw [htag]
        exact congrArg Served.event hv'
      rw [exec_on_tunnel hf rfl (by decide) hparse hbusy hv']
      exact congrArg (fun m => Host.Outcome.next (replied m _ _ _ _ _))
        (settled_released h hfin hs hevent (not_return_of_gateRow hrow))

/-! ### EXIT out of order (R132, R133) -/

/-- The event of an EXIT out of order, once the older racks are lost. -/
def placing (e : Event) (t : Tunnel) (p : Port) (tag : Nat) : Event :=
  let e' := e.modifySheet tag fun sh => sh.placedInFinal e.now
  { ((e'.setTunnel t { e'.tunnels.get t with deferredExit := some p }).raise (.trackFault t)) with wantReeval := true }

theorem placing_toState {e : Event} (htags : Tags e.racks) (hr : r ∈ e.racks) (hs : r.sheet = some sh) :
    (placing e t p r.tag).toState = ({ e.toState with
      tunnels := e.tunnels.set t { e.tunnels.get t with deferredExit := some p }
      notices := e.notices ||| trackFault t } : State).withSheet r.tag (sh.placedInFinal e.now) := by
  have h := modifySheet_toState htags hr hs fun sh => sh.placedInFinal e.now
  have hplaced : (placing e t p r.tag).toState = State.raise { (e.modifySheet r.tag fun sh =>
      sh.placedInFinal e.now).toState with
        tunnels := e.tunnels.set t { e.tunnels.get t with deferredExit := some p } } (.trackFault t) := rfl
  rw [hplaced, h, raise_trackFault]
  rfl

/-- The older racks lost, and the outstanding EXIT abandoned. -/
def olderLost (s : State) (t : Tunnel) (older : List Rack) : Event :=
  (s.event.abandonExit t).loseRacks .lostTrack older

section OutOfOrder

variable (h : s.recordLaw) {older younger : List Rack} (hl : s.lane t = older ++ r :: younger)
include h hl

theorem tags_older : Tags older ∧ ∀ y ∈ older, y.tag ≠ r.tag ∧ y ∈ s.racks ∧ y.place = .tunnel t := by
  have htags := tags_laneIn (lawful_event h).tags t
  have hnodup : ((older ++ r :: younger).map (·.tag)).Nodup := by rw [← hl]; exact htags
  rw [List.map_append, List.nodup_append] at hnodup
  obtain ⟨hold, -, hne⟩ := hnodup
  refine ⟨hold, fun y hy => ⟨hne _ (List.mem_map_of_mem hy) _ (List.mem_map_of_mem List.mem_cons_self), ?_⟩⟩
  exact mem_lane.mp (hl ▸ List.mem_append_left _ hy)

theorem olderThan_abandoned : olderThan ((s.event.abandonExit t).toState.lane t) r.tag = older := by
  have hlane : (s.event.abandonExit t).toState.lane t = older ++ r :: younger :=
    (lane_of_racks (s := s) (abandonExit_racks s.event t) t).trans hl
  rw [hlane]
  refine olderThan_eq ?_
  rw [← hl]
  exact tags_laneIn (lawful_event h).tags t

theorem olderLost_toState : (olderLost s t older).toState = { s with
    racks := (s.racks.filter fun y => decide (y.tag ∉ older.map (·.tag))) ++ older.map fun y => { y with
      state := .held, place := .unknown, since := s.now, sheet := none, lastOutcome := some (.hold .lostTrack) }
    tunnels := s.tunnels.set t { s.tunnels.get t with deferredExit := none, gateShut := false } } := by
  obtain ⟨htags, hmem⟩ := tags_older h hl
  have habandon := (abandonExit_word s.event t).1
  rw [olderLost, loseRacks_toState _ htags, habandon]
  refine congrArg (fun l => ({ s with racks := _ ++ l, tunnels := _ } : State)) (List.map_congr_left fun y hy => ?_)
  exact moved_of_lane (hmem y hy).2.2 _ _

theorem mem_olderLost : r ∈ (olderLost s t older).racks := by
  obtain ⟨-, hmem⟩ := tags_older h hl
  have hr : r ∈ s.racks := (mem_lane.mp (hl ▸ List.mem_append_right older List.mem_cons_self)).1
  rw [olderLost_toState h hl]
  refine List.mem_append_left _ (List.mem_filter.mpr ⟨hr, decide_eq_true fun hx => ?_⟩)
  obtain ⟨y, hy, ht⟩ := List.mem_map.mp hx
  exact (hmem y hy).1 ht

theorem tags_olderLost : Tags (olderLost s t older).racks := by
  obtain ⟨htags, hmem⟩ := tags_older h hl
  have habandoned : Lawful s (s.event.abandonExit t) :=
    (lawful_event h).of_racks (abandonExit_racks _ t) (.inr (abandonExit_pending _ t))
  refine (lawful_loseRacks (.inr rfl) (t := t) older _ habandoned htags fun y hy => ?_).tags
  rw [abandonExit_racks]
  exact (hmem y hy).2

theorem exitMismatch_eq : (s.event.exitMismatch t p r.tag).event = placing (olderLost s t older) t p r.tag := by
  have holder := olderThan_abandoned h hl
  unfold Event.exitMismatch
  dsimp only
  rw [holder]
  rfl

/-- An EXIT out of order, with the re-evaluation that it sets off. -/
theorem settled_exitMismatch (hs : r.sheet = some sh) {f : Rack} (hf : s.finalRack t = some f) (hne : f.tag ≠ r.tag) :
    settled (s.event.exitMismatch t p r.tag).event = followed ((({ s with
      racks := (s.racks.filter fun y => decide (y.tag ∉ older.map (·.tag))) ++ older.map fun y => { y with
        state := .held, place := .unknown, since := s.now, sheet := none, lastOutcome := some (.hold .lostTrack) }
      tunnels := s.tunnels.set t { s.tunnels.get t with deferredExit := some p, gateShut := false }
      notices := s.notices ||| trackFault t } : State).withSheet r.tag (sh.placedInFinal s.now)),
        abandonment s t) (·.reconsidered) := by
  have hlaw := lawful_event h
  have hr : r ∈ s.racks ∧ r.place = .tunnel t := mem_lane.mp (hl ▸ List.mem_append_right older List.mem_cons_self)
  have hlook : s.event.toState.rack? r.tag = some r := State.rack?_of_mem hlaw.tags hr.1
  have hg : Grantable (s.event.exitMismatch t p r.tag).event.toState := grantable_of_pendingSound
    ((recordLaw_iff _).mp (lawful_acts hlaw (.single (.mismatched (e := s.event) hf hlook hr.2 hne))).law).2
  have hstate := placing_toState (t := t) (p := p) (tags_olderLost h hl) (mem_olderLost h hl) hs
  have hout : (olderLost s t older).out = abandonment s t := by
    rw [olderLost, loseRacks_out]
    exact (abandonExit_word s.event t).2
  have hdues : dues (placing (olderLost s t older) t p r.tag) = (true, ⟨false, false⟩, false) := by
    obtain ⟨-, hroom, hidle⟩ := dues_parts ((dues_loseRacks .lostTrack older _).trans (dues_abandonExit s.event t))
    exact Prod.ext rfl (Prod.ext hroom hidle)
  have hpair : (placing (olderLost s t older) t p r.tag).wantPairing = false :=
    (loseRacks_wantPairing .lostTrack older _).trans (abandonExit_wantPairing s.event t)
  rw [exitMismatch_eq h hl] at hg ⊢
  rw [settled_reconsidered (reeval := true) (idle := false) hpair hdues hg nofun, followed_whenever_false, hstate]
  rw [show (placing (olderLost s t older) t p r.tag).out = abandonment s t from hout, olderLost_toState h hl]
  simp only [PerTunnel.get_set_same, PerTunnel.set_set]
  rfl

end OutOfOrder

/-- Settles O47: the older racks lost, the rack read placed in FINAL, then `settled_exitMismatch`. -/
theorem exitOutOfOrder : Obligations.ExitOutOfOrder := by
  intro p t tag older younger f r sh s hf ht h ha hb hl htag hs hfin hne
  have hparse : parseRequest .exit (tagBytes tag.toNat) = some (.exit tag.toNat) := parse_tag_of_valid rfl ht
  have hr : r ∈ s.racks ∧ r.place = .tunnel t := mem_lane.mp (hl ▸ List.mem_append_right older List.mem_cons_self)
  have hv : s.event.owner p t (.exit tag.toNat) = s.event.exitMismatch t p r.tag := by
    have hlook : s.event.toState.rack? r.tag = some r := State.rack?_of_mem (lawful_event h).tags hr.1
    have hfin' : s.event.toState.finalRack t = some f := hfin
    rw [← htag]
    simp only [Event.owner, Event.serveExit, hlook, hfin', if_neg hne, if_pos hr.2]
  rw [exec_on_tunnel hf rfl (by decide) hparse (not_deferredBusy ha hb) hv, settled_exitMismatch h hl hs hfin hne]
  unfold abandonment
  rw [hfin]
  cases (s.tunnels.get t).deferredExit <;> rfl

end Sys2Proof.Proofs.ExitGate
end

section
/-! Modes and classes of windows (R156 to R159): routes cleared and entries posted in the words of the statements, and
what a run of pairing leaves as it was. -/

namespace Sys2Proof.Proofs.ModesAndClasses

open Sys2Proof.Machine Sys2Proof.Proofs.Tables Sys2Proof.Proofs.Acts Sys2Proof.Proofs.ActsKeepTheTable
  Sys2Proof.Proofs.Requests Sys2Proof.Proofs.Words Sys2Proof.Proofs.Owing Sys2Proof.Proofs.GateTests
  Sys2Proof.Proofs.Endings Sys2Proof.Proofs.Chains Sys2Proof.Proofs.Beginnings Sys2Proof.Proofs.Pairing
  Sys2Proof.Proofs.Desk Sys2Proof.Proofs.DemandRoutes
  Sys2Proof.Proofs.Reads Sys2Proof.Proofs.Registers Sys2Proof.Proofs.StationPorts

variable {s s' s₀ : State} {e e' : Event} {w : Window} {m : WindowMode} {k : RackClass} {p : Port} {x : Transfer}
  {wb mb kb : Byte}

/-! ### Routes cleared (R155) -/

theorem clearRoutes_toState (rs : List Rack) : ∀ e : Event, (e.clearRoutes rs).toState = { e.toState with
    racks := e.racks.map fun r => if r.tag ∈ rs.map (·.tag) then { r with destination := none } else r } := by
  induction rs with
  | nil =>
    intro e
    simp only [Event.clearRoutes, List.map_nil, List.not_mem_nil, if_false, List.map_id']
  | cons x xs ih =>
    intro e
    refine (ih _).trans ?_
    refine congrArg (fun l => ({ e.toState with racks := l } : State)) ?_
    change (edited e.racks x.tag _).map _ = _
    rw [edited, List.map_map]
    refine List.map_congr_left fun r _ => ?_
    rw [Function.comp_apply, List.map_cons]
    by_cases hx : r.tag = x.tag
    · rw [if_pos hx, if_pos (List.mem_cons.mpr (.inl hx))]
      split <;> rfl
    · rw [if_neg hx]
      simp only [List.mem_cons, hx, false_or]

theorem clearRoutes_out (rs : List Rack) : ∀ e : Event,
    (e.clearRoutes rs).out = e.out ++ rs.flatMap fun r => e.toState.toRole .windows (.route r.tag none) := by
  induction rs with
  | nil => exact fun e => (List.append_nil _).symm
  | cons x xs ih =>
    intro e
    refine (ih _).trans ?_
    rw [List.flatMap_cons, ← List.append_assoc]
    rfl

/-- The routes to a window cleared for the racks that `f` names. -/
theorem clearRoutes_word (htags : Tags e.racks) (w : Window) (f : Rack → Bool) :
    e.carries (e.clearRoutes ((e.toState.routedTo w).filter f)) (·.cleared w f) := by
  refine ⟨(clearRoutes_toState _ e).trans ?_, clearRoutes_out _ e⟩
  refine congrArg (fun l => ({ e.toState with racks := l } : State)) (List.map_congr_left fun r hr => ?_)
  have hiff : r.tag ∈ ((e.toState.routedTo w).filter f).map (·.tag) ↔
      r.place = .returnLoop ∧ r.destination = some w ∧ f r := by
    constructor
    · intro h
      obtain ⟨y, hy, ht⟩ := List.mem_map.mp h
      obtain ⟨hrouted, hf⟩ := List.mem_filter.mp hy
      obtain ⟨hym, hp, hd⟩ := mem_routedTo.mp hrouted
      obtain rfl := eq_of_tag htags hr hym ht
      exact ⟨hp, hd, hf⟩
    · rintro ⟨hp, hd, hf⟩
      exact List.mem_map_of_mem (List.mem_filter.mpr ⟨mem_routedTo.mpr ⟨hr, hp, hd⟩, hf⟩)
  by_cases h : r.tag ∈ ((e.toState.routedTo w).filter f).map (·.tag)
  · rw [if_pos h, if_pos (hiff.mp h)]
  · rw [if_neg h, if_neg (mt hiff.mpr h)]

/-! ### Entries posted (R149) -/

theorem postMany_stopped (h : e.windows[w].mode = .stop) (n : Nat) : e.postMany w n = e := by
  induction n with
  | zero => rfl
  | succ n ih =>
    have hpost : e.post w = e := if_pos h
    rw [Event.postMany, hpost, ih]

theorem postMany_word (n : Nat) : ∀ e : Event, e.windows[w].mode ≠ .stop →
    (e.postMany w n).toState = { e.toState with demand := e.demand ++ List.replicate n ⟨w, e.now⟩ } ∧
      (e.postMany w n).out = e.out := by
  induction n with
  | zero =>
    intro e _
    simp only [Event.postMany, List.replicate_zero, List.append_nil, and_self]
  | succ n ih =>
    intro e h
    have hpost : e.post w = { e with demand := e.demand ++ [⟨w, e.now⟩], wantPairing := true } := if_neg h
    obtain ⟨hstate, hout⟩ := ih (e.post w) (by rw [hpost]; exact h)
    rw [Event.postMany, hstate, hout, hpost]
    refine ⟨?_, rfl⟩
    simp only [List.append_assoc, List.singleton_append, List.replicate_succ]

theorem postMany_windows (w : Window) (n : Nat) : ∀ e : Event, (e.postMany w n).windows = e.windows := by
  induction n with
  | zero => exact fun _ => rfl
  | succ n ih =>
    intro e
    refine (ih _).trans ?_
    rcases e.post_cases w with ⟨-, he⟩ | ⟨-, he⟩ <;> rw [he]

/-! ### The end of the event -/

/-- An event that owes a run of pairing at most. -/
theorem settled_pairing (h : Lawful s₀ e) (hd : dues e = (false, ⟨false, false⟩, false)) :
    settled e = followed (e.toState, e.out) (whenever e.wantPairing (·.paired)) := by
  obtain ⟨hreeval, hroom, hidle⟩ : e.wantReeval = false ∧ e.room = ⟨false, false⟩ ∧ e.wantIdle = false := by
    simpa only [dues, Prod.mk.injEq] using hd
  rw [settled_eq (grantable_of_lawful h) (by rw [hidle]; nofun), hreeval, hroom, hidle, followed_whenever_false]
  exact followed_nothing (concluding_silent false _)

/-- An event that owes a run of pairing where there may be anything to pair. -/
theorem settled_paired (h : Lawful s₀ e) (hp : Paired e) (hd : dues e = (false, ⟨false, false⟩, false)) :
    settled e = followed (e.toState, e.out) (·.paired) := by
  rw [settled_pairing h hd]
  unfold followed
  rw [paired_whenever hp]

/-! ### What a run of pairing leaves (R154) -/

/-- `s'` is `s` but for destinations given on RETURN and entries taken: a destination is new on a rack that had none,
and names a window in ACCEPT with the rack's class. -/
structure PairingFrame (s s' : State) : Prop where
  windows : s'.windows = s.windows
  entries : ∀ d ∈ s'.demand, d ∈ s.demand
  racks : unrouted s'.racks = unrouted s.racks
  kept : ∀ r ∈ s.racks, r.destination ≠ none → r ∈ s'.racks
  given : ∀ r ∈ s'.racks, r ∈ s.racks ∨
    ∃ v : Window, r.destination = some v ∧ s.windows[v].mode = .accept ∧ s.windows[v].cls = r.cls

theorem PairingFrame.refl (s : State) : PairingFrame s s := ⟨rfl, fun _ h => h, rfl, fun _ h _ => h, fun _ h => .inl h⟩

theorem PairingFrame.trans {s'' : State} (h : PairingFrame s s') (h' : PairingFrame s' s'') : PairingFrame s s'' where
  windows := h'.windows.trans h.windows
  entries := fun d hd => h.entries d (h'.entries d hd)
  racks := h'.racks.trans h.racks
  kept := fun r hr hd => h'.kept r (h.kept r hr hd) hd
  given := fun r hr => (h'.given r hr).elim (h.given r) fun hv => .inr (by rw [h.windows] at hv; exact hv)

theorem unrouted_edited (l : List Rack) (tag : Nat) (d : Option Window) :
    unrouted (edited l tag fun x => { x with destination := d }) = unrouted l := by
  rw [unrouted, edited, List.map_map]
  refine List.map_congr_left fun x _ => ?_
  rw [Function.comp_apply]
  split <;> rfl

theorem pairingFrame_pairOne {r : Rack} (htags : Tags e.racks) (hr : r ∈ e.racks) (hd : r.destination = none) :
    PairingFrame e.toState (e.pairOne r).toState := by
  unfold Event.pairOne
  split
  · exact .refl _
  · rename_i d hentry
    obtain ⟨-, hmode, hcls⟩ := pairingEntry_some hentry
    have hracks : (({ e with demand := e.demand.erase d } : Event).modifyRack r.tag
        fun x => { x with destination := some d.window }).racks =
        edited e.racks r.tag fun x => { x with destination := some d.window } := rfl
    refine ⟨rfl, fun _ h => List.mem_of_mem_erase h, unrouted_edited _ _ _, fun y hy hne => ?_, fun y hy => ?_⟩
    · refine List.mem_map.mpr ⟨y, hy, if_neg fun ht => hne ?_⟩
      rw [eq_of_tag htags hr hy ht, hd]
    · rcases mem_edited (hracks ▸ hy) with ⟨hy, -⟩ | ⟨z, hz, ht, rfl⟩
      · exact .inl hy
      · refine .inr ⟨d.window, rfl, hmode, ?_⟩
        rw [eq_of_tag htags hr hz ht]
        exact hcls

theorem pairingFrame_pairAll (rs : List Rack) : ∀ e : Event, Tags e.racks → Standing e.racks none rs →
    PairingFrame e.toState (e.pairAll rs).toState := by
  induction rs with
  | nil => exact fun e _ _ => .refl _
  | cons r rs ih =>
    intro e ht hs
    obtain ⟨hm, -, hd⟩ := hs.2 r List.mem_cons_self
    exact (pairingFrame_pairOne ht hm hd).trans (ih _ (pairOne_tags ht) (pairOne_standing hs))

theorem pairingFrame_paired (htags : Tags s.racks) : PairingFrame s s.paired.1 := by
  have h := pairingFrame_pairAll _ s.event htags (standing_unassigned htags)
  rwa [(s.event.pairAll_carries _).1] at h

theorem pairingFrame_whenever (htags : Tags s.racks) (b : Bool) : PairingFrame s (whenever b (·.paired) s).1 := by
  cases b with
  | false => exact .refl s
  | true => exact pairingFrame_paired htags

/-! ### Modes (R156 to R158) -/

/-- The mode set, and the entries that go or come with it. -/
def modedTo (s : State) (w : Window) (m : WindowMode) : State :=
  { s with
    windows := s.windows.set w { s.windows[w] with mode := m }
    demand := if m = .stop then s.demand.filter (·.window ≠ w)
      else if s.windows[w].mode = .stop then s.demand ++ List.replicate (2 - s.windowSum w) ⟨w, s.now⟩
      else s.demand }

/-- The mode set, and the routes that go with it. -/
def modeSet (s : State) (w : Window) (m : WindowMode) : Made :=
  if m = .stop then (modedTo s w m).cleared w fun _ => true else (modedTo s w m, [])

theorem modedTo_windows (s : State) (w : Window) (m : WindowMode) : (modedTo s w m).windows[w].mode = m := by
  rw [modedTo, windows_set, if_pos rfl]

theorem setMode_word (htags : Tags s.racks) (hne : s.windows[w].mode ≠ m) :
    ((s.event.setMode w m).toState, (s.event.setMode w m).out) = modeSet s w m ∧
      dues (s.event.setMode w m) = (false, ⟨false, false⟩, false) := by
  rcases setMode_cases s.event w m with ⟨hold, -⟩ | ⟨-, rfl, he⟩ | ⟨hold, hm, he⟩ | ⟨hold, rfl, he⟩ | ⟨hold, rfl, he⟩
  · exact absurd hold hne
  · rw [he]
    obtain ⟨hstate, hout⟩ := clearRoutes_word (e := { s.event.writeMode w .stop with
      demand := s.demand.filter (·.window ≠ w), wantPairing := true }) htags w fun _ => true
    rw [List.filter_true] at hstate hout
    refine ⟨Prod.ext (hstate.trans ?_) (hout.trans ?_), dues_clearRoutes _ _⟩
    · rw [modeSet, if_pos rfl, modedTo, if_pos rfl]
      rfl
    · rw [modeSet, if_pos rfl, modedTo, if_pos rfl]
      rfl
  · rw [he]
    have hmode : (s.event.writeMode w m).windows[w].mode ≠ .stop := by
      rw [Event.writeMode_windows, windows_set, if_pos rfl]
      exact hm
    obtain ⟨hstate, hout⟩ := postMany_word (2 - s.windowSum w) (s.event.writeMode w m) hmode
    refine ⟨Prod.ext (hstate.trans ?_) (hout.trans ?_), dues_postMany _ _ _⟩
    · rw [modeSet, if_neg hm, modedTo, if_neg hm, if_pos (show s.windows[w].mode = .stop from hold)]
      rfl
    · rw [modeSet, if_neg hm]
      rfl
  all_goals
    rw [he]
    have hold' : ¬ s.windows[w].mode = .stop := by
      rw [show s.windows[w].mode = _ from hold]
      nofun
    refine ⟨?_, rfl⟩
    rw [modeSet, if_neg nofun, modedTo, if_neg nofun, if_neg hold']
    rfl

theorem lawful_setMode (h : s.recordLaw) (w : Window) (m : WindowMode) : Lawful s (s.event.setMode w m) :=
  lawful_acts (lawful_event h) (.single .modeSet)

/-- A mode that changes: what it makes, and the run of pairing that it owes. -/
theorem settled_setMode (h : s.recordLaw) (hne : s.windows[w].mode ≠ m) :
    settled (s.event.setMode w m) =
      followed (modeSet s w m) (whenever (s.event.setMode w m).wantPairing (·.paired)) := by
  obtain ⟨hword, hdues⟩ := setMode_word (s := s) (lawful_event h).tags hne
  rw [settled_pairing (lawful_setMode h w m) hdues, hword]

theorem setMode_same (h : s.windows[w].mode = m) : s.event.setMode w m = s.event := if_pos h

theorem setMode_mode (s : State) (w : Window) (m : WindowMode) : (s.event.setMode w m).windows[w].mode = m := by
  have hwritten (m : WindowMode) : (s.event.writeMode w m).windows[w].mode = m := by
    rw [Event.writeMode_windows, windows_set, if_pos rfl]
  rcases setMode_cases s.event w m with ⟨hold, he⟩ | ⟨-, rfl, he⟩ | ⟨-, -, he⟩ | ⟨-, -, he⟩ | ⟨-, -, he⟩ <;> rw [he]
  · exact hold
  · rw [Event.enterStop, clearRoutes_windows]
    exact hwritten .stop
  · rw [Event.leaveStop, postMany_windows]
    exact hwritten m
  · exact hwritten m
  · exact hwritten m

theorem windowModeOf_code (h : mb.toNat = m.code) : windowModeOf mb.toNat = some m := by
  rw [h]
  cases m <;> rfl

theorem exec_mode (hf : s.free p .windows) (hw : wb.toNat = w.val) (hm : mb.toNat = m.code) :
    exec (.mode p wb mb) s = .next (replied (settled (s.event.setMode w m)) p .mode [wb, mb] .done (.mode m)) := by
  have hparse : parseRequest .mode [wb, mb] = some (.mode w m) := by
    rw [parseRequest, windowOf_toNat hw, windowModeOf_code hm]
    rfl
  rw [exec_request hf rfl (by decide) hparse rfl]
  simp only [Event.owner, Event.serveMode, setMode_mode]

theorem exec_windowMode (hr : s.rstLow = false) (hx : x.isWhole 2) (hw : wb.toNat = w.val) (hm : mb.toNat = m.code) :
    exec (.windowMode x wb mb) s =
      .next ((ended (settled (s.event.setMode w m))).respond x ⟨.done, .windowMode m⟩) := by
  refine (take_command hr hx _).trans ?_
  simp only [State.windowModeBy, windowOf_toNat hw, windowModeOf_code hm, setMode_mode]

theorem exec_windowMode_refused (hr : s.rstLow = false) (hx : x.isWhole 2) (h : 5 < wb.toNat ∨ 2 < mb.toNat) :
    exec (.windowMode x wb mb) s = .next (s.respond x ⟨.badValue, .alone⟩) := by
  refine take_command_of_eq hr hx ?_
  have hnone : windowOf wb.toNat = none ∨ windowModeOf mb.toNat = none := h.imp windowOf_of_large fun h =>
    Option.not_isSome_iff_eq_none.mp (mt (windowModeOf_isSome _).mp (not_le.mpr h))
  unfold State.windowModeBy
  rcases hnone with hnone | hnone <;> rw [hnone]
  · rfl
  · cases windowOf wb.toNat <;> rfl

/-! ### What a served request leaves -/

theorem replied_registers (y : Made) (p : Port) (k : ReqKind) (payload : List Byte) (st : Status) (f : Fields) :
    (replied y p k payload st f).racks = y.1.racks ∧ (replied y p k payload st f).demand = y.1.demand ∧
      (replied y p k payload st f).windows = y.1.windows := by
  unfold replied
  rw [State.deliver_racks, State.deliver_demand, State.deliver_windows]
  exact ⟨rfl, rfl, rfl⟩

theorem ended_registers (y : Made) : (ended y).racks = y.1.racks ∧ (ended y).demand = y.1.demand ∧
    (ended y).windows = y.1.windows := by
  unfold ended
  rw [State.deliver_racks, State.deliver_demand, State.deliver_windows]
  exact ⟨rfl, rfl, rfl⟩

/-- The answer comes before the messages. -/
theorem transmit_replied {y : Made} (hp : y.1.ports = s.ports) (p : Port) (k : ReqKind) (payload : List Byte)
    (st : Status) (f : Fields) : (s.ports[p].transmit ++ [⟨.head, .answer ⟨k.code + 0x80, st, f⟩⟩]) <+:
      (replied y p k payload st f).ports[p].transmit := by
  have hanswered : (y.1.answered p k payload st f).ports[p].transmit =
      s.ports[p].transmit ++ [⟨.head, .answer ⟨k.code + 0x80, st, f⟩⟩] := by
    rw [State.answered, hp]
    simp
  rw [replied, deliver_port, hanswered]
  exact List.prefix_append _ _

/-! ### Routes cleared: what stays -/

theorem unrouted_cleared (s : State) (w : Window) (f : Rack → Bool) :
    unrouted (s.cleared w f).1.racks = unrouted s.racks := by
  rw [unrouted, State.cleared, List.map_map]
  refine List.map_congr_left fun x _ => ?_
  rw [Function.comp_apply]
  split <;> rfl

theorem mem_cleared {f : Rack → Bool} {r : Rack} (hr : r ∈ s.racks) (h : r.destination = some w → f r = false) :
    r ∈ (s.cleared w f).1.racks := by
  refine List.mem_map.mpr ⟨r, hr, if_neg ?_⟩
  rintro ⟨-, hd, hf⟩
  rw [h hd] at hf
  cases hf

theorem of_mem_cleared {f : Rack → Bool} {r : Rack} (hr : r ∈ (s.cleared w f).1.racks) (hp : r.place = .returnLoop)
    (hd : r.destination = some w) : f r = false := by
  obtain ⟨y, -, rfl⟩ := List.mem_map.mp hr
  split at hp
  · rw [if_pos ‹_›] at hd
    cases hd
  · rename_i hnot
    rw [if_neg hnot] at hd ⊢
    exact Bool.eq_false_iff.mpr fun hf => hnot ⟨hp, hd, hf⟩

/-! ### The mode set, whatever waits on RETURN -/

/-- What a mode set leaves: the window's mode, destinations alone changed, and nothing for a window that enters STOP. -/
structure ModeFrame (s : State) (w : Window) (m : WindowMode) (s' : State) : Prop where
  windows : s'.windows = (modedTo s w m).windows
  racks : unrouted s'.racks = unrouted s.racks
  stopped : m = .stop → s.windows[w].mode ≠ .stop → s'.entriesOf w = [] ∧ s'.routedTo w = []
  kept : ∀ r ∈ s.racks, r.destination ≠ none → r.destination ≠ some w → r ∈ s'.racks

theorem modeSet_windows (s : State) (w : Window) (m : WindowMode) :
    (modeSet s w m).1.windows = (modedTo s w m).windows := by
  unfold modeSet
  split <;> rfl

theorem modeSet_racks (s : State) (w : Window) (m : WindowMode) : unrouted (modeSet s w m).1.racks = unrouted s.racks ∧
    ∀ r ∈ s.racks, r.destination ≠ some w → r ∈ (modeSet s w m).1.racks := by
  unfold modeSet
  split
  · exact ⟨unrouted_cleared _ _ _, fun r hr hd => mem_cleared (s := modedTo s w m) hr fun h => absurd h hd⟩
  · exact ⟨rfl, fun r hr _ => hr⟩

theorem tags_of_unrouted {l l' : List Rack} (h : unrouted l' = unrouted l) (htags : Tags l) : Tags l' := by
  have hmap (l : List Rack) : (unrouted l).map (·.tag) = l.map (·.tag) := by
    rw [unrouted, List.map_map]
    rfl
  have htag : l'.map (·.tag) = l.map (·.tag) := (hmap l').symm.trans ((congrArg _ h).trans (hmap l))
  rw [Tags, htag]
  exact htags

/-- A window that has just entered STOP has no entry and no route, and pairing gives it none. -/
theorem stopped_of_frame {s'' : State} (h : PairingFrame s'' s') (hm : s''.windows[w].mode = .stop)
    (he : s''.entriesOf w = []) (hr : s''.routedTo w = []) : s'.entriesOf w = [] ∧ s'.routedTo w = [] := by
  refine ⟨List.filter_eq_nil_iff.mpr fun d hd => ?_, List.eq_nil_iff_forall_not_mem.mpr fun r hmem => ?_⟩
  · exact List.filter_eq_nil_iff.mp he d (h.entries d hd)
  · obtain ⟨hr', hp, hd⟩ := mem_routedTo.mp hmem
    rcases h.given r hr' with hold | ⟨v, hv, hmode, -⟩
    · have := mem_routedTo.mpr ⟨hold, hp, hd⟩
      rw [hr] at this
      cases this
    · cases hd.symm.trans hv
      rw [hm] at hmode
      cases hmode

theorem modeFrame_settled (h : s.recordLaw) (w : Window) (m : WindowMode) :
    ModeFrame s w m (settled (s.event.setMode w m)).1 := by
  by_cases hm : s.windows[w].mode = m
  · rw [setMode_same hm, settled_event]
    refine ⟨?_, rfl, fun hs hn => absurd (hm.trans hs) hn, fun r hr _ _ => hr⟩
    rw [modedTo, ← hm]
    refine Vector.ext fun i hi => ?_
    rw [Vector.getElem_set]
    split
    · subst_vars
      rfl
    · rfl
  · have hframe := pairingFrame_whenever (s := (modeSet s w m).1) (tags_of_unrouted (modeSet_racks s w m).1
      (lawful_event h).tags) (s.event.setMode w m).wantPairing
    rw [settled_setMode h hm]
    refine ⟨hframe.windows.trans (modeSet_windows s w m), hframe.racks.trans (modeSet_racks s w m).1, ?_,
      fun r hr hd hw => hframe.kept r ((modeSet_racks s w m).2 r hr hw) hd⟩
    rintro rfl -
    have hset : modeSet s w .stop = (modedTo s w .stop).cleared w fun _ => true := if_pos rfl
    refine stopped_of_frame hframe (by rw [modeSet_windows, modedTo_windows]) ?_ ?_
    · rw [hset]
      refine List.filter_eq_nil_iff.mpr fun d hd => ?_
      have hd' : d ∈ s.demand.filter (·.window ≠ w) := hd
      simpa using (List.mem_filter.mp hd').2
    · refine List.eq_nil_iff_forall_not_mem.mpr fun r hr => ?_
      rw [hset] at hr
      obtain ⟨hm', hp, hd⟩ := mem_routedTo.mp hr
      cases of_mem_cleared hm' hp hd

theorem ports_settled_setMode (s : State) (w : Window) (m : WindowMode) :
    (settled (s.event.setMode w m)).1.ports = s.ports :=
  ((kept_setMode (f := { windows := true }) rfl s.event w m).trans (kept_settle _)).ports rfl

/-- Settles O52: the mode set with its routes and entries, then the run of pairing. -/
theorem windowModes : Obligations.WindowModes := by
  intro p w m wb mb x s moded y hf hx hmoded hy
  obtain rfl : moded = modedTo s w m := hmoded
  refine ⟨exec_windowMode_refused hf.1 hx, fun hw hm => ?_⟩
  have hm' : mb.toNat = m.code := hm
  have hmode := exec_mode hf hw hm'
  have hwindow := exec_windowMode hf.1 hx hw hm'
  refine ⟨fun hsame => ?_, fun hne hlaw => ?_, fun hlaw => ?_⟩
  · rw [hmode, hwindow, setMode_same hsame, settled_event]
    exact ⟨rfl, rfl⟩
  · have hpaired := paired_setMode (e := s.event) (.inr ((nothing_to_pair_iff s).mp hlaw.2)) w m
    obtain ⟨hword, hdues⟩ := setMode_word (s := s) (lawful_event hlaw.1).tags hne
    have hsettled : settled (s.event.setMode w m) = y := by
      rw [settled_paired (lawful_setMode hlaw.1 w m) hpaired hdues, hword, hy, modeSet]
      split
      · rfl
      · exact followed_pure _ _
    rw [hmode, hwindow, hsettled]
    exact ⟨rfl, rfl⟩
  · have hframe := modeFrame_settled hlaw w m
    obtain ⟨hr, hd, hws⟩ := replied_registers (settled (s.event.setMode w m)) p .mode [wb, mb] .done (.mode m)
    obtain ⟨hr', hd', hws'⟩ := ended_registers (settled (s.event.setMode w m))
    refine ⟨_, _, hmode, hwindow, hws.trans hframe.windows, hws'.trans hframe.windows, hr.trans hr'.symm,
      hd.trans hd'.symm, (congrArg unrouted hr).trans hframe.racks,
      transmit_replied (ports_settled_setMode s w m) p .mode _ _ _, rfl, fun hs hn => ?_, fun r hm hne hw => ?_⟩
    · unfold State.entriesOf State.routedTo State.members
      rw [hd, hr]
      exact hframe.stopped hs hn
    · rw [hr]
      exact hframe.kept r hm hne hw

/-! ### Classes (R159) -/

/-- The class set, and the entries posted for the routes that go with it. -/
def classedTo (s : State) (w : Window) (k : RackClass) : State :=
  { s with
    windows := s.windows.set w { s.windows[w] with cls := k }
    demand := if s.windows[w].mode = .stop then s.demand
      else s.demand ++ List.replicate ((s.routedTo w).filter (·.cls ≠ k)).length ⟨w, s.now⟩ }

/-- The event of a class set, before its routes are cleared. -/
def classing (s : State) (w : Window) (k : RackClass) : Event :=
  { s.event with windows := s.windows.set w { s.windows[w] with cls := k }, wantPairing := true }

theorem setClass_eq (hne : s.windows[w].cls ≠ k) : s.event.setClass w k =
    ((classing s w k).clearRoutes (((classing s w k).toState.routedTo w).filter (·.cls ≠ k))).postMany w
      ((s.routedTo w).filter (·.cls ≠ k)).length := if_neg hne

theorem setClass_same (h : s.windows[w].cls = k) : s.event.setClass w k = s.event := if_pos h

theorem classing_mode (s : State) (w : Window) (k : RackClass) (rs : List Rack) :
    ((classing s w k).clearRoutes rs).windows[w].mode = s.windows[w].mode := by
  have hwritten : (classing s w k).windows[w] = { s.windows[w] with cls := k } := by
    rw [classing, windows_set, if_pos rfl]
  rw [clearRoutes_windows, hwritten]

theorem setClass_word (htags : Tags s.racks) (hne : s.windows[w].cls ≠ k) :
    ((s.event.setClass w k).toState, (s.event.setClass w k).out) = (classedTo s w k).cleared w (·.cls ≠ k) ∧
      dues (s.event.setClass w k) = (false, ⟨false, false⟩, false) ∧ (s.event.setClass w k).wantPairing = true := by
  obtain ⟨hstate, hout⟩ := clearRoutes_word (e := classing s w k) htags w (·.cls ≠ k)
  rw [setClass_eq hne]
  refine ⟨?_, (dues_postMany _ _ _).trans (dues_clearRoutes _ _),
    postMany_wantPairing _ _ (clearRoutes_wantPairing _ _)⟩
  have hmode := classing_mode s w k (((classing s w k).toState.routedTo w).filter (·.cls ≠ k))
  by_cases hs : s.windows[w].mode = .stop
  · rw [postMany_stopped (hmode.trans hs), classedTo, if_pos hs]
    exact Prod.ext hstate hout
  · obtain ⟨hposted, hout'⟩ := postMany_word ((s.routedTo w).filter (·.cls ≠ k)).length
      ((classing s w k).clearRoutes (((classing s w k).toState.routedTo w).filter (·.cls ≠ k)))
      (by rw [hmode]; exact hs)
    rw [hposted, hout', hstate, hout, classedTo, if_neg hs]
    rfl

theorem settled_setClass (h : s.recordLaw) (hne : s.windows[w].cls ≠ k) :
    settled (s.event.setClass w k) = followed ((classedTo s w k).cleared w (·.cls ≠ k)) (·.paired) := by
  obtain ⟨hword, hdues, hpair⟩ := setClass_word (s := s) (lawful_event h).tags hne
  have hlaw : Lawful s (s.event.setClass w k) := lawful_acts (lawful_event h) (.single .clsSet)
  rw [settled_pairing hlaw hdues, hword, hpair]
  rfl

theorem classOf_code (h : kb.toNat = k.code) : classOf kb.toNat = some k := by
  rw [h]
  cases k <;> rfl

theorem classOf_none : ∀ {n : Nat}, 3 < n → classOf n = none
  | 0, h | 1, h | 2, h | 3, h => absurd h (by decide)
  | _ + 4, _ => rfl

theorem exec_windowClass (hr : s.rstLow = false) (hx : x.isWhole 2) (hw : wb.toNat = w.val) (hk : kb.toNat = k.code) :
    exec (.windowClass x wb kb) s =
      .next ((ended (settled (s.event.setClass w k))).respond x ⟨.done, .windowClass k⟩) := by
  refine (take_command hr hx _).trans ?_
  simp only [State.windowClassBy, windowOf_toNat hw, classOf_code hk]

theorem exec_windowClass_refused (hr : s.rstLow = false) (hx : x.isWhole 2) (h : 5 < wb.toNat ∨ 3 < kb.toNat) :
    exec (.windowClass x wb kb) s = .next (s.respond x ⟨.badValue, .alone⟩) := by
  refine take_command_of_eq hr hx ?_
  have hnone : windowOf wb.toNat = none ∨ classOf kb.toNat = none := h.imp windowOf_of_large classOf_none
  unfold State.windowClassBy
  rcases hnone with hnone | hnone <;> rw [hnone]
  · rfl
  · cases windowOf wb.toNat <;> rfl

/-- Settles O53: the class set with its routes and entries, then the run of pairing. -/
theorem windowClasses : Obligations.WindowClasses := by
  intro w k wb kb x s classed hr hx hclassed
  obtain rfl : classed = classedTo s w k := hclassed
  refine ⟨exec_windowClass_refused hr hx, fun hw hk => ?_⟩
  have hk' : kb.toNat = k.code := hk
  have hexec := exec_windowClass hr hx hw hk'
  refine ⟨fun hsame => ?_, fun hne hlaw => ?_, fun hlaw hne => ?_⟩
  · rw [hexec, setClass_same hsame, settled_event]
    rfl
  · rw [hexec, settled_setClass hlaw hne]
  · have hsettled := settled_setClass hlaw hne
    have htags : Tags ((classedTo s w k).cleared w (·.cls ≠ k)).1.racks :=
      tags_of_unrouted (unrouted_cleared _ _ _) (lawful_event hlaw).tags
    have hframe := pairingFrame_paired htags
    obtain ⟨hracks, -, hwindows⟩ := ended_registers (settled (s.event.setClass w k))
    rw [hsettled] at hracks hwindows
    have hcls : ((classedTo s w k).cleared w (·.cls ≠ k)).1.windows[w].cls = k := by
      change (s.windows.set w _)[w].cls = k
      rw [windows_set, if_pos rfl]
    refine ⟨_, hexec, ?_, rfl, ?_, fun r hr => ?_, fun r hr hd hk => ?_⟩
    · rw [hsettled]
      exact hwindows.trans hframe.windows
    · rw [hsettled]
      exact (congrArg unrouted hracks).trans (hframe.racks.trans (unrouted_cleared _ _ _))
    · obtain ⟨hm, hp, hd⟩ := mem_routedTo.mp hr
      rw [hsettled] at hm
      rcases hframe.given r (hracks ▸ hm) with hold | ⟨v, hv, -, hc⟩
      · simpa using of_mem_cleared hold hp hd
      · cases hd.symm.trans hv
        exact hc.symm.trans hcls
    · rw [hsettled]
      refine hracks ▸ hframe.kept r (mem_cleared (s := classedTo s w k) hr fun hw' => ?_) hd
      exact decide_eq_false (not_not_intro (hk hw'))

end Sys2Proof.Proofs.ModesAndClasses
end

section
/-! The configuration items: what a write stores and leaves alone, the list that WRITE_CONFIG stores, and READ_CONFIG
and WRITE_CONFIG as transactions. -/

namespace Sys2Proof.Proofs.ConfigItems

open Sys2Proof.Machine Sys2Proof.Proofs.Rows Sys2Proof.Proofs.Registers
  Sys2Proof.Proofs.RegisterRows Sys2Proof.Proofs.Requests

/-! ### One value -/

/-- The nearer bound of the range. -/
theorem clamp_eq {lo hi : Nat} (h : lo ≤ hi) (v : Nat) :
    clamp lo hi v = if v < lo then lo else if hi < v then hi else v := by
  unfold clamp
  split
  · omega
  · split <;> omega

theorem yesNoOf_map (v : Nat) : (yesNoOf v).map yesNoCode = if v < 2 then some v else none :=
  match v with
  | 0 | 1 | _ + 2 => by simp [yesNoOf, yesNoCode]

theorem classOf_map (v : Nat) : (classOf v).map RackClass.code = if v < 4 then some v else none :=
  match v with
  | 0 | 1 | 2 | 3 | _ + 4 => by simp [classOf, RackClass.code]

theorem roleOf_map (v : Nat) : (roleOf v).map Role.code = if v < 8 then some v else none :=
  match v with
  | 0 | 1 | 2 | 3 | 4 | 5 | 6 | 7 | _ + 8 => by simp [roleOf, Role.code]

theorem clearModeOf_map (v : Nat) : (clearModeOf v).map ClearMode.code = if v < 2 then some v else none :=
  match v with
  | 0 | 1 | _ + 2 => by simp [clearModeOf, ClearMode.code]

/-! ### One item -/

theorem enable_withEnable (s : Stages) (k : Fin 3) (b : Bool) : (s.withEnable k b).enable k = b :=
  match k with
  | 0 | 1 | 2 => rfl

theorem enable_withEnable_ne (s : Stages) {j k : Fin 3} (h : j ≠ k) (b : Bool) :
    (s.withEnable k b).enable j = s.enable j := by
  fin_cases j <;> fin_cases k <;> trivial

/-- The seven items of a tag window, in the order of their numbers, as they are read. -/
def shown (w : TagWindow) : Fin 7 → Nat
  | 0 => yesNoCode w.enabled
  | 1 => w.startTag
  | 2 => w.endTag
  | 3 => w.cls.code
  | 4 => w.baseLevel
  | 5 => yesNoCode w.enrol
  | 6 => yesNoCode w.protect

theorem get_tagWindow (c : Configuration) (n : Fin 8) (a : Fin 7) :
    c.get (.tagWindow n a) = shown c.tagWindows[n] a := by
  fin_cases a <;> rfl

theorem shown_stored (w : TagWindow) (n : Fin 8) (a : Fin 7) (v : Nat) :
    (w.withAttribute a v).map (shown · a) = (Item.tagWindow n a).stored v :=
  match a with
  | 0 | 5 | 6 => (Option.map_map ..).trans (yesNoOf_map v)
  | 1 | 2 | 4 => congrArg some (clamp_eq (by decide) v)
  | 3 => (Option.map_map ..).trans (classOf_map v)

/-- A write of one item of a window leaves the other six. -/
theorem shown_other {w w' : TagWindow} {a b : Fin 7} {v : Nat} (h : w.withAttribute a v = some w')
    (hb : b ≠ a) : shown w' b = shown w b := by
  match a with
  | 1 | 2 | 4 =>
    cases h
    fin_cases b <;> trivial
  | 0 | 3 | 5 | 6 =>
    obtain ⟨x, -, rfl⟩ := Option.map_eq_some_iff.mp h
    fin_cases b <;> trivial

/-- What a write stores in its item: the nearer bound of a numeric one, a code of an enumerated one. -/
theorem put_stored (c : Configuration) (i : Item) (v : Nat) : (c.put i v).map (·.get i) = i.stored v := by
  cases i with
  | enable t k =>
    rw [Configuration.put, Option.map_map]
    refine Eq.trans (congrFun (congrArg Option.map (funext fun b => ?_)) _) (yesNoOf_map v)
    cases t <;> exact congrArg yesNoCode (enable_withEnable _ k b)
  | role p =>
    rw [Configuration.put, Option.map_map]
    refine Eq.trans (congrFun (congrArg Option.map (funext fun r => ?_)) _) (roleOf_map v)
    simp [Configuration.get]
  | mask =>
    show Option.map _ (if v < 65536 then _ else none) = if v < 65536 then some v else none
    split
    · next h => simp [Configuration.get, Nat.mod_eq_of_lt h]
    · rfl
  | clearMode => exact (Option.map_map ..).trans (clearModeOf_map v)
  | tagWindow n a =>
    rw [Configuration.put, Option.map_map, ← shown_stored c.tagWindows[n]]
    refine congrFun (congrArg Option.map (funext fun w => ?_)) _
    simp [get_tagWindow]
  | serviceLimit k | loadTable k | threshold k =>
    simp [Configuration.put, Configuration.get, Item.stored, Item.bounds, Config.maxCredit, clamp_eq]
  | _ => exact congrArg some (clamp_eq (by decide) v)

/-- An entry of a table that was not written. -/
theorem get_set_ne {α : Type} {n : Nat} (l : Vector α n) {j k : Fin n} (h : j ≠ k) (x : α) : (l.set k x)[j] = l[j] :=
  Vector.getElem_set_ne k.isLt j.isLt fun he => h (Fin.ext he.symm)

/-- A write leaves every other item. -/
theorem put_other {c c' : Configuration} {i j : Item} {v : Nat} (h : c.put i v = some c') (hj : j ≠ i) :
    c'.get j = c.get j := by
  cases i with
  | enable t k =>
    obtain ⟨b, -, rfl⟩ := Option.map_eq_some_iff.mp h
    cases j with
    | enable u m =>
      cases t <;> cases u
      case a.b | b.a => rfl
      case a.a | b.b => exact congrArg yesNoCode (enable_withEnable_ne _ (fun he => hj (congrArg _ he)) b)
    | _ => rfl
  | role p =>
    obtain ⟨r, -, rfl⟩ := Option.map_eq_some_iff.mp h
    cases j with
    | role q => exact congrArg Role.code (get_set_ne _ (fun he => hj (congrArg _ he)) r)
    | _ => rfl
  | mask =>
    obtain ⟨-, he⟩ := Option.ite_none_right_eq_some.mp h
    cases he
    cases j <;> trivial
  | clearMode =>
    obtain ⟨b, -, rfl⟩ := Option.map_eq_some_iff.mp h
    cases j <;> trivial
  | tagWindow n a =>
    obtain ⟨w, hw, rfl⟩ := Option.map_eq_some_iff.mp h
    cases j with
    | tagWindow m b =>
      rw [get_tagWindow, get_tagWindow]
      change shown (c.tagWindows.set n w)[m] b = _
      by_cases hm : m = n
      · subst hm
        have hb : b ≠ a := fun he => hj (he ▸ rfl)
        rw [show (c.tagWindows.set m w)[m] = w from Vector.getElem_set_self m.isLt]
        exact shown_other hw hb
      · exact congrArg (shown · b) (get_set_ne _ hm w)
    | _ => rfl
  | serviceLimit k =>
    cases h
    cases j with
    | serviceLimit m => exact get_set_ne _ (fun he => hj (congrArg _ he)) _
    | _ => rfl
  | loadTable k =>
    cases h
    cases j with
    | loadTable m => exact get_set_ne _ (fun he => hj (congrArg _ he)) _
    | _ => rfl
  | threshold k =>
    cases h
    cases j with
    | threshold m => exact get_set_ne _ (fun he => hj (congrArg _ he)) _
    | _ => rfl
  | _ =>
    cases h
    cases j <;> trivial

/-! ### Several pairs -/

/-- The last value that a list of pairs gives an item, as it is stored. -/
def lastStored (l : List (Item × Nat)) (i : Item) : Option Nat :=
  (l.reverse.find? fun e => decide (e.1 = i)).bind fun e => i.stored e.2

theorem put_eq_none {c : Configuration} {i : Item} {v : Nat} : c.put i v = none ↔ i.stored v = none := by
  rw [← put_stored c i v, Option.map_eq_none_iff]

theorem putAll_eq_none {l : List (Item × Nat)} : ∀ {c : Configuration},
    c.putAll l = none ↔ ∃ e ∈ l, e.1.stored e.2 = none := by
  induction l with
  | nil => simp [Configuration.putAll]
  | cons e l ih =>
    intro c
    rw [Configuration.putAll]
    cases hp : c.put e.1 e.2 with
    | none => simp [put_eq_none.mp hp]
    | some c' => simp [ih, ← put_eq_none (c := c), hp]

theorem lastStored_cons (e : Item × Nat) (l : List (Item × Nat)) (i : Item) : lastStored (e :: l) i =
    (((l.reverse.find? fun e => decide (e.1 = i)).or (if e.1 = i then some e else none)).bind
      fun e => i.stored e.2) := by
  simp [lastStored, List.find?_append, List.find?_singleton]

/-- After a list of pairs each item has the last value given for it, or its old one. -/
theorem putAll_get {l : List (Item × Nat)} : ∀ {c c' : Configuration}, c.putAll l = some c' → ∀ i,
    c'.get i = (lastStored l i).getD (c.get i) := by
  induction l with
  | nil =>
    intro c c' h i
    cases h
    rfl
  | cons e l ih =>
    intro c c' h i
    rw [Configuration.putAll] at h
    cases hp : c.put e.1 e.2 with
    | none => simp [hp] at h
    | some c₁ =>
      simp only [hp] at h
      rw [ih h i, lastStored_cons, lastStored]
      cases hf : l.reverse.find? fun e => decide (e.1 = i) with
      | some e' =>
        have hi : e'.1 = i := by simpa using List.find?_some hf
        have hs : i.stored e'.2 ≠ none := fun hn => absurd (h.symm.trans (putAll_eq_none.mpr
          ⟨e', List.mem_reverse.mp (List.mem_of_find?_eq_some hf), hi ▸ hn⟩)) nofun
        obtain ⟨x, hx⟩ := Option.ne_none_iff_exists'.mp hs
        simp [hx]
      | none =>
        by_cases hi : e.1 = i
        · subst hi
          simp [← put_stored c e.1 e.2, hp]
        · simp [hi, put_other hp (Ne.symm hi)]

/-! ### Item numbers -/

theorem itemsOf_eq_none {ns : List Nat} : itemsOf ns = none ↔ ∃ n ∈ ns, itemOf n = none := by
  induction ns with
  | nil => simp [itemsOf]
  | cons n ns ih =>
    rw [itemsOf]
    cases hn : itemOf n with
    | none => simp [hn]
    | some i =>
      cases hs : itemsOf ns with
      | none => simpa [hn] using ih.mp hs
      | some is => simpa [hn, hs] using ih

theorem itemsOf_some {ns : List Nat} : ∀ {is : List Item}, itemsOf ns = some is → is.map some = ns.map itemOf := by
  induction ns with
  | nil =>
    intro is h
    cases h
    rfl
  | cons n ns ih =>
    intro is h
    rw [itemsOf] at h
    cases hn : itemOf n with
    | none => simp [hn] at h
    | some i =>
      cases hs : itemsOf ns with
      | none => simp [hn, hs] at h
      | some is' =>
        simp only [hn, hs, Option.some.injEq] at h
        subst h
        simp [ih hs, hn]

/-- The items named, each beside its value. -/
theorem zip_values {ns : List Nat} {is : List Item} (h : is.map some = ns.map itemOf) (f : Item → Nat) :
    ns.zip (is.map f) = ns.map fun n => (n, ((itemOf n).map f).getD 0) := by
  induction ns generalizing is with
  | nil => simp
  | cons n ns ih =>
    cases is with
    | nil => simp at h
    | cons i is =>
      obtain ⟨hn, hs⟩ := List.cons.inj h
      simp [← hn, ih hs]

/-- The last element of a list that has what is sought, seen in an image of the list. -/
theorem find_reverse_map {α β γ : Type} (f : α → β) (p : β → Bool) (g : β → Option γ) (l : List α) :
    (((l.map f).reverse.find? p).bind g) = (l.reverse.find? (p ∘ f)).bind (g ∘ f) := by
  rw [← List.map_reverse, List.find?_map, Option.bind_map]

/-- The pairs of a write, by their items. -/
theorem zip_items {l : List (Nat × Nat)} {is : List Item} (h : is.map some = (l.map (·.1)).map itemOf) :
    (is.zip (l.map (·.2))).map (Prod.map some id) = l.map fun e => (itemOf e.1, e.2) := by
  rw [← List.zip_map_left, h, List.map_map, List.zip_map']
  rfl

/-- What the pairs written give an item last. -/
theorem lastStored_zip {l : List (Nat × Nat)} {is : List Item} (h : is.map some = (l.map (·.1)).map itemOf) (i : Item) :
    lastStored (is.zip (l.map (·.2))) i =
      (l.reverse.find? fun e => decide (itemOf e.1 = some i)).bind fun e => i.stored e.2 := by
  have hl := find_reverse_map (Prod.map some id) (fun e => decide (e.1 = some i)) (fun e => i.stored e.2)
    (is.zip (l.map (·.2)))
  rw [zip_items h, find_reverse_map] at hl
  refine Eq.trans ?_ hl.symm
  simp only [lastStored, Function.comp_def, Prod.map, Option.some.injEq, id_eq]

/-- A pair that is refused refuses the write. -/
theorem putAll_zip_eq_none {c : Configuration} {l : List (Nat × Nat)} {is : List Item}
    (h : is.map some = (l.map (·.1)).map itemOf) :
    c.putAll (is.zip (l.map (·.2))) = none ↔ ∃ e ∈ l, (itemOf e.1).bind (fun i => i.stored e.2) = none := by
  have hz := zip_items h
  rw [putAll_eq_none]
  constructor
  · rintro ⟨z, hz', hn⟩
    obtain ⟨e, he, heq⟩ := List.mem_map.mp (hz ▸ List.mem_map_of_mem (f := Prod.map some id) hz')
    obtain ⟨h1, h2⟩ := Prod.mk.inj heq
    exact ⟨e, he, by rw [h1, h2]; exact hn⟩
  · rintro ⟨e, he, hn⟩
    obtain ⟨z, hz', heq⟩ := List.mem_map.mp (hz ▸ List.mem_map_of_mem (f := fun e : Nat × Nat => (itemOf e.1, e.2)) he)
    obtain ⟨h1, h2⟩ := Prod.mk.inj heq
    rw [← h1, ← h2] at hn
    exact ⟨z, hz', hn⟩

/-! ### The transactions -/

/-- A transaction of 1 to 64 items of `k` bytes that fits its length is carried out. -/
theorem take_items {s : State} {x : Transfer} {k n : Nat} (hr : s.rstLow = false) (h1 : 1 ≤ n) (h64 : n ≤ 64)
    (h : x.isWhole (k * n)) {act : State → Taken} {v : Taken} (hv : act s = v) :
    s.take x (lengthFits x (k * n) (decide (1 ≤ n) && decide (n ≤ 64))) act =
      (ended (settled v.event)).respond x ⟨v.status, v.body⟩ := by
  subst hv
  rw [decide_eq_true h1, decide_eq_true h64, Bool.and_self, State.take_whole hr h, ended_settled]

theorem readItems_some {s : State} {ns : List Nat} (h : ∀ n ∈ ns, (itemOf n).isSome) :
    s.readItems ns = s.answerRead (.config (ns.map fun n => (n, ((itemOf n).map s.config.get).getD 0))) := by
  cases hi : itemsOf ns with
  | none =>
    obtain ⟨n, hn, hnone⟩ := itemsOf_eq_none.mp hi
    exact absurd (hnone ▸ h n hn) nofun
  | some is => simp only [State.readItems, hi, zip_values (itemsOf_some hi)]

theorem readItems_none {s : State} {ns : List Nat} (h : ∃ n ∈ ns, itemOf n = none) : s.readItems ns = s.badValue := by
  simp only [State.readItems, itemsOf_eq_none.mpr h]

theorem writeItems_none {s : State} {pairs : List (Nat × Nat)}
    (h : ∃ e ∈ pairs, (itemOf e.1).bind (fun i => i.stored e.2) = none) : s.writeItems pairs = s.badValue := by
  rw [State.writeItems]
  cases hi : itemsOf (pairs.map (·.1)) with
  | none => rfl
  | some is => simp only [(putAll_zip_eq_none (itemsOf_some hi)).mpr h]

/-- A write of pairs that are all accepted: the configuration it stores, and the event it makes. -/
theorem writeItems_some {s : State} {pairs : List (Nat × Nat)}
    (h : ∀ e ∈ pairs, (itemOf e.1).bind (fun i => i.stored e.2) ≠ none) : ∃ is c',
    s.writeItems pairs = ⟨({ s.event with config := c' } : Event).afterWrite s.config is, .done,
      .config (pairs.map fun e => (e.1, ((itemOf e.1).map c'.get).getD 0))⟩ ∧
    ∀ i, c'.get i = ((pairs.reverse.find? fun e => decide (itemOf e.1 = some i)).bind
      fun e => i.stored e.2).getD (s.config.get i) := by
  cases hi : itemsOf (pairs.map (·.1)) with
  | none =>
    obtain ⟨n, hn, hnone⟩ := itemsOf_eq_none.mp hi
    obtain ⟨e, he, rfl⟩ := List.mem_map.mp hn
    exact absurd (by rw [hnone]; rfl) (h e he)
  | some is =>
    have his := itemsOf_some hi
    cases hc : s.config.putAll (is.zip (pairs.map (·.2))) with
    | none =>
      obtain ⟨e, he, hn⟩ := (putAll_zip_eq_none his).mp hc
      exact absurd hn (h e he)
    | some c' =>
      refine ⟨is, c', ?_, fun i => ?_⟩
      · simp only [State.writeItems, hi, hc, zip_values his, List.map_map, Function.comp_def]
      · rw [putAll_get hc i, lastStored_zip his]

/-- What is written stands when the transaction ends. -/
theorem config_written (s : State) (x : Transfer) (r : Response) (c' : Configuration) (is : List Item) :
    ((ended (settled (({ s.event with config := c' } : Event).afterWrite s.config is))).respond x r).config = c' := by
  have hk := kept_finish (f := { ports := true }) rfl
    (({ s.event with config := c' } : Event).afterWrite s.config is) none
  rw [ended_settled] at hk
  have hf := ((kept_write s c' is).trans hk).fixed
  injection hf with _ _ _ _ _ _ _ hconfig

/-! ### The clauses on whole transactions -/

section
variable {s : State} {x : Transfer}

theorem exec_readConfig {items : List (BitVec 16)} (hr : s.rstLow = false) (h1 : 1 ≤ items.length)
    (h64 : items.length ≤ 64) (hx : x.isWhole (2 * items.length)) {v : Taken}
    (hv : s.readItems (items.map (·.toNat)) = v) :
    exec (.readConfig x items) s = .next ((ended (settled v.event)).respond x ⟨v.status, v.body⟩) := by
  rw [show exec (.readConfig x items) s = execReadConfig x items s from rfl, execReadConfig, take_items hr h1 h64 hx hv]

theorem exec_writeConfig {pairs : List (BitVec 16 × BitVec 32)} (hr : s.rstLow = false) (h1 : 1 ≤ pairs.length)
    (h64 : pairs.length ≤ 64) (hx : x.isWhole (6 * pairs.length)) {v : Taken}
    (hv : s.writeItems (pairs.map fun e => (e.1.toNat, e.2.toNat)) = v) :
    exec (.writeConfig x pairs) s = .next ((ended (settled v.event)).respond x ⟨v.status, v.body⟩) := by
  rw [show exec (.writeConfig x pairs) s = execWriteConfig x pairs s from rfl, execWriteConfig,
    take_items hr h1 h64 hx hv]

theorem readConfig_known {items : List (BitVec 16)} (hr : s.rstLow = false) (h1 : 1 ≤ items.length)
    (h64 : items.length ≤ 64) (hx : x.isWhole (2 * items.length)) (h : ∀ n ∈ items, (itemOf n.toNat).isSome) :
    exec (.readConfig x items) s = .next (s.respond x ⟨.done, .config
      (items.map fun n => (n.toNat, ((itemOf n.toNat).map s.config.get).getD 0))⟩) := by
  rw [exec_readConfig hr h1 h64 hx (readItems_some (List.forall_mem_map.mpr h)), List.map_map, State.answerRead,
    settled_event, ended_nothing]
  rfl

theorem readConfig_unknown {items : List (BitVec 16)} (hr : s.rstLow = false) (h1 : 1 ≤ items.length)
    (h64 : items.length ≤ 64) (hx : x.isWhole (2 * items.length)) (h : ∃ n ∈ items, itemOf n.toNat = none) :
    exec (.readConfig x items) s = .next (s.respond x ⟨.badValue, .alone⟩) := by
  obtain ⟨n, hn, hnone⟩ := h
  rw [exec_readConfig hr h1 h64 hx (readItems_none ⟨_, List.mem_map_of_mem hn, hnone⟩), State.badValue,
    settled_event, ended_nothing]

theorem writeConfig_refused {pairs : List (BitVec 16 × BitVec 32)} (hr : s.rstLow = false) (h1 : 1 ≤ pairs.length)
    (h64 : pairs.length ≤ 64) (hx : x.isWhole (6 * pairs.length))
    (h : ∃ e ∈ pairs, (itemOf e.1.toNat).bind (fun i => i.stored e.2.toNat) = none) :
    exec (.writeConfig x pairs) s = .next (s.respond x ⟨.badValue, .alone⟩) := by
  obtain ⟨e, he, hnone⟩ := h
  rw [exec_writeConfig hr h1 h64 hx (writeItems_none ⟨_, List.mem_map_of_mem he, hnone⟩), State.badValue,
    settled_event, ended_nothing]

theorem writeConfig_stored {pairs : List (BitVec 16 × BitVec 32)} (hr : s.rstLow = false) (h1 : 1 ≤ pairs.length)
    (h64 : pairs.length ≤ 64) (hx : x.isWhole (6 * pairs.length))
    (h : ∀ e ∈ pairs, (itemOf e.1.toNat).bind (fun i => i.stored e.2.toNat) ≠ none) :
    ∃ t, exec (.writeConfig x pairs) s = .next t ∧
      (∀ i : Item, t.config.get i = ((pairs.reverse.find? fun e => decide (itemOf e.1.toNat = some i)).bind
        fun e => i.stored e.2.toNat).getD (s.config.get i)) ∧
      t.response = some ⟨.done, .config
        (pairs.map fun e => (e.1.toNat, ((itemOf e.1.toNat).map t.config.get).getD 0))⟩ := by
  obtain ⟨is, c', hv, hget⟩ := writeItems_some (s := s) (pairs := pairs.map fun e => (e.1.toNat, e.2.toNat))
    (List.forall_mem_map.mpr h)
  refine ⟨_, exec_writeConfig hr h1 h64 hx hv, fun i => ?_, ?_⟩
  · rw [config_written, hget, find_reverse_map]
    rfl
  · rw [config_written, List.map_map]
    rfl

end

end Sys2Proof.Proofs.ConfigItems
end

section
/-! What the work at one gate leaves of the other tunnel: its context, its lane, and the rack in FINAL. -/

namespace Sys2Proof.Proofs.OtherGate

open Sys2Proof.Machine Sys2Proof.Proofs.Tables Sys2Proof.Proofs.Acts Sys2Proof.Proofs.ActsKeepTheTable
  Sys2Proof.Proofs.Words Sys2Proof.Proofs.GateWords Sys2Proof.Proofs.GateTests Sys2Proof.Proofs.LaneLists
  Sys2Proof.Proofs.TunnelLaw Sys2Proof.Proofs.Reports Sys2Proof.Proofs.Chains

variable {s s' s'' : State} {t : Tunnel} {r : Rack} {sh : PassSheet} {v : Verdict}

/-- `s'` is `s` after work at the gate of `t`, as far as the other tunnel sees it. -/
structure Apart (t : Tunnel) (s s' : State) : Prop where
  tunnel : s'.tunnels.get t.other = s.tunnels.get t.other
  lane : s'.lane t.other = s.lane t.other
  config : s'.config = s.config
  now : s'.now = s.now

theorem Apart.refl (t : Tunnel) (s : State) : Apart t s s := ⟨rfl, rfl, rfl, rfl⟩

theorem Apart.trans (h : Apart t s s') (h' : Apart t s' s'') : Apart t s s'' where
  tunnel := h'.tunnel.trans h.tunnel
  lane := h'.lane.trans h.lane
  config := h'.config.trans h.config
  now := h'.now.trans h.now

theorem Apart.finalRack (h : Apart t s s') : s'.finalRack t.other = s.finalRack t.other := by
  rw [State.finalRack, h.lane]
  rfl

theorem tags_withSheet (htags : Tags s.racks) (tag : Nat) (sh : PassSheet) : Tags (s.withSheet tag sh).racks := by
  have hmap : (edited s.racks tag fun x => { x with sheet := some sh }).map (·.tag) = s.racks.map (·.tag) :=
    map_edited fun _ _ _ => rfl
  exact (congrArg List.Nodup hmap).mpr htags

theorem mem_withSheet (hm : r ∈ s.racks) (sh : PassSheet) :
    ({ r with sheet := some sh } : Rack) ∈ (s.withSheet r.tag sh).racks :=
  List.mem_map.mpr ⟨r, hm, if_pos rfl⟩

/-- A new sheet of a rack in the lane of `t`. -/
theorem apart_withSheet (htags : Tags s.racks) (hm : r ∈ s.racks) (hp : r.place = .tunnel t) (sh : PassSheet) :
    Apart t s (s.withSheet r.tag sh) where
  tunnel := rfl
  lane := by
    rw [lane_withSheet]
    refine edited_of_absent fun x hx ht => ?_
    obtain ⟨hxm, hxp⟩ := mem_lane.mp hx
    obtain rfl := eq_of_tag htags hm hxm ht
    exact place_other hp hxp
  config := rfl
  now := rfl

theorem rehoused_racks (s : State) (r' : Rack) (d : Destination) (cause : Option HoldCause) :
    (rehoused s r' d cause).racks = rejoined s.racks r' := by
  unfold rehoused State.holdNoted
  dsimp only
  split
  · split
    · split <;> rfl
    · split <;> rfl
  · split <;> rfl

theorem releasedFrom_racks (s : State) (t : Tunnel) (r : Rack) (v : Verdict) (d : Destination)
    (cause : Option HoldCause) :
    (s.releasedFrom t r v d cause).racks = rejoined s.racks (r.released v d cause s.now) :=
  rehoused_racks s (r.released v d cause s.now) d cause

/-- A release of a rack in the lane of `t`. -/
theorem apart_releasedFrom (htags : Tags s.racks) (hm : r ∈ s.racks) (hp : r.place = .tunnel t) (v : Verdict)
    (d : Destination) (cause : Option HoldCause) : Apart t s (s.releasedFrom t r v d cause) where
  tunnel := PerTunnel.get_set_other _ t _
  lane := by
    rw [lane_eq, releasedFrom_racks, laneIn_rejoined, if_neg (by exact d.place_ne_tunnel t.other), List.append_nil]
    exact laneIn_filter_other (r := r) htags hm (place_other hp)
  config := (rehoused_registers s (r.released v d cause s.now) d cause).2.1
  now := (rehoused_registers s (r.released v d cause s.now) d cause).2.2

theorem apart_gateTest (htags : Tags s.racks) (hm : r ∈ s.racks) (hp : r.place = .tunnel t) (v : Verdict)
    (grant : Option Port) : Apart t s (s.gateTest t r v grant).1 := by
  cases hrow : s.gateRow t v r.passes with
  | none =>
    rw [gateTest_shut hrow]
    exact ⟨PerTunnel.get_set_other _ t _, rfl, rfl, rfl⟩
  | some x =>
    rw [gateTest_released (d := x.1) (cause := x.2) hrow]
    exact apart_releasedFrom htags hm hp v _ _

/-- The test of a gate told of room. -/
theorem apart_retested (htags : Tags s.racks) (t : Tunnel) : Apart t s (s.retested t).1 := by
  unfold State.retested
  split
  · next r _ hf =>
    obtain ⟨hm, hp, -⟩ := mem_of_finalRack hf
    split
    · split
      · exact apart_gateTest htags hm hp _ _
      · exact .refl t s
    · exact .refl t s
  · exact .refl t s

theorem apart_judgedAt (htags : Tags s.racks) (hm : r ∈ s.racks) (hp : r.place = .tunnel t) (sh : PassSheet) :
    Apart t s (s.judgedAt t r sh).1 := by
  unfold State.judgedAt
  dsimp only
  split
  · rw [← gateTest_sheet _ t r (some _) _ _]
    exact (apart_withSheet htags hm hp _).trans
      (apart_gateTest (tags_withSheet htags _ _) (mem_withSheet hm _) hp _ _)
  · exact apart_withSheet htags hm hp _

/-- A readiness test. -/
theorem apart_readied (htags : Tags s.racks) (t : Tunnel) : Apart t s (s.readied t).1 := by
  unfold State.readied
  split
  · next r hf =>
    obtain ⟨hm, hp, -⟩ := mem_of_finalRack hf
    split
    · split
      · exact apart_judgedAt htags hm hp _
      · exact .refl t s
    · exact .refl t s
  · exact .refl t s

end Sys2Proof.Proofs.OtherGate
end

section
/-! What a WRITE_CONFIG of one item makes follow (R171, R182). -/

namespace Sys2Proof.Proofs.ConfigEffects

open Sys2Proof.Machine Sys2Proof.Proofs.Tables Sys2Proof.Proofs.Acts Sys2Proof.Proofs.ActsKeepTheTable
  Sys2Proof.Proofs.Requests Sys2Proof.Proofs.Words Sys2Proof.Proofs.Owing Sys2Proof.Proofs.GateTests
  Sys2Proof.Proofs.GateWords Sys2Proof.Proofs.Endings Sys2Proof.Proofs.LaneLists Sys2Proof.Proofs.TunnelStates
  Sys2Proof.Proofs.Chains Sys2Proof.Proofs.Beginnings Sys2Proof.Proofs.Reports Sys2Proof.Proofs.Admission
  Sys2Proof.Proofs.ConfigItems Sys2Proof.Proofs.OtherGate Sys2Proof.Proofs.Departures

variable {s s' : State} {e : Event} {x : Transfer} {n : BitVec 16} {v : BitVec 32} {i : Item}
  {c c' old : Configuration} {t : Tunnel}

/-! ### One pair -/

/-- The event of a WRITE_CONFIG that stores `c'`. -/
def writing (s : State) (c' : Configuration) (i : Item) : Event :=
  ({ s with config := c' } : State).event.afterWrite s.config [i]

theorem exec_writeOne (hr : s.rstLow = false) (hx : x.isWhole 6) (hi : itemOf n.toNat = some i)
    (hc : s.config.put i v.toNat = some c') : exec (.writeConfig x [(n, v)]) s =
      .next ((ended (settled (writing s c' i))).respond x ⟨.done, .config [(n.toNat, c'.get i)]⟩) := by
  have hv : s.writeItems ([(n, v)].map fun e => (e.1.toNat, e.2.toNat)) =
      ⟨writing s c' i, .done, .config [(n.toNat, c'.get i)]⟩ := by
    simp only [State.writeItems, List.map_cons, List.map_nil, itemsOf, hi, List.zip_cons_cons, List.zip_nil_right,
      Configuration.putAll, hc]
    rfl
  rw [exec_writeConfig hr le_rfl (by simp) (by simpa using hx) hv]

/-! ### Roles -/

theorem rolesChanged_same (ps : List Port) : ∀ e : Event, (∀ p ∈ ps, old.roles[p] = e.config.roles[p]) →
    e.rolesChanged old ps = e := by
  induction ps with
  | nil => exact fun e _ => rfl
  | cons p ps ih =>
    intro e h
    rw [Event.rolesChanged, if_pos (h p List.mem_cons_self)]
    exact ih e fun q hq => h q (List.mem_cons_of_mem _ hq)

theorem roleOf_code (x : Role) : roleOf x.code = some x := by
  cases x with
  | tunnel t | unload t => cases t <;> rfl
  | _ => rfl

theorem code_injective : Function.Injective Role.code := fun a b h =>
  Option.some.inj ((roleOf_code a).symm.trans ((congrArg roleOf h).trans (roleOf_code b)))

theorem roles_of_put {w : Nat} (h : c.put i w = some c') {p : Port} (hp : i ≠ .role p) : c'.roles[p] = c.roles[p] :=
  code_injective (put_other h (j := .role p) (Ne.symm hp))

/-! ### Tests of readiness -/

/-- The readiness test that a write brings about, in the words of the statements. -/
theorem gated_testAfterWrite (htags : Tags e.racks) (old : Configuration) (written : List Item) (t : Tunnel) :
    Gated e (e.testAfterWrite old written t) fun s => whenever (s.writeTests old written t) (·.readied t) s := by
  unfold Event.testAfterWrite
  cases hw : e.toState.writeTests old written t with
  | true =>
    refine (gated_readinessTest htags t).congr ?_
    rw [hw, whenever_true]
  | false =>
    refine (Gated.refl e).congr ?_
    rw [hw, whenever_false]

theorem crossed_iff {old new dwell : Nat} : crossed old new dwell = true ↔ dwell < old ∧ new ≤ dwell := by
  rw [crossed, Bool.and_eq_true, decide_eq_true_eq, decide_eq_true_eq]

/-- A write of an item other than a threshold tests readiness where a dwell limit crosses the dwell. -/
theorem writeTests_iff (hi : ∀ k, i ≠ .threshold k) : s.writeTests old [i] t = true ↔
    s.dwellCrossed t old.minDwell s.config.minDwell ∨
      s.dwellCrossed t (max old.maxDwell old.minDwell) (max s.config.maxDwell s.config.minDwell) := by
  unfold State.writeTests State.dwellCrossed
  cases (s.finalRack t).bind (·.sheet) with
  | none => simp
  | some sh =>
    cases i with
    | threshold k => exact absurd rfl (hi k)
    | _ => simp [crossed_iff, Configuration.maxDwellInForce]

/-- The readiness tests of a write see the rack in FINAL, the tick and the configuration alone. -/
theorem writeTests_apart (h : Apart t s s') (old : Configuration) (written : List Item) :
    s'.writeTests old written t.other = s.writeTests old written t.other := by
  unfold State.writeTests
  rw [h.finalRack, h.config, h.now]

theorem testAfterWrite_owes (e : Event) (old : Configuration) (written : List Item) (t : Tunnel) :
    (e.testAfterWrite old written t).room = e.room ∧ (e.testAfterWrite old written t).wantPairing = e.wantPairing := by
  unfold Event.testAfterWrite
  split
  · exact readinessTest_owes e t
  · exact ⟨rfl, rfl⟩

/-- The test that a write brings about at one gate. -/
def testing (old : Configuration) (written : List Item) (t : Tunnel) (s : State) : Made :=
  whenever (s.writeTests old written t) (·.readied t) s

/-- The tests of both racks in FINAL that a write brings about, A before B. -/
theorem settled_tested (h : s.recordLaw) (old : Configuration) (written : List Item) :
    settled ((s.event.testAfterWrite old written .a).testAfterWrite old written .b) =
      s.reevaluated (followed (testing old written .a s) (testing old written .b)) := by
  have hbegin : SoFar s s.event := ⟨.refl, FinalsFrom.event s⟩
  have hA := soFar_testAfterWrite hbegin old written .a
  have hB := soFar_testAfterWrite hA old written .b
  have hg := grantable_of_pendingSound ((recordLaw_iff _).mp (hB.lawful h).law).2
  obtain ⟨hroomA, hpairA⟩ := testAfterWrite_owes s.event old written .a
  obtain ⟨hroomB, hpairB⟩ := testAfterWrite_owes (s.event.testAfterWrite old written .a) old written .b
  have hgated := (gated_testAfterWrite (e := s.event) (lawful_event h).tags old written .a).trans
    (gated_testAfterWrite (hA.lawful h).tags old written .b)
  exact settled_gated hgated rfl (hpairB.trans hpairA) rfl (hroomB.trans hroomA) hg

/-- A threshold tests every rack in FINAL. -/
theorem testing_threshold (old : Configuration) (k : Fin 4) (t : Tunnel) (s : State) :
    testing old [.threshold k] t s = s.readied t := by
  unfold testing whenever State.writeTests State.readied
  cases hf : s.finalRack t with
  | none => rfl
  | some r => cases hs : r.sheet <;> simp [hf, hs]

/-- A dwell limit tests the racks in FINAL whose dwell it crosses; the test at A changes nothing of that at B. -/
theorem followed_testing (htags : Tags s.racks) {A B : Prop} [Decidable A] [Decidable B]
    (hA : s.writeTests old [i] .a = true ↔ A) (hB : s.writeTests old [i] .b = true ↔ B) :
    followed (testing old [i] .a s) (testing old [i] .b) =
      followed (if A then s.readied .a else (s, [])) fun z => if B then z.readied .b else (z, []) := by
  have htestA : testing old [i] .a s = if A then s.readied .a else (s, []) := if_congr hA rfl rfl
  have hapart : Apart .a s (if A then s.readied .a else (s, [])).1 := by
    split
    · exact apart_readied htags .a
    · exact .refl .a s
  rw [htestA]
  generalize (if A then s.readied .a else (s, [])) = x at hapart
  have hseen : x.1.writeTests old [i] .b = true ↔ B := by
    rw [show Tunnel.b = Tunnel.a.other from rfl, writeTests_apart hapart]
    exact hB
  have htestB : testing old [i] .b x.1 = if B then x.1.readied .b else (x.1, []) := if_congr hseen rfl rfl
  unfold followed
  rw [htestB]

/-- A write of another item than a threshold and a dwell limit tests nothing. -/
theorem testAfterWrite_quiet (hi : ∀ k, i ≠ .threshold k) (hmin : old.minDwell = e.config.minDwell)
    (hmax : old.maxDwell = e.config.maxDwell) (t : Tunnel) : e.testAfterWrite old [i] t = e := by
  have hno : ¬ e.toState.writeTests old [i] t = true := by
    rw [writeTests_iff hi, hmin, hmax]
    rintro (⟨sh, -, hlt, hle⟩ | ⟨sh, -, hlt, hle⟩) <;> omega
  rw [Event.testAfterWrite, if_neg hno]

/-! ### The lost timeout (R19) -/

/-- These records gone, with LOST_RETIRED. -/
def lostAll (e : Event) (rs : List Rack) : Event := { e with
  racks := e.racks.filter fun x => decide (x.tag ∉ rs.map (·.tag))
  notices := if rs = [] then e.notices else e.notices ||| 8 }

theorem lostAll_nil (e : Event) : lostAll e [] = e := by
  simp [lostAll]

theorem lostAll_cons (e : Event) (r : Rack) (rs : List Rack) : lostAll (lostAll e [r]) rs = lostAll e (r :: rs) := by
  unfold lostAll
  dsimp only
  rw [List.filter_filter]
  congr 2
  · refine List.filter_congr fun x _ => ?_
    rw [Bool.eq_iff_iff]
    simp [and_comm]
  · split
    · rfl
    · simp [BitVec.or_assoc]

theorem loseRecord_eq {r : Rack} (hp : r.place = .unknown) (e : Event) :
    e.loseRecord r = (lostAll e [r]).cancelPending r.tag := by
  unfold Event.loseRecord Event.retireRack Event.remove Event.departed
  rw [hp]
  refine congrArg (fun e : Event => e.cancelPending r.tag) ?_
  simp only [lostAll, List.map_cons, List.map_nil, List.mem_singleton, if_neg (List.cons_ne_nil r [])]
  rfl

/-- Records lost beside the pending admission. -/
theorem loseRecords_of_ne {rs : List Rack} : ∀ {e : Event}, (∀ r ∈ rs, r.place = .unknown) →
    (∀ r ∈ rs, e.pendingAdmission.map (·.tag) ≠ some r.tag) → e.loseRecords rs = lostAll e rs := by
  induction rs with
  | nil => exact fun _ _ => (lostAll_nil _).symm
  | cons r rs ih =>
    intro e hp hn
    have hne : (lostAll e [r]).pendingAdmission.map (·.tag) ≠ some r.tag := hn r List.mem_cons_self
    rw [Event.loseRecords, loseRecord_eq (hp r List.mem_cons_self), Event.cancelPending_of_ne hne,
      ih (e := lostAll e [r]) (fun y hy => hp y (List.mem_cons_of_mem _ hy))
        fun y hy => hn y (List.mem_cons_of_mem _ hy), lostAll_cons]

/-- Records lost with the one of the pending admission among them. -/
theorem loseRecords_of_mem {q : PendingAdmission} {rs : List Rack} : ∀ {e : Event}, (∀ r ∈ rs, r.place = .unknown) →
    e.pendingAdmission = some q → (∃ r ∈ rs, r.tag = q.tag) →
    e.loseRecords rs = (lostAll e rs).cancelPending q.tag := by
  induction rs with
  | nil => exact fun _ _ h => absurd h (by simp)
  | cons r rs ih =>
    intro e hp hq hm
    have hp' : ∀ y ∈ rs, y.place = .unknown := fun y hy => hp y (List.mem_cons_of_mem _ hy)
    have hq' : (lostAll e [r]).pendingAdmission = some q := hq
    have hq'' : (lostAll e (r :: rs)).pendingAdmission = some q := hq
    rw [Event.loseRecords, loseRecord_eq (hp r List.mem_cons_self)]
    by_cases ht : q.tag = r.tag
    · rw [cancelPending_dues hq' ht, cancelPending_dues hq'' rfl,
        loseRecords_of_ne hp' fun y _ => by simp [Event.dropPending],
        ← lostAll_cons e r rs, ht]
      rfl
    · have hne : (lostAll e [r]).pendingAdmission.map (·.tag) ≠ some r.tag := by simpa [hq'] using ht
      obtain ⟨y, hy, hyt⟩ := hm
      have hy' : y ∈ rs := (List.mem_cons.mp hy).resolve_left fun he => ht (he ▸ hyt).symm
      rw [Event.cancelPending_of_ne hne, ih hp' hq' ⟨y, hy', hyt⟩, lostAll_cons]

/-- What the lost timeout in force leaves of the table and the notices. -/
def withoutLost (s : State) : State := { s with
  racks := s.racks.filter fun r => !s.lostDue r
  notices := if s.racks.any s.lostDue then s.notices ||| 8 else s.notices }

theorem lostAll_due (s : State) (htags : Tags s.racks) :
    lostAll s.event (s.racks.filter s.lostDue) = (withoutLost s).event := by
  have hracks : (s.racks.filter fun x => decide (x.tag ∉ (s.racks.filter s.lostDue).map (·.tag))) =
      s.racks.filter fun r => !s.lostDue r := by
    refine List.filter_congr fun x hx => ?_
    rw [Bool.eq_iff_iff, decide_eq_true_eq, Bool.not_eq_true', ← Bool.not_eq_true, not_iff_not, List.mem_map]
    constructor
    · rintro ⟨y, hy, ht⟩
      obtain ⟨hym, hd⟩ := List.mem_filter.mp hy
      exact eq_of_tag htags hx hym ht ▸ hd
    · exact fun hd => ⟨x, List.mem_filter.mpr ⟨hx, hd⟩, rfl⟩
  have hany : s.racks.filter s.lostDue = [] ↔ ¬ s.racks.any s.lostDue = true := by
    simp [List.filter_eq_nil_iff]
  unfold lostAll withoutLost
  rw [← hracks]
  by_cases h : s.racks.any s.lostDue = true
  · rw [if_neg (mt hany.mp (not_not.mpr h)), if_pos h]
    rfl
  · rw [if_pos (hany.mpr h), if_neg h]
    rfl

/-- The expiry in the words of the statements, over the records due. -/
theorem lostExpired_eq (s : State) : s.lostExpired =
    if (s.pendingAdmission.any fun q => s.racks.any fun r => decide (r.tag = q.tag) && s.lostDue r) then
      s.pendingAdmission.elim (withoutLost s, []) (withoutLost s).cancelled
    else (withoutLost s, []) := by
  have hdue (r : Rack) : s.lostDue r = decide (r.place = .unknown ∧ r.isProtected = false ∧ s.config.lostTimeout ≠ 0 ∧
      s.config.lostTimeout ≤ (s.now - r.since).toNat) := by
    rw [Bool.eq_iff_iff, lostDue_iff, decide_eq_true_eq]
  unfold State.lostExpired
  simp only [decide_not, Bool.decide_and] at hdue ⊢
  simp only [← hdue]
  split
  · next q hq =>
    simp only [hq, withoutLost, Option.any_some, Option.elim_some]
  · next hq =>
    simp only [hq, withoutLost, Option.any_none, Bool.false_eq_true, if_false]

/-- The records that the lost timeout makes due, all gone. -/
theorem settled_lost (s : State) (htags : Tags s.racks) :
    settled (s.event.loseRecords (s.racks.filter s.lostDue)) = s.lostExpired := by
  have hplace : ∀ r ∈ s.racks.filter s.lostDue, r.place = .unknown := fun r hr =>
    place_of_lostDue (List.mem_filter.mp hr).2
  have hlost := lostAll_due s htags
  rw [lostExpired_eq]
  by_cases hm : (s.pendingAdmission.any fun q => s.racks.any fun r => decide (r.tag = q.tag) && s.lostDue r) = true
  · obtain ⟨q, hq, hany⟩ := (Option.any_eq_true ..).mp hm
    obtain ⟨r, hr, ht, hd⟩ : ∃ r ∈ s.racks, r.tag = q.tag ∧ s.lostDue r = true := by simpa using hany
    rw [if_pos hm, hq, loseRecords_of_mem hplace hq ⟨r, List.mem_filter.mpr ⟨hr, hd⟩, ht⟩, hlost]
    exact settled_cancelled (e := (withoutLost s).event) hq rfl rfl rfl rfl
  · have hne : ∀ r ∈ s.racks.filter s.lostDue, s.event.pendingAdmission.map (·.tag) ≠ some r.tag := by
      intro r hr hp
      obtain ⟨hr, hd⟩ := List.mem_filter.mp hr
      obtain ⟨q, hq, ht⟩ := Option.map_eq_some_iff.mp hp
      exact hm ((Option.any_eq_true ..).mpr ⟨q, hq, List.any_eq_true.mpr ⟨r, hr, by simp [ht, hd]⟩⟩)
    rw [if_neg hm, loseRecords_of_ne hplace hne, hlost, settled_event]

/-! ### What one item makes follow (R182) -/

/-- An event with what it owes at its end beside what it owes already. -/
def owing (e : Event) (reeval idle : Bool) : Event := { e with
  wantReeval := e.wantReeval || reeval
  wantIdle := e.wantIdle || idle }

theorem owing_nothing (e : Event) : owing e false false = e := by
  simp only [owing, Bool.or_false]

/-- The event of a write of one item that is no role, before its tests. -/
def expiring (s : State) (i : Item) : Event :=
  if .lostTimeout ∈ [i] then s.event.loseRecords (s.racks.filter s.lostDue) else s.event

theorem config_expiring (s : State) (i : Item) : (expiring s i).config = s.config := by
  unfold expiring
  split
  · have hk : Registers.Kept {} s _ := Registers.kept_loseRecords (s.racks.filter s.lostDue) s.event
    have hf := hk.fixed
    injection hf
  · rfl

section Written

variable {w : Nat} (hc : s.config.put i w = some c') (hp : ∀ p, i ≠ .role p) (hs' : s' = { s with config := c' })
include hc hp hs'

/-- A write of an item that is no role: the records in UNKNOWN, the tests, and what the end of the event does. -/
theorem writing_eq : writing s c' i = owing
    (((expiring s' i).testAfterWrite s.config [i] .a).testAfterWrite s.config [i] .b)
    (writeReevaluates [i]) (decide (.idleTime ∈ [i])) := by
  subst hs'
  unfold writing Event.afterWrite
  rw [rolesChanged_same allPorts _ fun p _ => (roles_of_put hc (hp p)).symm]
  rfl

/-- A write of an item that tests nothing. -/
theorem writing_untested (hi : ∀ k, i ≠ .threshold k) (hmin : i ≠ .minDwell) (hmax : i ≠ .maxDwell) :
    writing s c' i = owing (expiring s' i) (writeReevaluates [i]) (decide (.idleTime ∈ [i])) := by
  have hconfig : (expiring s' i).config = c' := (config_expiring s' i).trans (congrArg _ hs')
  have hmin' : c'.minDwell = s.config.minDwell := put_other hc (j := .minDwell) (Ne.symm hmin)
  have hmax' : c'.maxDwell = s.config.maxDwell := put_other hc (j := .maxDwell) (Ne.symm hmax)
  have hquiet (t : Tunnel) : (expiring s' i).testAfterWrite s.config [i] t = expiring s' i :=
    testAfterWrite_quiet hi (by rw [hconfig, hmin']) (by rw [hconfig, hmax']) t
  rw [writing_eq hc hp hs', hquiet, hquiet]

end Written

/-- An event that owes at most idle times. -/
theorem settled_calm (hp : e.wantPairing = false) (hc : Calm e) :
    settled e = followed (e.toState, e.out) (whenever e.wantIdle (·.idledBoth)) := by
  obtain ⟨hstate, hout⟩ := hc.rest
  rw [settled, Event.settle, pairIfWanted_of_unwanted hp, hc.pass, hstate, hout]
  rfl

/-- Settles O56. -/
theorem configReadsAndWrites : Obligations.ConfigReadsAndWrites := by
  rintro x items pairs n v i c' s s' hr
  refine ⟨fun h1 h64 hx => readConfig_known hr h1 h64 hx, fun h1 h64 hx => readConfig_unknown hr h1 h64 hx,
    fun h1 h64 hx => writeConfig_refused hr h1 h64 hx, fun h1 h64 hx => writeConfig_stored hr h1 h64 hx,
    fun hx hi hc hp hlaw hs' => ?_⟩
  rw [exec_writeOne hr hx hi hc]
  refine congrArg (fun m : Made => Host.Outcome.next ((ended m).respond x ⟨.done, .config [(n.toNat, c'.get i)]⟩)) ?_
  have hlaw' : s'.recordLaw := recordLaw_of_core (by rw [hs']; rfl) hlaw
  have htags : Tags s'.racks := (lawful_event hlaw').tags
  have hg : Grantable s' := grantable_of_pendingSound ((recordLaw_iff _).mp hlaw').2
  cases i with
  | threshold k =>
    rw [writing_eq hc hp hs']
    refine (congrArg settled (owing_nothing _)).trans ((settled_tested hlaw' _ _).trans ?_)
    rw [testing_threshold, funext (testing_threshold _ k .b)]
  | minDwell | maxDwell =>
    rw [writing_eq hc hp hs']
    refine (congrArg settled (owing_nothing _)).trans ((settled_tested hlaw' _ _).trans ?_)
    obtain rfl : c' = s'.config := by rw [hs']
    exact congrArg s'.reevaluated (followed_testing htags (writeTests_iff nofun) (writeTests_iff nofun))
  | lostTimeout =>
    rw [writing_untested hc hp hs' nofun nofun nofun]
    exact (congrArg settled (owing_nothing _)).trans (settled_lost s' htags)
  | idleTime =>
    rw [writing_untested hc hp hs' nofun nofun nofun]
    exact (settled_calm rfl ⟨rfl, rfl⟩).trans (followed_pure _ _)
  | spacing | boosterCount | boosterWindow | enable =>
    rw [writing_untested hc hp hs' nofun nofun nofun]
    exact settled_reevaluating hg
  | role p => exact absurd rfl (hp p)
  | _ =>
    rw [writing_untested hc hp hs' nofun nofun nofun]
    exact settled_event s'

end Sys2Proof.Proofs.ConfigEffects
end

section
/-! A new role of a port (R171): its waiting request and its deferred requests cancelled. -/

namespace Sys2Proof.Proofs.RoleChanges

open Sys2Proof.Machine Sys2Proof.Proofs.Tables Sys2Proof.Proofs.Acts Sys2Proof.Proofs.ActsKeepTheTable
  Sys2Proof.Proofs.Requests Sys2Proof.Proofs.Words Sys2Proof.Proofs.Owing Sys2Proof.Proofs.GateTests
  Sys2Proof.Proofs.GateWords Sys2Proof.Proofs.Endings Sys2Proof.Proofs.LaneLists Sys2Proof.Proofs.TunnelStates
  Sys2Proof.Proofs.Chains Sys2Proof.Proofs.Beginnings Sys2Proof.Proofs.Reports Sys2Proof.Proofs.Admission
  Sys2Proof.Proofs.ConfigItems Sys2Proof.Proofs.OtherGate Sys2Proof.Proofs.ConfigEffects

variable {s s' : State} {e : Event} {p : Port} {t : Tunnel} {role : Role} {old : Configuration}

/-! ### A deferred EXIT cancelled (R131) -/

theorem exists_sheet_of_finalRack {r : Rack} (hf : s.finalRack t = some r) : ∃ sh, r.sheet = some sh := by
  obtain ⟨-, -, hfin⟩ := mem_of_finalRack hf
  cases hs : r.sheet with
  | none => simp [Rack.inFinal, Rack.stage?, hs] at hfin
  | some sh => exact ⟨sh, rfl⟩

/-- The state with the gate of `t` open to no EXIT. -/
def exitDropped (s : State) (t : Tunnel) : State :=
  { s with tunnels := s.tunnels.set t { s.tunnels.get t with deferredExit := none, gateShut := false } }

theorem exitCancelled_of_ne (h : (s.tunnels.get t).deferredExit ≠ some p) : s.exitCancelled p t = s := if_neg h

theorem exitCancelled_of_empty (h : (s.tunnels.get t).deferredExit = some p) (hf : s.finalRack t = none) :
    s.exitCancelled p t = exitDropped s t := by
  refine (if_pos h).trans ?_
  simp only [hf]
  rfl

theorem exitCancelled_of_read {r : Rack} {sh : PassSheet} (h : (s.tunnels.get t).deferredExit = some p)
    (hf : s.finalRack t = some r) (hs : r.sheet = some sh) :
    s.exitCancelled p t = (exitDropped s t).withSheet r.tag { sh with exitRequested := false } := by
  refine (if_pos h).trans ?_
  simp only [hf, hs]
  rfl

/-- What an EXIT cancelled at one gate leaves of an event. -/
theorem cancelExit_word (htags : Tags e.racks) (p : Port) (t : Tunnel) :
    (e.cancelExit p t).toState = e.toState.exitCancelled p t ∧ (e.cancelExit p t).out = e.out ∧
      dues (e.cancelExit p t) = dues e ∧ (e.cancelExit p t).wantPairing = e.wantPairing := by
  unfold Event.cancelExit
  by_cases h : (e.tunnels.get t).deferredExit = some p
  · rw [if_pos h]
    cases hf : e.toState.finalRack t with
    | none => exact ⟨(exitCancelled_of_empty h hf).symm, rfl, rfl, rfl⟩
    | some r =>
      obtain ⟨sh, hs⟩ := exists_sheet_of_finalRack hf
      refine ⟨?_, rfl, rfl, rfl⟩
      rw [exitCancelled_of_read h hf hs]
      have hsheet := modifySheet_toState htags (mem_of_finalRack hf).1 hs fun sh => { sh with exitRequested := false }
      exact congrArg (exitDropped · t) hsheet
  · rw [if_neg h]
    exact ⟨(exitCancelled_of_ne h).symm, rfl, rfl, rfl⟩

theorem exitCancelled_cases (s : State) (p : Port) (t : Tunnel) :
    ((s.tunnels.get t).deferredExit ≠ some p ∧ s.exitCancelled p t = s) ∨ s.exitCancelled p t = exitDropped s t ∨
      ∃ r ∈ s.racks, ∃ sh, r.sheet = some sh ∧
        s.exitCancelled p t = (exitDropped s t).withSheet r.tag { sh with exitRequested := false } := by
  by_cases h : (s.tunnels.get t).deferredExit = some p
  · cases hf : s.finalRack t with
    | none => exact .inr (.inl (exitCancelled_of_empty h hf))
    | some r =>
      obtain ⟨sh, hs⟩ := exists_sheet_of_finalRack hf
      exact .inr (.inr ⟨r, (mem_of_finalRack hf).1, sh, hs, exitCancelled_of_read h hf hs⟩)
  · exact .inl ⟨h, exitCancelled_of_ne h⟩

/-- The gate is left without an EXIT of the port, and the other gate as it is. -/
theorem exitCancelled_gates (s : State) (p : Port) (t : Tunnel) :
    ((s.exitCancelled p t).tunnels.get t).deferredExit ≠ some p ∧
      (s.exitCancelled p t).tunnels.get t.other = s.tunnels.get t.other := by
  have hdropped : ((exitDropped s t).tunnels.get t).deferredExit ≠ some p ∧
      (exitDropped s t).tunnels.get t.other = s.tunnels.get t.other := by
    refine ⟨?_, PerTunnel.get_set_other _ t _⟩
    rw [exitDropped, PerTunnel.get_set_same]
    nofun
  rcases exitCancelled_cases s p t with ⟨h, he⟩ | he | ⟨r, -, sh, -, he⟩ <;> rw [he]
  · exact ⟨h, rfl⟩
  · exact hdropped
  · exact hdropped

/-- Tag, place and verdict of every record stay. -/
theorem exitCancelled_records (htags : Tags s.racks) (p : Port) (t : Tunnel) :
    (s.exitCancelled p t).racks.map (fun r => (r.tag, r.place, r.sheet.bind (·.verdict))) =
      s.racks.map fun r => (r.tag, r.place, r.sheet.bind (·.verdict)) := by
  rcases exitCancelled_cases s p t with ⟨-, he⟩ | he | ⟨r, hm, sh, hs, he⟩ <;> rw [he]
  · rfl
  · refine map_edited fun x hx ht => ?_
    obtain rfl := eq_of_tag htags hm hx ht
    rw [hs]
    rfl

theorem tags_exitCancelled (htags : Tags s.racks) (p : Port) (t : Tunnel) : Tags (s.exitCancelled p t).racks := by
  have h := congrArg (List.map Prod.fst) (exitCancelled_records htags p t)
  rw [List.map_map, List.map_map] at h
  exact (congrArg List.Nodup h).mpr htags

/-! ### The role -/

/-- The state with the port's waiting request discarded and its pending admission dropped. -/
def requestsDropped (s : State) (p : Port) : State := { s with
  ports := s.ports.set p { s.ports[p] with queue := s.ports[p].queue.take 1 }
  pendingAdmission := if s.pendingAdmission.map (·.port) = some p then none else s.pendingAdmission }

/-- What a new role makes of an event that owes nothing. -/
theorem roleChanged_word (htags : Tags s.racks) (p : Port) :
    (s.event.roleChanged p).toState = ((requestsDropped s p).exitCancelled p .a).exitCancelled p .b ∧
      (s.event.roleChanged p).out = [] ∧ (s.event.roleChanged p).wantPairing = false ∧
      dues (s.event.roleChanged p) = (false, ⟨false, false⟩, decide (s.pendingAdmission.map (·.port) = some p)) := by
  unfold Event.roleChanged
  dsimp only
  generalize he : (if ({ s.event with ports := _ } : Event).pendingAdmission.map (·.port) = some p then
    ({ s.event with ports := _ } : Event).dropPending else { s.event with ports := _ }) = e
  have hbase : e.toState = requestsDropped s p ∧ e.out = [] ∧ e.wantPairing = false ∧
      dues e = (false, ⟨false, false⟩, decide (s.pendingAdmission.map (·.port) = some p)) := by
    subst he
    unfold requestsDropped
    by_cases h : s.pendingAdmission.map (·.port) = some p
    · have h' : s.event.pendingAdmission.map (·.port) = some p := h
      simp only [h, h', if_true, decide_true]
      exact ⟨rfl, rfl, rfl, rfl⟩
    · have h' : ¬ s.event.pendingAdmission.map (·.port) = some p := h
      simp only [h, h', if_false, decide_false]
      exact ⟨rfl, rfl, rfl, rfl⟩
  obtain ⟨hstate, hout, hpair, hdues⟩ := hbase
  have hte : Tags e.racks := hstate ▸ htags
  obtain ⟨hstateA, houtA, hduesA, hpairA⟩ := cancelExit_word hte p .a
  have htA : Tags (e.cancelExit p .a).racks := hstateA ▸ tags_exitCancelled hte p .a
  obtain ⟨hstateB, houtB, hduesB, hpairB⟩ := cancelExit_word htA p .b
  exact ⟨by rw [hstateB, hstateA, hstate], by rw [houtB, houtA, hout], by rw [hpairB, hpairA, hpair],
    by rw [hduesB, hduesA, hdues]⟩

/-- Only the written port's role is another. -/
theorem rolesChanged_only {ps : List Port} : ∀ {e : Event}, ps.Nodup → p ∈ ps → old.roles[p] ≠ e.config.roles[p] →
    (∀ q, q ≠ p → old.roles[q] = e.config.roles[q]) → e.rolesChanged old ps = e.roleChanged p := by
  induction ps with
  | nil => exact fun _ h => absurd h List.not_mem_nil
  | cons q ps ih =>
    intro e hd hm hne heq
    obtain ⟨hq, hd⟩ := List.nodup_cons.mp hd
    rw [Event.rolesChanged]
    by_cases h : q = p
    · subst h
      have hconfig : (e.roleChanged q).config = e.config := by
        have hf := (Registers.kept_roleChanged (f := { ports := true }) rfl e q).fixed
        injection hf
      rw [if_neg hne]
      exact rolesChanged_same ps _ fun x hx => hconfig ▸ heq x fun he => hq (he ▸ hx)
    · rw [if_pos (heq q h)]
      exact ih hd ((List.mem_cons.mp hm).resolve_left (Ne.symm h)) hne heq

theorem itemOf_role (p : Port) : itemOf (BitVec.ofNat 16 (40 + p.val)).toNat = some (.role p) := by
  fin_cases p <;> rfl

theorem put_role (c : Configuration) (p : Port) (role : Role) :
    c.put (.role p) (BitVec.ofNat 32 role.code).toNat = some { c with roles := c.roles.set p role } := by
  have hcode : (BitVec.ofNat 32 role.code).toNat = role.code := by
    cases role with
    | tunnel t | unload t => cases t <;> rfl
    | _ => rfl
  rw [hcode, Configuration.put, roleOf_code]
  rfl

/-- A write of a role alone does what the new role makes of its port. -/
theorem writing_role {c' : Configuration} (hc : c' = { s.config with roles := s.config.roles.set p role })
    (hs' : s' = { s with config := c' }) (hne : s.config.roles[p] ≠ role) :
    writing s c' (.role p) = s'.event.roleChanged p := by
  have hp : c'.roles[p] = role := by
    rw [hc]
    exact Vector.getElem_set_self p.isLt
  have hq (q : Port) (h : q ≠ p) : s.config.roles[q] = c'.roles[q] := by
    rw [hc]
    exact (get_set_ne _ h role).symm
  have hlimits : c'.minDwell = s.config.minDwell ∧ c'.maxDwell = s.config.maxDwell := by
    rw [hc]
    exact ⟨rfl, rfl⟩
  have hroles : s'.event.rolesChanged s.config allPorts = s'.event.roleChanged p := by
    have hmem : p ∈ allPorts := by fin_cases p <;> decide
    refine rolesChanged_only (by decide) hmem ?_ fun q h => ?_
    · rw [show s'.event.config = c' from congrArg _ hs', hp]
      exact hne
    · rw [show s'.event.config = c' from congrArg _ hs']
      exact hq q h
  have hconfig : (s'.event.roleChanged p).config = c' := by
    have hf := (Registers.kept_roleChanged (f := { ports := true }) rfl s'.event p).fixed
    injection hf with _ _ _ _ _ _ _ hconfig
    exact hconfig.trans (congrArg _ hs')
  have hquiet (t : Tunnel) : (s'.event.roleChanged p).testAfterWrite s.config [.role p] t = s'.event.roleChanged p :=
    testAfterWrite_quiet (i := .role p) nofun (by rw [hconfig, hlimits.1]) (by rw [hconfig, hlimits.2]) t
  have hafter : s'.event.afterWrite s.config [.role p] = owing (((s'.event.roleChanged p).testAfterWrite s.config
      [.role p] .a).testAfterWrite s.config [.role p] .b) false false := by
    unfold Event.afterWrite
    rw [hroles]
    rfl
  rw [hquiet, hquiet, owing_nothing] at hafter
  rw [← hafter, hs']
  rfl

/-- Settles O57: the write changes one port's role, and the event owes idle times at most. -/
theorem roleChangeCancelsDeferredRequests : Obligations.RoleChangeCancelsDeferredRequests := by
  rintro p role x s s' hr hx hlaw hne hs'
  have htags : Tags s.racks := (lawful_event hlaw).tags
  obtain ⟨s₁, hs₁⟩ : ∃ s₁ : State, s₁ = { s with config := { s.config with roles := s.config.roles.set p role } } :=
    ⟨_, rfl⟩
  have htags₁ : Tags s₁.racks := hs₁ ▸ htags
  have hs'₁ : s' = ((requestsDropped s₁ p).exitCancelled p .a).exitCancelled p .b := by
    rw [hs', hs₁]
    rfl
  have htagsA := tags_exitCancelled (s := requestsDropped s₁ p) htags₁ p .a
  refine ⟨?_, fun u => ?_, ?_⟩
  · obtain ⟨hstate, hout, hpair, hdues⟩ := roleChanged_word htags₁ p
    obtain ⟨hreeval, hroom, hidle⟩ : (s₁.event.roleChanged p).wantReeval = false ∧
        (s₁.event.roleChanged p).room = ⟨false, false⟩ ∧
        (s₁.event.roleChanged p).wantIdle = decide (s₁.pendingAdmission.map (·.port) = some p) := by
      simpa only [dues, Prod.mk.injEq] using hdues
    rw [exec_writeOne hr hx (itemOf_role p) (put_role s.config p role), writing_role rfl hs₁ hne,
      settled_calm hpair ⟨hroom, hreeval⟩, hstate, hout, hidle, ← hs'₁]
    have hpending : s₁.pendingAdmission = s.pendingAdmission := by rw [hs₁]
    have hword : followed (s', []) (whenever (decide (s.pendingAdmission.map (·.port) = some p)) (·.idledBoth)) =
        if s.pendingAdmission.map (·.port) = some p then s'.idledBoth else (s', []) := by
      rw [followed_pure, whenever]
      exact if_congr decide_eq_true_iff rfl rfl
    have hnumber : (BitVec.ofNat 16 (40 + p.val)).toNat = 40 + p.val := by
      rw [BitVec.toNat_ofNat]
      omega
    have hcode : (s.config.roles.set p role)[p] = role := Vector.getElem_set_self p.isLt
    rw [hpending, hword, hnumber]
    exact congrArg (fun n => Host.Outcome.next ((ended _).respond x ⟨.done, .config [(40 + p.val, n)]⟩))
      (congrArg Role.code hcode)
  · rw [hs'₁]
    obtain ⟨hA, -⟩ := exitCancelled_gates (requestsDropped s₁ p) p .a
    obtain ⟨hB, hother⟩ := exitCancelled_gates ((requestsDropped s₁ p).exitCancelled p .a) p .b
    cases u with
    | a => exact (congrArg TunnelContext.deferredExit hother).trans_ne hA
    | b => exact hB
  · rw [hs'₁, exitCancelled_records htagsA, exitCancelled_records (s := requestsDropped s₁ p) htags₁, hs₁]
    rfl

end Sys2Proof.Proofs.RoleChanges
end

section
/-! Room told to the shut gates (R51, R140): a rack gone from COLLECT or HOLD, or from a full unload table. -/

namespace Sys2Proof.Proofs.ShutGates

open Sys2Proof.Machine Sys2Proof.Proofs.Tables Sys2Proof.Proofs.Acts Sys2Proof.Proofs.ActsKeepTheTable
  Sys2Proof.Proofs.Requests Sys2Proof.Proofs.Words Sys2Proof.Proofs.Owing Sys2Proof.Proofs.GateTests
  Sys2Proof.Proofs.GateWords Sys2Proof.Proofs.Endings Sys2Proof.Proofs.LaneLists Sys2Proof.Proofs.TunnelLaw
  Sys2Proof.Proofs.Chains Sys2Proof.Proofs.Beginnings Sys2Proof.Proofs.Pairing Sys2Proof.Proofs.OtherGate
  Sys2Proof.Proofs.Departures Sys2Proof.Proofs.Relocations

variable {s s' : State} {e : Event} {t : Tunnel} {y r rb : Rack} {sh shb : PassSheet} {v va vb : Verdict} {g : Target}

/-! ### Both gates shut -/

/-- A shut gate with a rack read and judged makes the release test. -/
theorem retested_eq (hg : (s.tunnels.get t).gateShut = true) (hf : s.finalRack t = some r) (hs : r.sheet = some sh)
    (hv : sh.verdict = some v) (hx : sh.exitRequested = true) :
    s.retested t = s.gateTest t r v (s.tunnels.get t).deferredExit := by
  simp only [State.retested, hg, hf, hs, hv, hx]

/-- A departure that owes no pairing leaves nothing to pair. -/
theorem paired_of_unwanted (h : Paired e) (hw : e.wantPairing = false) : e.toState.paired = (e.toState, []) := by
  rw [← paired_whenever h, hw, whenever_false]

/-- Room in COLLECT or HOLD, told to the gates. -/
theorem concluded_told (hp : s.paired = (s, [])) (hy : y.place = .collect ∨ y.place = .hold) :
    s.concluded y.place = s.reevaluated (followed (s.retested .a) (·.retested .b)) := by
  have htold : s.retestedAfter y.place = followed (s.retested .a) (·.retested .b) := by
    rcases hy with hy | hy <;> rw [hy] <;> rfl
  rw [State.concluded, hp, followed_pure, htold]

/-- What the gates see of a state: the tunnels and the lanes. -/
structure SameGates (s s' : State) : Prop where
  tags : Tags s'.racks
  tunnels : s'.tunnels = s.tunnels
  lane : ∀ t, s'.lane t = s.lane t

section Both

variable (hsame : SameGates s s') (hga : s.tunnels.a.gateShut = true) (hfa : s.finalRack .a = some r)
  (hsa : r.sheet = some sh) (hva : sh.verdict = some va) (hxa : sh.exitRequested = true)
  (hgb : s.tunnels.b.gateShut = true) (hfb : s.finalRack .b = some rb) (hsb : rb.sheet = some shb)
  (hvb : shb.verdict = some vb) (hxb : shb.exitRequested = true)
include hsame hga hfa hsa hva hxa hgb hfb hsb hvb hxb

/-- Both shut gates test again, A before B; the test at A changes nothing of that at B but the room. -/
theorem both_retested : followed (s'.retested .a) (·.retested .b) =
    followed (s'.gateTest .a r va s.tunnels.a.deferredExit) (·.gateTest .b rb vb s.tunnels.b.deferredExit) := by
  have hfa' : s'.finalRack .a = some r := (congrArg (List.find? _) (hsame.lane .a)).trans hfa
  have hfb' : s'.finalRack .b = some rb := (congrArg (List.find? _) (hsame.lane .b)).trans hfb
  have hA : s'.retested .a = s'.gateTest .a r va s.tunnels.a.deferredExit := by
    rw [retested_eq (t := .a) (by rw [hsame.tunnels]; exact hga) hfa' hsa hva hxa, hsame.tunnels]
    rfl
  have hapart := apart_retested hsame.tags .a
  rw [hA] at hapart ⊢
  have htunnel : (s'.gateTest .a r va s.tunnels.a.deferredExit).1.tunnels.get .b = s.tunnels.b :=
    hapart.tunnel.trans (by rw [hsame.tunnels]; rfl)
  have hB := retested_eq (t := .b) (by rw [htunnel]; exact hgb) (hapart.finalRack.trans hfb') hsb hvb hxb
  rw [htunnel] at hB
  unfold followed
  dsimp only
  rw [hB]

end Both

theorem sameGates_without (htags : Tags s.racks) (hm : y ∈ s.racks) (hy : OffLane y) :
    SameGates s { s with racks := s.racks.filter (·.tag ≠ y.tag) } where
  tags := htags.sublist (List.filter_sublist.map _)
  tunnels := rfl
  lane t := (laneIn_without s.racks y.tag t).trans (laneIn_filter_other htags hm (hy t))

theorem relocation_core (s : State) (hy : y.place = .collect ∨ y.place = .hold) (g : Target) :
    (s.relocation y g).racks = rejoined s.racks (y.goneTo g s.now) ∧ (s.relocation y g).tunnels = s.tunnels := by
  unfold State.relocation State.vacated State.holdNoted
  rcases hy with hy | hy <;> simp only [hy]
  all_goals
    split
    · split <;> exact ⟨rfl, rfl⟩
    · exact ⟨rfl, rfl⟩

theorem offLane_of_room (hy : y.place = .collect ∨ y.place = .hold) : OffLane y := fun t => by
  rcases hy with hy | hy <;> rw [hy] <;> nofun

theorem sameGates_relocation (htags : Tags s.racks) (hm : y ∈ s.racks) (hy : y.place = .collect ∨ y.place = .hold)
    (g : Target) : SameGates s (s.relocation y g) := by
  obtain ⟨hracks, htunnels⟩ := relocation_core s hy g
  refine ⟨hracks ▸ tags_rejoined htags _, htunnels, fun t => ?_⟩
  have hgone : (y.goneTo g s.now).place ≠ .tunnel t := by
    cases g <;> exact nofun
  rw [lane_eq, hracks, laneIn_rejoined, if_neg hgone, List.append_nil]
  exact laneIn_filter_other (r := y) htags hm (offLane_of_room hy t)

/-! ### RETIRE and RELOCATE -/

theorem remove_unwanted (hy : y.place = .collect ∨ y.place = .hold) : (s.event.remove y).wantPairing = false := by
  unfold Event.remove Event.departed
  rcases hy with hy | hy <;> rw [hy] <;> rfl

theorem join_unwanted {x : Rack} (hx : x.place ≠ .returnLoop) (e : Event) :
    (e.join x).wantPairing = e.wantPairing := by
  unfold Event.join
  dsimp only
  split
  · split <;> rfl
  · next hp => exact absurd hp hx
  · rfl

theorem relocating_unwanted (hy : y.place = .collect ∨ y.place = .hold) (hg : g.place ≠ .returnLoop) :
    (relocating s y g).wantPairing = false := by
  have hjoin := join_unwanted (x := (y.relocated g).moved g.rackState g.place
    (if g = .hold then some .manual else none) s.now) hg s.event
  unfold relocating Event.move
  rw [departed_relocated]
  unfold Event.departed
  rcases hy with hy | hy <;> rw [hy] <;> exact hjoin

theorem state_of_room (h : s.recordLaw) {n : Nat} (hr : s.rack? n = some y)
    (hy : y.place = .collect ∨ y.place = .hold) : y.state ≠ .washing := by
  intro hw
  have hplaced := (soundRack_of_lookup h hr).placed
  unfold Rack.placed at hplaced
  rcases hy with hy | hy <;> simp [hy, hw] at hplaced

/-- A retirement from COLLECT or HOLD: both gates told. -/
theorem retired_told (h : s.pairedLaw) {n : Nat} (hr : s.rack? n = some y)
    (hy : y.place = .collect ∨ y.place = .hold) (hn : s.pendingAdmission.map (·.tag) ≠ some n) :
    settled (s.event.retireRack y) = (s.without y).reevaluated
      (followed ((s.without y).retested .a) (·.retested .b)) := by
  have ho := offLane_of_room hy
  obtain ⟨-, hp⟩ := lawful_and_paired h (acts_retireRack hr ho)
  obtain ⟨hstate, -, -, hpending⟩ := removed (s := s) ho
  obtain ⟨-, rfl⟩ := State.rack?_some hr
  have hun : s.event.retireRack y = s.event.remove y := Event.cancelPending_of_ne (by rw [hpending]; exact hn)
  have hpaired := paired_of_unwanted (hun ▸ hp) (remove_unwanted hy)
  rw [hstate] at hpaired
  rw [settled_retired h hr (state_of_room h.1 hr hy) hn, concluded_told hpaired hy]

/-- A move between COLLECT and HOLD: both gates told. -/
theorem relocated_told (h : s.pairedLaw) {n : Nat} (hr : s.rack? n = some y)
    (hy : y.place = .collect ∨ y.place = .hold) (hg : y.mayGo g) (hp : g.place ≠ .returnLoop)
    (hroom : ¬ s.fullTarget g) (hn : s.pendingAdmission.map (·.tag) ≠ some n) :
    settled ((relocating s y g).cancelPending n) = (s.relocation y g).reevaluated
      (followed ((s.relocation y g).retested .a) (·.retested .b)) := by
  have hs := state_of_room h.1 hr hy
  have hacts := acts_relocate h.1 n g
  rw [serveRelocate_moved hr hs hg hroom] at hacts
  obtain ⟨-, hpair⟩ := lawful_and_paired h hacts
  obtain ⟨hstate, -, -, hpending⟩ := relocating_made (s := s) (soundRack_of_lookup h.1 hr) (offLane_of_room hy) g
  have hun : (relocating s y g).cancelPending n = relocating s y g :=
    Event.cancelPending_of_ne (by rw [hpending]; exact hn)
  have hpaired := paired_of_unwanted (hun ▸ hpair) (relocating_unwanted hy hp)
  rw [hstate] at hpaired
  rw [settled_relocated h hr hs hg hroom hn, concluded_told hpaired hy]

end Sys2Proof.Proofs.ShutGates
end

section
/-! A rack that has come to the unload table stays there, and its gate open, through what else its release sets off. -/

namespace Sys2Proof.Proofs.Landing

open Sys2Proof.Machine Sys2Proof.Proofs.Tables Sys2Proof.Proofs.Acts Sys2Proof.Proofs.ActsKeepTheTable
  Sys2Proof.Proofs.Requests Sys2Proof.Proofs.Words Sys2Proof.Proofs.Owing Sys2Proof.Proofs.GateTests
  Sys2Proof.Proofs.GateWords Sys2Proof.Proofs.Endings Sys2Proof.Proofs.LaneLists Sys2Proof.Proofs.TunnelLaw
  Sys2Proof.Proofs.Chains Sys2Proof.Proofs.Beginnings Sys2Proof.Proofs.Pairing Sys2Proof.Proofs.OtherGate

variable {s s' : State} {t u : Tunnel} {x y r : Rack} {ps : Vector PortState 8} {c : TunnelContext} {v : Verdict}

/-- The rack `x` has come to the unload table of `t` from its gate, which is open, and the ports are `ps`. -/
structure Landed (t : Tunnel) (x : Rack) (ps : Vector PortState 8) (s : State) : Prop where
  tags : Tags s.racks
  mem : x ∈ s.racks
  gate : (s.tunnels.get t).gateShut = false ∧ (s.tunnels.get t).deferredExit = none
  pending : ∀ q, s.pendingAdmission = some q → q.tag ≠ x.tag
  ports : s.ports = ps

theorem Landed.lookup (h : Landed t x ps s) : s.rack? x.tag = some x := State.rack?_of_mem h.tags h.mem

/-- A tunnel's context changed in what is not its gate. -/
theorem Landed.turned (h : Landed t x ps s) (u : Tunnel) (hg : c.gateShut = (s.tunnels.get u).gateShut)
    (hd : c.deferredExit = (s.tunnels.get u).deferredExit) :
    Landed t x ps { s with tunnels := s.tunnels.set u c } where
  tags := h.tags
  mem := h.mem
  gate := by
    rcases tunnel_eq_or_other u t with rfl | rfl
    · rw [PerTunnel.get_set_same, hg, hd]
      exact h.gate
    · rw [PerTunnel.get_set_other]
      exact h.gate
  pending := h.pending
  ports := h.ports

theorem Landed.roused (h : Landed t x ps s) (u : Tunnel) : Landed t x ps (s.roused u) := h.turned u rfl rfl

theorem Landed.wakened (h : Landed t x ps s) : Landed t x ps s.wakened.1 := by
  unfold State.wakened
  dsimp only
  split
  · exact h
  · dsimp only
    split
    · split
      · exact (h.roused .a).roused .b
      · exact h.roused .a
    · split
      · exact h.roused .b
      · exact h

theorem Landed.idled (h : Landed t x ps s) (u : Tunnel) : Landed t x ps (s.idled u).1 := by
  unfold State.idled
  dsimp only
  split
  · exact h.turned u rfl rfl
  · exact h

theorem Landed.idledBoth (h : Landed t x ps s) : Landed t x ps s.idledBoth.1 := (h.idled .a).idled .b

/-- The record of another rack rejoined. -/
theorem Landed.of_rejoined (h : Landed t x ps s) (hy : y.tag ≠ x.tag) (hr : s'.racks = rejoined s.racks y)
    (hg : (s'.tunnels.get t).gateShut = (s.tunnels.get t).gateShut ∧
      (s'.tunnels.get t).deferredExit = (s.tunnels.get t).deferredExit)
    (hq : s'.pendingAdmission = s.pendingAdmission) (hp : s'.ports = s.ports) : Landed t x ps s' where
  tags := hr ▸ tags_rejoined h.tags y
  mem := hr ▸ mem_rejoined.mpr (.inl ⟨h.mem, hy.symm⟩)
  gate := ⟨hg.1.trans h.gate.1, hg.2.trans h.gate.2⟩
  pending := fun q hs => h.pending q (hq ▸ hs)
  ports := hp.trans h.ports

/-- A rack admitted. -/
theorem Landed.admittedInto (h : Landed t x ps s) (hy : y.tag ≠ x.tag) (u : Tunnel) :
    Landed t x ps (s.admittedInto u y).1 := by
  refine h.of_rejoined (y := (s.admittedInto u y).1.racks.getLast (by simp [State.admittedInto, rejoined]))
    ?_ ?_ ?_ rfl rfl
  · simpa [State.admittedInto, rejoined] using hy
  · simp [State.admittedInto, rejoined]
  · cases t <;> cases u <;> exact ⟨rfl, rfl⟩

theorem rehoused_desk (s : State) (r' : Rack) (d : Destination) (cause : Option HoldCause) :
    (rehoused s r' d cause).pendingAdmission = s.pendingAdmission ∧ (rehoused s r' d cause).ports = s.ports := by
  unfold rehoused State.holdNoted
  by_cases hc : cause = some .repeatFail
  all_goals
    simp only [hc, if_true, if_false]
    split
    · split <;> exact ⟨rfl, rfl⟩
    · exact ⟨rfl, rfl⟩

/-- A test at the other gate. -/
theorem Landed.gateTest (h : Landed t x ps s) (hy : y.tag ≠ x.tag) (v : Verdict) (grant : Option Port) :
    Landed t x ps (s.gateTest t.other y v grant).1 := by
  cases hrow : s.gateRow t.other v y.passes with
  | none =>
    rw [gateTest_shut hrow]
    exact ⟨h.tags, h.mem, by cases t <;> exact h.gate, h.pending, h.ports⟩
  | some d =>
    rw [gateTest_released (d := d.1) (cause := d.2) hrow]
    obtain ⟨hq, hp⟩ := rehoused_desk s (y.released v d.1 d.2 s.now) d.1 d.2
    refine h.of_rejoined (y := y.released v d.1 d.2 s.now) hy (releasedFrom_racks s t.other y v d.1 d.2) ?_ hq hp
    cases t <;> exact ⟨rfl, rfl⟩

/-- A gate told of room. -/
theorem Landed.retested (h : Landed t x ps s) (hx : x.place = .unload t) (u : Tunnel) :
    Landed t x ps (s.retested u).1 := by
  rcases tunnel_eq_or_other t u with rfl | rfl
  · rw [State.retested_of_open h.gate.1]
    exact h
  · unfold State.retested
    split
    · next y _ hf =>
      obtain ⟨hm, hp, -⟩ := mem_of_finalRack hf
      have hy : y.tag ≠ x.tag := fun ht => by
        rw [eq_of_tag h.tags h.mem hm ht, hx] at hp
        cases hp
      split
      · split
        · exact h.gateTest hy _ _
        · exact h
      · exact h
    · exact h

theorem Landed.retestedAfter (h : Landed t x ps s) (hx : x.place = .unload t) (left : Place) :
    Landed t x ps (s.retestedAfter left).1 := by
  unfold State.retestedAfter
  split
  · exact (h.retested hx .a).retested hx .b
  · exact (h.retested hx .a).retested hx .b
  · exact h.retested hx _
  · exact h

/-- The grant of the pending admission, which is of another rack. -/
theorem Landed.granted (h : Landed t x ps s) (hx : x.place = .unload t) {q : PendingAdmission} (hy : y.tag ≠ x.tag)
    (u : Tunnel) : Landed t x ps (s.granted q u y).1 := by
  have hdropped : Landed t x ps { s with pendingAdmission := none } :=
    ⟨h.tags, h.mem, h.gate, fun _ hq => (nomatch hq), h.ports⟩
  exact ((hdropped.admittedInto hy u).retestedAfter hx y.place).idledBoth

theorem Landed.reconsidered (h : Landed t x ps s) (hx : x.place = .unload t) :
    Landed t x ps s.reconsidered.1 := by
  unfold State.reconsidered
  split
  · exact h
  · next q hq =>
    have hne := h.pending q hq
    split
    · exact h.wakened
    · exact h.granted hx hne _
    · next hr => exact h.granted hx ((State.rack?_some hr).2 ▸ hne) _
    · exact h

end Sys2Proof.Proofs.Landing
end

section
/-! A place that gains room makes a shut gate test release again (R51, R140). -/

namespace Sys2Proof.Proofs.RoomReopens

open Sys2Proof.Machine Sys2Proof.Proofs.Tables Sys2Proof.Proofs.Acts Sys2Proof.Proofs.ActsKeepTheTable
  Sys2Proof.Proofs.Requests Sys2Proof.Proofs.Words Sys2Proof.Proofs.Owing Sys2Proof.Proofs.GateTests
  Sys2Proof.Proofs.GateWords Sys2Proof.Proofs.Endings Sys2Proof.Proofs.LaneLists Sys2Proof.Proofs.TunnelLaw
  Sys2Proof.Proofs.Chains Sys2Proof.Proofs.Beginnings Sys2Proof.Proofs.Pairing Sys2Proof.Proofs.OtherGate
  Sys2Proof.Proofs.Departures Sys2Proof.Proofs.Relocations Sys2Proof.Proofs.ShutGates Sys2Proof.Proofs.Landing
  Sys2Proof.Proofs.ModesAndClasses Sys2Proof.Proofs.StationPorts Sys2Proof.Proofs.WindowRequests

variable {s s' : State} {t : Tunnel} {x y r : Rack} {sh : PassSheet} {p q : Port} {tag : BitVec 24}

/-! ### What a run of pairing leaves of the rest -/

/-- `s'` is `s` but for what pairing changes, as the gates and the ports see it. -/
structure DeskOnly (s s' : State) : Prop where
  tags : Tags s'.racks
  members : ∀ pl, pl ≠ .returnLoop → s'.members pl = s.members pl
  tunnels : s'.tunnels = s.tunnels
  pending : s'.pendingAdmission = s.pendingAdmission
  ports : s'.ports = s.ports
  now : s'.now = s.now

theorem deskOnly_paired (htags : Tags s.racks) : DeskOnly s s.paired.1 := by
  have hstate : (s.event.pairAll s.unassigned).toState = s.paired.1 := (s.event.pairAll_carries s.unassigned).1
  have hrerouted : AllRerouted s.racks (s.event.pairAll s.unassigned).racks :=
    pairAll_rerouted _ s.event (onReturn_of_mem htags fun r hr =>
      ⟨(mem_unassigned.mp hr).1, (mem_unassigned.mp hr).2.1⟩)
  have hk : Registers.Kept {} s.event.toState (s.event.pairAll s.unassigned).toState := Registers.kept_pairAll _ s.event
  have hfixed := hk.fixed
  injection hfixed with _ _ _ _ _ _ hnow
  rw [← hstate]
  exact {
    tags := tags_of_unrouted (hstate ▸ (pairingFrame_paired htags).racks) htags
    members := fun pl hp => hrerouted.filter_place hp
    tunnels := pairAll_tunnels _ s.event
    pending := ActsKeepTheTable.pairAll_pending _ s.event
    ports := hk.ports rfl
    now := hnow }

/-- Pairing sends no GRANT. -/
theorem rank_offeredAll (rs : List Rack) : ∀ s : State, ∀ m ∈ (s.offeredAll rs).2, m.2.rank ≠ 0 := by
  induction rs with
  | nil => exact fun _ _ h => absurd h List.not_mem_nil
  | cons r rs ih =>
    intro s m hm
    rcases List.mem_append.mp hm with hm | hm
    · unfold State.offered at hm
      split at hm
      · cases hm
      · obtain ⟨p, -, rfl⟩ := List.mem_map.mp hm
        exact nofun
    · exact ih _ m hm

/-- A GRANT made after a run of pairing goes out first. -/
theorem inOrder_grant_first {routes rest : List (Port × Message)} {m : Port × Message}
    (hroutes : ∀ x ∈ routes, x.2.rank ≠ 0) (hm : m.2.rank = 0) :
    ∃ more, inOrder (routes ++ m :: rest) = m :: more := by
  have hnil : routes.filter (fun x => decide (x.2.rank = 0)) = [] :=
    List.filter_eq_nil_iff.mpr fun x hx => by simpa using hroutes x hx
  unfold inOrder
  rw [List.flatMap_cons, List.filter_append, hnil, List.nil_append, List.filter_cons, if_pos (decide_eq_true hm)]
  exact ⟨_, List.cons_append⟩

/-- The first message of an event joins the list of a port that has room and is not answered. -/
theorem transmit_first {y : Made} {m : Message} {more : List (Port × Message)} (hy : y.1.ports = s.ports)
    (ho : inOrder y.2 = (q, m) :: more) (hq : q ≠ p) (hroom : s.ports[q].transmit.length < 32) (k : ReqKind)
    (payload : List Byte) (st : Status) (f : Fields) :
    (s.ports[q].transmit ++ [⟨.loose, .message m⟩]) <+: (replied y p k payload st f).ports[q].transmit := by
  have hother : (y.1.answered p k payload st f).ports[q] = s.ports[q] := by
    rw [State.answered, hy]
    exact Vector.getElem_set_ne p.isLt q.isLt fun he => hq (Fin.ext he.symm)
  obtain ⟨n, hn⟩ : ∃ n, 32 - s.ports[q].transmit.length = n + 1 := ⟨31 - s.ports[q].transmit.length, by omega⟩
  rw [replied, deliver_port, hother, ho, framesFor_cons, if_pos rfl, hn, List.take_succ_cons]
  exact ⟨(framesFor q more).take n, List.append_assoc ..⟩

/-! ### The rack taken off the unload table -/

/-- The release of the rack in FINAL of `t` with PASS, when its unload table has room. -/
theorem retested_passed (hg : (s.tunnels.get t).gateShut = true) (hd : (s.tunnels.get t).deferredExit = some q)
    (hf : s.finalRack t = some r) (hs : r.sheet = some sh) (hv : sh.verdict = some .pass)
    (hx : sh.exitRequested = true) (hroom : s.count (.unload t) < 3) : s.retested t =
      (s.releasedFrom t r .pass (.unload t) none, (q, .grantExit r.tag .pass (.unload t)) :: s.closingEnded t r) := by
  have hrow : s.gateRow t .pass r.passes = some (.unload t, none) := by
    simp only [State.gateRow, if_true, hroom]
  rw [retested_eq hg hf hs hv hx, gateTest_released hrow, hd]
  rfl

/-- The rack released stands on the unload table, and its gate is open. -/
theorem landed_released (htags : Tags s.racks) (hn : ∀ a, s.pendingAdmission = some a → a.tag ≠ r.tag) :
    Landed t (r.released .pass (.unload t) none s.now) s.ports (s.releasedFrom t r .pass (.unload t) none) where
  tags := releasedFrom_racks s t r .pass (.unload t) none ▸ tags_rejoined htags _
  mem := releasedFrom_racks s t r .pass (.unload t) none ▸ mem_rejoined.mpr (.inr rfl)
  gate := by
    unfold State.releasedFrom
    dsimp only
    rw [PerTunnel.get_set_same]
    split
    · split <;> exact ⟨rfl, rfl⟩
    · exact ⟨rfl, rfl⟩
  pending := hn
  ports := rfl

theorem Landed.reevaluated {ps : Vector PortState 8} {m : Made} (h : Landed t x ps m.1) (hx : x.place = .unload t) :
    Landed t x ps (s.reevaluated m).1 := by
  unfold State.reevaluated
  split
  · exact h
  · exact h.reconsidered hx

theorem reevaluated_messages (s : State) (m : Made) : ∃ more, (s.reevaluated m).2 = m.2 ++ more := by
  unfold State.reevaluated
  split
  · exact ⟨[], (List.append_nil _).symm⟩
  · exact ⟨_, rfl⟩

/-- The gate told of the room that a rack gone from its unload table leaves. -/
theorem concluded_unload (htags : Tags s.racks) (hn : ∀ a, s.pendingAdmission = some a → a.tag ≠ r.tag)
    (hg : (s.tunnels.get t).gateShut = true) (hd : (s.tunnels.get t).deferredExit = some q)
    (hf : s.finalRack t = some r) (hs : r.sheet = some sh) (hv : sh.verdict = some .pass)
    (hx : sh.exitRequested = true) (hroom : s.count (.unload t) < 3) :
    Landed t (r.released .pass (.unload t) none s.now) s.ports (s.concluded (.unload t)).1 ∧
      ∃ more, inOrder (s.concluded (.unload t)).2 = (q, .grantExit r.tag .pass (.unload t)) :: more := by
  have hdesk := deskOnly_paired htags
  have hf' : s.paired.1.finalRack t = some r :=
    (congrArg (List.find? _) (hdesk.members (.tunnel t) nofun)).trans hf
  have hroom' : s.paired.1.count (.unload t) < 3 := by
    rw [State.count, hdesk.members (.unload t) nofun]
    exact hroom
  have hret := retested_passed (s := s.paired.1) (by rw [hdesk.tunnels]; exact hg) (by rw [hdesk.tunnels]; exact hd)
    hf' hs hv hx hroom'
  have hland := landed_released (t := t) (r := r) hdesk.tags (by rw [hdesk.pending]; exact hn)
  rw [hdesk.now, hdesk.ports] at hland
  constructor
  · show Landed t _ s.ports (s.paired.1.reevaluated (s.paired.1.retested t)).1
    rw [hret]
    exact Landed.reevaluated hland rfl
  · obtain ⟨more, hmore⟩ := reevaluated_messages s.paired.1 (s.paired.1.retested t)
    show ∃ more, inOrder (s.paired.2 ++ (s.paired.1.reevaluated (s.paired.1.retested t)).2) = _
    rw [hmore, hret]
    exact inOrder_grant_first (rank_offeredAll s.unassigned s) rfl

/-- A rack in a lane is not the pending admission's. -/
theorem pending_ne_of_final (h : s.recordLaw) (hf : s.finalRack t = some r) {a : PendingAdmission}
    (ha : s.pendingAdmission = some a) : a.tag ≠ r.tag := by
  obtain ⟨hm, hp, -⟩ := mem_of_finalRack hf
  exact pending_tag_ne h ha hm (not_admissible_of_place (by rw [hp]; nofun) (by rw [hp]; nofun))

/-- The state with the rack of an unload table gone to RETURN. -/
theorem count_gone (htags : Tags s.racks) (hm : y ∈ s.racks) (hp : y.place = .unload t) {y' : Rack}
    (ht : y'.tag = y.tag) (hp' : y'.place = .returnLoop) :
    ({ s with racks := rejoined s.racks y' } : State).count (.unload t) + 1 = s.count (.unload t) := by
  have hcount (l : List Rack) : (l.filter fun x => decide (x.place = .unload t)).length =
      l.countP fun x => decide (x.place = .unload t) := List.countP_eq_length_filter.symm
  have hout := countP_without htags hm fun x => decide (x.place = .unload t)
  rw [if_pos (decide_eq_true hp)] at hout
  unfold State.count State.members
  rw [hcount, hcount, ← hout, rejoined, ht, List.countP_append, List.countP_singleton, hp']
  rfl

theorem finalRack_gone (htags : Tags s.racks) (hm : y ∈ s.racks) (hp : y.place = .unload t) {y' : Rack}
    (ht : y'.tag = y.tag) (hp' : y'.place = .returnLoop) :
    ({ s with racks := rejoined s.racks y' } : State).finalRack t = s.finalRack t := by
  have hlane : laneIn (rejoined s.racks y') t = laneIn s.racks t := by
    rw [laneIn_rejoined, if_neg (by rw [hp']; nofun), List.append_nil, ht]
    exact laneIn_filter_other htags hm (by rw [hp]; nofun)
  exact congrArg (List.find? _) hlane

/-- An EMPTIED of a rack that is not due and finds room on RETURN (`emptiedByTheTable`). -/
theorem exec_emptied_back (hf : s.free p (.unload t)) (ht : validTag tag) (h : s.recordLaw)
    (hy : s.rack? tag.toNat = some y) (hp : y.place = .unload t) (hdue : y.serviceDue = false)
    (hlimit : s.config.serviceLimitOf y.cls = 0) (hreturn : s.count .returnLoop < 32) :
    ∃ y' f, y'.tag = y.tag ∧ y'.place = .returnLoop ∧ exec (.emptied p tag) s =
      .next (replied (({ s with racks := rejoined s.racks y' } : State).concluded (.unload t)) p .emptied
        (tagBytes tag.toNat) .done f) := by
  obtain ⟨-, -, hback, -⟩ := emptiedByTheTable p t tag _ _ y _ _ s _ hf ht hy rfl rfl rfl rfl rfl
  have hdue' : (y.serviceDue || decide (s.config.serviceLimitOf y.cls ≠ 0 ∧ s.config.serviceLimitOf y.cls ≤
      if y.cycles < 65535 then y.cycles + 1 else 65535)) = false := by
    rw [hdue, decide_eq_false fun hc => hc.1 hlimit]
    rfl
  rw [hdue'] at hback
  have hexec := hback hp (.inl rfl) hreturn h
  simp only [Bool.false_eq_true, if_false] at hexec
  refine ⟨_, _, ?_, ?_, hexec⟩
  · rfl
  · rfl

/-- Settles O49: the gates told of room test again (`concluded_unload`, `both_retested`). -/
theorem roomReopensAShutGate : Obligations.RoomReopensAShutGate := by
  rintro p q t tag y r sh x rb shb va vb g s s' ht h hy
  have htags : Tags s.racks := (lawful_event h).tags
  obtain ⟨hm, htag⟩ := State.rack?_some hy
  refine ⟨fun hf hp hdue hlimit hreturn hcount hg hd hfin hs hv hx hqp hroom => ?_,
    fun hr hp hpair hn hga hfa hsa hva hxa hgb hfb hsb hvb hxb => ⟨fun hx hs' => ?_, fun hx hmove hfull hs' => ?_⟩⟩
  · obtain ⟨y', f, hy', hp', hexec⟩ := exec_emptied_back hf ht h hy hp hdue hlimit hreturn
    have hgone := count_gone htags hm hp hy' hp'
    obtain ⟨hland, more, hmore⟩ := concluded_unload (s := { s with racks := rejoined s.racks y' })
      (tags_rejoined htags y') (fun a ha => pending_ne_of_final h hfin ha) hg hd
      ((finalRack_gone htags hm hp hy' hp').trans hfin) hs hv hx (by omega)
    refine ⟨_, hexec, ?_, ?_, ?_, transmit_first hland.ports hmore hqp hroom _ _ _ _⟩
    · rw [State.rack?, (replied_registers _ p .emptied _ _ _).1]
      exact hland.lookup
    · rw [replied, State.deliver_tunnels]
      exact hland.gate.1
    · rw [replied, State.deliver_tunnels]
      exact hland.gate.2
  · have hoff := offLane_of_room hp
    have hretire := retireTag_known ((isTag_iff tag).mpr ht) hy (state_of_room h hy hp)
    have hwithout : s.without y = s' := by
      rw [hs', State.without, State.vacated]
      rcases hp with hp | hp <;> rw [hp]
    have hboth := both_retested (hs' ▸ sameGates_without htags hm hoff) hga hfa hsa hva hxa hgb hfb hsb hvb hxb
    rw [exec_retire hr hx hretire, retired_told hpair hy hp hn, hwithout, hboth]
  · have hgo : y.mayGo g ∧ g.place ≠ .returnLoop := by
      rcases hmove with ⟨hpy, rfl⟩ | ⟨hpy, rfl⟩
      · exact ⟨.inr (.inl hpy), nofun⟩
      · exact ⟨⟨fun t _ => offLane_of_room hp t, by rw [hpy]; nofun⟩, nofun⟩
    have hnumber : (BitVec.ofNat 8 (targetNumber g)).toNat = targetNumber g := by
      cases g <;> rfl
    have hserve := serveRelocate_moved hy (state_of_room h hy hp) hgo.1 hfull
    have hboth := both_retested (hs' ▸ sameGates_relocation htags hm hp g) hga hfa hsa hva hxa hgb hfb hsb hvb hxb
    rw [exec_supervisorRelocate hr hx ht hnumber hserve, relocated_told hpair hy hp hgo.1 hgo.2 hfull hn, ← hs', hboth]
    rfl

end Sys2Proof.Proofs.RoomReopens
end
